-- ==== Sys2Proof/Word.lean ====
section
/-! DEFINITION. The widths of the WZ4410's quantities: the words that wrap are bit vectors, the names of
ports and slots are bounded numbers. -/

namespace Sys2Proof

/-- One byte of a record or of a span-link message (R178 to R180). -/
abbrev Byte := BitVec 8

/-- A value of the time base: a 48-bit count of microseconds that wraps (R26). -/
abbrev Time := BitVec 48

/-- The 8-bit generation of a stream record or of an in-service slot (R1, R105). -/
abbrev Gen := BitVec 8

/-- The number of a stream record, 0 to 255 (R1). -/
abbrev Handle := BitVec 8

/-- The 16-bit attachment count of a node port (R149). -/
abbrev Epoch := BitVec 16

/-- The 32-bit arrival sequence of a piece in a span queue (R58). -/
abbrev ArrivalSeq := BitVec 32

/-- The 32-bit cookie of a frame read (R47). -/
abbrev Cookie := BitVec 32

/-- The first block of an extent, 48 bits (R49). -/
abbrev StartBlock := BitVec 48

/-- The opaque 64-bit destination token of an extent (R49). -/
abbrev Token := BitVec 64

/-- A node port, N0 to N3. -/
abbrev NodeId := Fin 4

/-- A span port, S0 to S7. -/
abbrev SpanId := Fin 8

/-- An in-service slot of a span, 0 to 7 (R105). -/
abbrev SlotId := Fin 8

end Sys2Proof
end

