-- ==== Sys2Proof/Config.lean ====
section
/-! DEFINITION. The fixed quantities of the part (the manual's capacities table) and the defaults of its
parameters (R185, R186). The manual leaves no value of the part to the implementation, so no free
value stands here. -/

namespace Sys2Proof.Config

/-- Stream records (R1). -/
def streamRecords : Nat := 256
/-- Frame records (R47, R51). -/
def frameRecords : Nat := 512
/-- Piece records (R49, R51). -/
def pieceRecords : Nat := 2048
/-- Records of a command FIFO (R166). -/
def commandFifo : Nat := 16
/-- Places of an event FIFO (R166, R170). -/
def eventFifo : Nat := 64
/-- Bytes of a command record (R178). -/
def commandBytes : Nat := 256
/-- Bytes of an event record (R179). -/
def eventBytes : Nat := 512
/-- Body slots of an event record (R179). -/
def bodySlots : Nat := 61
/-- The highest frame number (R1, R52). -/
def maxFrame : Nat := 2147483647
/-- The deadline horizon in microseconds (R37). -/
def horizon : Nat := 2 ^ 40
/-- The length of one training attempt in microseconds (R116). -/
def attemptTime : Nat := 50000
/-- The number of training attempts (R116). -/
def attempts : Nat := 4
/-- The value a stream counter, or a counter of R124, holds at (R1, R124). -/
def counterTop : Nat := 4294967295
/-- The value a window count, the lost count and sets accepted hold at (R128, R170, R181). -/
def countTop : Nat := 65535
/-- The value the windows-since-change count holds at (R128). -/
def sinceTop : Nat := 255
/-- The value the clean count holds at (R128). -/
def cleanTop : Nat := 16
/-- The part number and design revision that QUERY_PART reports (R176). -/
def partNumber : Nat := 4410
def designRevision : Nat := 1

end Sys2Proof.Config
end

