-- ==== Sys2Proof/Syntax.lean ====
section
/-! DEFINITION. The commands and events of the part: one constructor of `Instr` for each row of the opcode
table.

A row that names a node's command (ATTACH to PART_RESET, UNKNOWN_COMMAND) is the event of the Node Port
TAKING that command from the head of its command FIFO (R167), so its operand is the node; the command's
own arguments stand in the 256-byte record (R178) that COMMAND_WINDOW_WRITE put there. A row by which one
block takes what another block reported (PIECE_OUTCOME, CEILING_REPORT, PARAMETER_REPORT and the like)
names the place where the report is taken; what was reported stands in the state's list of reports in
flight (notes/assumptions 1 to 3). -/

namespace Sys2Proof

/-- An access to a node port's windows other than a command write or an event read (R165). -/
inductive WindowAccess where
  /-- A write to the event window. -/
  | eventWrite (bytes : List Byte)
  /-- A write to the time window. -/
  | timeWrite (bytes : List Byte)
  /-- A read of the command window, of so many bytes. -/
  | commandRead (len : Nat)
  /-- A read of the time window, of so many bytes; only a read of 8 bytes returns the time base. -/
  | timeRead (len : Nat)
  deriving DecidableEq, Repr

/-- A block that reads parameters and takes the Configuration Block's reports of them (R187). -/
inductive ParamBlock where
  | admission
  | deadlineUnit
  | nodePort (n : NodeId)
  | arbiter (j : SpanId)
  | monitor (j : SpanId)
  | service (j : SpanId)
  deriving DecidableEq, Repr

/-- The commands and events of the part, in the order of the opcode table. -/
inductive Instr where
  /-- POWER_ON_RESET (R191). -/
  | powerOnReset
  /-- RESET_PIN (R192). -/
  | resetPin
  /-- COMMAND_WINDOW_WRITE: node `n` writes `bytes` to its command window (R166). -/
  | commandWindowWrite (n : NodeId) (bytes : List Byte)
  /-- EVENT_WINDOW_READ: node `n` reads `len` bytes of its event window (R172). -/
  | eventWindowRead (n : NodeId) (len : Nat)
  /-- WINDOW_ACCESS_IGNORED, and the 8-byte read of the time window (R165). -/
  | windowAccessIgnored (n : NodeId) (access : WindowAccess)
  /-- UNKNOWN_COMMAND taken by node port `n` (R167). -/
  | unknownCommand (n : NodeId)
  | attach (n : NodeId)
  | detach (n : NodeId)
  | heartbeat (n : NodeId)
  | clearNodeFlags (n : NodeId)
  | queryPart (n : NodeId)
  | openStream (n : NodeId)
  | closeStream (n : NodeId)
  | adopt (n : NodeId)
  | queryStream (n : NodeId)
  | play (n : NodeId)
  | stop (n : NodeId)
  | scrub (n : NodeId)
  | frameRead (n : NodeId)
  | querySpan (n : NodeId)
  | clearTrip (n : NodeId)
  | ackSpanStatus (n : NodeId)
  | linkReset (n : NodeId)
  | configBegin (n : NodeId)
  | configSet (n : NodeId)
  | configGet (n : NodeId)
  | configEnd (n : NodeId)
  | partReset (n : NodeId)
  /-- PCIE_LINK_DOWN at node port `n` (R154). -/
  | pcieLinkDown (n : NodeId)
  /-- PCIE_LINK_UP at node port `n` (R154, R175). -/
  | pcieLinkUp (n : NodeId)
  /-- HEARTBEAT_TIMER_EXPIRY of node `n` (R151). -/
  | heartbeatTimerExpiry (n : NodeId)
  /-- ORPHAN_TIMER_EXPIRY of the stream at handle `h` (R159). -/
  | orphanTimerExpiry (h : Handle)
  /-- CANCEL_UNDISPATCHED: the Frame Table takes a cancellation owed to the stream at `h` (R32, R158). -/
  | cancelUndispatched (h : Handle)
  /-- DRAIN_END of the stream at `h` (R17). -/
  | drainEnd (h : Handle)
  /-- ABSENT_RELEASE of span `j` at the Admission Unit (R19). -/
  | absentRelease (j : SpanId)
  /-- LINK_STATE_REPORT of span `j` at the Admission Unit (R21, R114). -/
  | linkStateReport (j : SpanId)
  /-- CEILING_REPORT of span `j` at the Admission Unit (R13, R137). -/
  | ceilingReport (j : SpanId)
  /-- PIECE_OUTCOME: the Frame Table takes the outcome given for piece record `p` (R60). -/
  | pieceOutcome (p : Nat)
  /-- DEADLINE_EXPIRY of span queue `j` (R43). -/
  | deadlineExpiry (j : SpanId)
  /-- LATE_REPORT: the Frame Table takes the oldest late report of span `j` (R44, R45). -/
  | lateReport (j : SpanId)
  /-- WINDOW_OPENING_EXPIRY of span queue `j` (R97). -/
  | windowOpeningExpiry (j : SpanId)
  /-- SELECTION: arbiter `j` takes an event that starts a selection (R89). -/
  | selection (j : SpanId)
  /-- DISPATCH: one dispatch of a selection in progress at arbiter `j` (R90). -/
  | dispatch (j : SpanId)
  /-- MASK_WRITE taken by arbiter `j` (R98). -/
  | maskWrite (j : SpanId)
  /-- SETTLE_TIMER_EXPIRY of the stream at `h` (R76). -/
  | settleTimerExpiry (h : Handle)
  /-- EXTENT_DONE on span link `j`, with its slot, generation and result bytes (R108, R180). -/
  | extentDone (j : SpanId) (slot gen result : Byte)
  /-- SLOT_EXPIRY of slot `k` of span `j` (R111). -/
  | slotExpiry (j : SpanId) (k : SlotId)
  /-- READY on span link `j`, with the attempt number it answers (R116, R180). -/
  | ready (j : SpanId) (attempt : Byte)
  /-- TRAINING_ATTEMPT_EXPIRY of span `j` (R116). -/
  | trainingAttemptExpiry (j : SpanId)
  /-- LINK_LOSS_INDICATION of span `j` (R117). -/
  | linkLossIndication (j : SpanId)
  /-- RELINK_HOLD_EXPIRY of span `j` (R119). -/
  | relinkHoldExpiry (j : SpanId)
  /-- QUEUE_SPAN_LOSS: span queue `j` takes its span's ABSENT report (R99). -/
  | queueSpanLoss (j : SpanId)
  /-- PRESENCE_DEASSERTED at span `j` (R120). -/
  | presenceDeasserted (j : SpanId)
  /-- PRESENCE_ASSERTED at span `j` (R121). -/
  | presenceAsserted (j : SpanId)
  /-- SPAN_MESSAGE_OTHER: a message of another type on span link `j` (R180). -/
  | spanMessageOther (j : SpanId) (bytes : List Byte)
  /-- LATENCY_REPORT of span `j` at the monitor (R131). -/
  | latencyReport (j : SpanId)
  /-- TRIP_CLASS_EVENT of span `j` at the monitor (R132). -/
  | tripClassEvent (j : SpanId)
  /-- MONITOR_WINDOW_EXPIRY of span `j` (R133). -/
  | monitorWindowExpiry (j : SpanId)
  /-- MONITOR_ABSENT of span `j` (R143). -/
  | monitorAbsent (j : SpanId)
  /-- PARAMETER_REPORT taken by the block named (R187). -/
  | parameterReport (b : ParamBlock)
  /-- CONFIGURED_CEILING_CHANGE of span `j` at the monitor (R141). -/
  | configuredCeilingChange (j : SpanId)
  deriving DecidableEq, Repr

end Sys2Proof
end

