-- ==== Sys2Proof/Machine/Pool.lean ====
section
/-! DEFINITION. A pool of numbered records held sparsely: the records in use, each under its number, numbers
strictly rising. A number that is not listed is a free record. -/

namespace Sys2Proof.Machine

/-- The records in use of a pool, by number, numbers strictly rising. -/
abbrev Pool (α : Type) := List (Nat × α)

/-- The record numbered `i`, if it is in use. -/
def Pool.get {α : Type} : Pool α → Nat → Option α
  | [], _ => none
  | (k, v) :: r, i => if k = i then some v else Pool.get r i

/-- Record `i` put in use with contents `v`, or its contents replaced. -/
def Pool.put {α : Type} : Pool α → Nat → α → Pool α
  | [], i, v => [(i, v)]
  | (k, w) :: r, i, v =>
    if i < k then (i, v) :: (k, w) :: r
    else if i = k then (i, v) :: r
    else (k, w) :: Pool.put r i v

/-- Record `i` returned to the pool. -/
def Pool.free {α : Type} : Pool α → Nat → Pool α
  | [], _ => []
  | (k, w) :: r, i => if k = i then r else (k, w) :: Pool.free r i

/-- The contents of record `i` changed by `f`, if it is in use. -/
def Pool.modify {α : Type} : Pool α → Nat → (α → α) → Pool α
  | [], _, _ => []
  | (k, w) :: r, i, f => if k = i then (k, f w) :: r else (k, w) :: Pool.modify r i f

/-- The contents of every record in use changed by `f`. -/
def Pool.each {α : Type} (p : Pool α) (f : α → α) : Pool α := p.map fun kv => (kv.1, f kv.2)

/-- The numbers of the records in use whose contents satisfy a test, rising. -/
def Pool.numbersOf {α : Type} (p : Pool α) (test : α → Bool) : List Nat := (p.filter fun kv => test kv.2).map Prod.fst

/-- How many records in use satisfy a test. -/
def Pool.countOf {α : Type} (p : Pool α) (test : α → Bool) : Nat := (p.filter fun kv => test kv.2).length

/-- The numbers in use. -/
def Pool.keys {α : Type} (p : Pool α) : List Nat := p.map Prod.fst

/-- The lowest number from `i` on that no rising list of numbers in use holds. -/
def lowestFrom : List Nat → Nat → Nat
  | [], i => i
  | k :: r, i => if k = i then lowestFrom r (i + 1) else if k < i then lowestFrom r i else i

/-- The lowest-numbered free record (R4, R51). -/
def Pool.lowestFree {α : Type} (p : Pool α) : Nat := lowestFrom p.keys 0

/-- The `n` lowest numbers from `i` on that a rising list of numbers in use does not hold, rising. -/
def lowestManyFrom : Nat → List Nat → Nat → List Nat
  | 0, _, _ => []
  | n + 1, used, i =>
    let j := lowestFrom used i
    j :: lowestManyFrom n used (j + 1)

/-- The `n` lowest-numbered free records, rising (R51). -/
def Pool.lowestFreeMany {α : Type} (p : Pool α) (n : Nat) : List Nat := lowestManyFrom n p.keys 0

/-- The canonical form of a pool of `cap` records: numbers strictly rising and below `cap`. -/
def Pool.wf {α : Type} (cap : Nat) (p : Pool α) : Bool :=
  decide (p.keys.Pairwise (· < ·)) && p.keys.all (fun k => decide (k < cap))

end Sys2Proof.Machine
end

