-- ==== Sys2Proof/Machine/Types.lean ====
section
/-! DEFINITION. The records and the per-block state of the WZ4410, as the chapters of the manual lay them down. -/

namespace Sys2Proof.Machine

/-! ## Banks -/

/-- A bank of four, one for each node port, given member by member. -/
def bank4 {α : Type} (f : NodeId → α) : Vector α 4 := #v[f 0, f 1, f 2, f 3]

/-- A bank of eight, one for each span or for each slot of a span, given member by member. -/
def bank8 {α : Type} (f : Fin 8 → α) : Vector α 8 := #v[f 0, f 1, f 2, f 3, f 4, f 5, f 6, f 7]

/-! ## Named values -/

/-- The states of a stream record (R2). -/
inductive StreamState where
  | free | stopped | playing | scrubbing | closing | orphaned
  deriving DecidableEq, Repr

/-- The scrub policies (R1). -/
inductive ScrubPolicy where
  | lastWins | every
  deriving DecidableEq, Repr

/-- The late policies (R1). -/
inductive LatePolicy where
  | skip | serve
  deriving DecidableEq, Repr

/-- The kinds of a frame (R36). -/
inductive FrameKind where
  | play | park | scrub
  deriving DecidableEq, Repr

/-- The states of a frame record in use (R48). -/
inductive FrameState where
  | held | active | finishing
  deriving DecidableEq, Repr

/-- The cancel reasons of a frame (R61). -/
inductive CancelReason where
  | cancelled | superseded | skipped
  deriving DecidableEq, Repr

/-- The outcomes of a piece, in the order of the table (R59). -/
inductive PieceOutcome where
  | ok | mediaError | timedOut | spanLost | cancelled | skipped | superseded
  deriving DecidableEq, Repr

/-- The states of a piece record in use; a record not in use is FREE (R50). -/
inductive PieceState where
  | held | queued | inService
  deriving DecidableEq, Repr

/-- The urgency classes (R39). -/
inductive Urgency where
  | late | urgent | due | ahead | future | background
  deriving DecidableEq, Repr

/-- The states of a node (R148). -/
inductive NodeState where
  | detached | attached | lost
  deriving DecidableEq, Repr

/-- The states of a span's link, as reported and as written in records (R115, R179). -/
inductive LinkState where
  | absent | training | up | failed
  deriving DecidableEq, Repr

/-- The health of a span (R129). -/
inductive Health where
  | normal | derated | tripped
  deriving DecidableEq, Repr

/-- The causes of LINK_DOWN (R123). -/
inductive LinkDownCause where
  | loss | reset
  deriving DecidableEq, Repr

/-- The causes of PEER_LOST (R162). -/
inductive LossCause where
  | heartbeat | linkDown
  deriving DecidableEq, Repr

/-- The kinds of a reset (R190). -/
inductive ResetKind where
  | powerOn | pin | command
  deriving DecidableEq, Repr

/-- The start flag of the reset record (R190). -/
inductive StartFlag where
  | cold | warm
  deriving DecidableEq, Repr

/-- The statuses of a RESULT, in the order of their codes (R169, R179). -/
inductive ResultStatus where
  | ok | badArgs | notAttached | notOwner | noStream | noRecord | overBudget | unservable
  | spanDown | wrongState | notOrphaned | busy | notHolder | active | early
  deriving DecidableEq, Repr

/-- The statuses of a FRAME_DONE, in the order of their codes (R52, R63, R179). -/
inductive FrameStatus where
  | ok | partialOk | failed | cancelled | superseded | lateSkipped
  | refusedStream | refusedState | refusedArgs | refusedDuplicate | refusedDepth | refusedPool
  deriving DecidableEq, Repr

/-- The kinds of a STREAM_NOTICE (R162, R179). -/
inductive StreamNotice where
  | orphaned | adopted | closed
  deriving DecidableEq, Repr

/-- The kinds of a SPAN_NOTICE (R123, R138, R13, R179). -/
inductive SpanNotice where
  | linkDown | linkUp | holdExpired | linkFailed | spanAbsent | spanPresent
  | derated | restored | tripped | tripCleared | overcommitOn | overcommitOff
  deriving DecidableEq, Repr

/-- The kinds of a NODE_NOTICE (R162, R171, R179). -/
inductive NodeNotice where
  | peerAttached | peerDetached | peerLost | claimReleased | noticeLost
  deriving DecidableEq, Repr

/-! ## Event records and span-link messages -/

/-- What an event record is: its record kind together with its byte 1 (R179). -/
inductive EventTag where
  | empty
  | result (status : ResultStatus)
  | frameDone (status : FrameStatus)
  | streamNotice (kind : StreamNotice)
  | spanNotice (kind : SpanNotice)
  | nodeNotice (kind : NodeNotice)
  deriving DecidableEq, Repr

/-- One body slot of an event record: a 64-bit value, or absent (R179). -/
abbrev Field := Option (BitVec 64)

/-- An event record as written to an event FIFO; the count of records left is known only at its read (R179). -/
structure EventRec where
  tag : EventTag
  command : Nat
  epoch : Epoch
  time : Time
  body : List Field
  deriving DecidableEq, Repr

/-- The two messages that the part sends on a span link (R180). -/
inductive SpanMessage where
  | readExtent (slot : SlotId) (gen : Gen) (count : Nat) (start : StartBlock) (token : Token)
  | train (attempt : Nat)
  deriving DecidableEq, Repr

/-! ## The Admission Unit's stream table, with the Settle Hold's item of each stream -/

/-- A stream id: handle and generation (R4). -/
structure StreamId where
  handle : Handle
  gen : Gen
  deriving DecidableEq, Repr

/-- The anchor of a playing stream (R28). -/
structure Anchor where
  time : Time
  frame : Nat
  speed : Int
  deriving DecidableEq, Repr

/-- One entry of a span list (R1). -/
structure SpanEntry where
  span : SpanId
  u : Nat
  reserved : Bool
  deriving DecidableEq, Repr

/-- A stream record that is not FREE (R1), and the Settle Hold's timer and scrub list for it (R71). The width W is
the length of the span list; the handle and the generation stand in the table. -/
structure Stream where
  state : StreamState
  owner : Option NodeId
  prior : Option StreamState
  period : Nat
  frameBlocks : Nat
  share : Nat
  spans : List SpanEntry
  depth : Nat
  lead : Nat
  settle : Nat
  scrub : ScrubPolicy
  late : LatePolicy
  anchor : Option Anchor
  outstanding : Nat
  degraded : Bool
  framesOk : Nat
  framesLate : Nat
  framesSkipped : Nat
  framesFailed : Nat
  orphanExpiry : Option Time
  settleExpiry : Option Time
  scrubList : List Nat
  deriving DecidableEq, Repr

/-! ## The Frame Table -/

/-- A position of a frame: the piece record that is not finished, or the outcome (R47). -/
inductive Position where
  | piece (p : Nat)
  | finished (o : PieceOutcome)
  deriving DecidableEq, Repr

/-- A frame record in use (R47). Its state (R48) and its unfinished count are derived from its positions. -/
structure Frame where
  stream : StreamId
  node : NodeId
  epoch : Epoch
  cookie : Cookie
  number : Nat
  kind : FrameKind
  deadline : Option Time
  cancel : Option CancelReason
  positions : List Position
  accepted : Time
  deriving DecidableEq, Repr

/-- A piece record in use (R49). -/
structure Piece where
  frame : Nat
  position : Nat
  span : SpanId
  start : StartBlock
  count : Nat
  token : Token
  state : PieceState
  seq : Option ArrivalSeq
  deriving DecidableEq, Repr

/-! ## Node Ports -/

/-- One allocated vector: FIRED or ARMED, and whether it holds a message for link-up (R174, R175). -/
structure VectorState where
  fired : Bool
  held : Bool
  deriving DecidableEq, Repr

/-- The heartbeat fields of an ATTACHED node: period held (ms), acceptance window held (per cent), last accepted
time and timer expiry (R147, R151). -/
structure Heartbeat where
  period : Nat
  window : Nat
  last : Time
  expiry : Time
  deriving DecidableEq, Repr

/-- A node record with its exchange state (R147, R170), the values of the heartbeat parameters last reported to
the port (R187), and what the port has put out: vector messages sent and the bytes of the last read. -/
structure Node where
  state : NodeState
  epoch : Epoch
  vectors : List VectorState
  heartbeat : Option Heartbeat
  overrun : Bool
  underrun : Bool
  noticeLost : Bool
  earlyBeat : Bool
  lostCount : Nat
  lossPending : Option Time
  reserved : Nat
  commands : List (List Byte)
  events : List EventRec
  linkUp : Bool
  heartbeatPeriod : Nat
  heartbeatWindow : Nat
  messages : List Nat
  readData : List Byte
  deriving DecidableEq, Repr

/-! ## The blocks of one span -/

/-- A Span Queue: its two lists of piece records and its two timers (R84, R43, R96). -/
structure SpanQueue where
  deadlines : List Nat
  background : List Nat
  deadlineTimer : Option Time
  windowTimer : Option Time
  deriving DecidableEq, Repr

/-- A Dispatch Arbiter: pointers and mask (R88), the selections in progress (R90), and the parameters as they were
last reported to it (R187). -/
structure Arbiter where
  rotation : NodeId
  backgroundPtr : Handle
  masked : Bool
  selections : Nat
  depth : Nat
  backgroundShare : Nat
  urgent : Nat
  due : Nat
  lookahead : Nat
  deriving DecidableEq, Repr

/-- What a slot holds (R105). -/
inductive SlotState where
  | free
  | busy (piece : Nat) (dispatched expiry : Time)
  | zombie (dispatched : Time)
  deriving DecidableEq, Repr

/-- An in-service slot (R105). -/
structure Slot where
  gen : Gen
  state : SlotState
  deriving DecidableEq, Repr

/-- The state of a span's link, with the present attempt and its timer in TRAINING (R115, R116). -/
inductive Link where
  | absent
  | training (attempt : Nat) (expiry : Time)
  | up
  | failed
  deriving DecidableEq, Repr

/-- A Span Service Unit: slots, link, presence line, relink hold and counters (R105, R115, R118, R124), the
parameters as last reported to it, and the messages it has sent on the link. -/
structure SpanService where
  slots : Vector Slot 8
  presence : Bool
  link : Link
  relinkExpiry : Option Time
  staleCount : Nat
  timeoutCount : Nat
  linkLossCount : Nat
  commandTimeout : Nat
  relinkHold : Nat
  sent : List SpanMessage
  deriving DecidableEq, Repr

/-- The previous-window record of a span (R128). -/
structure WindowRecord where
  top : Nat
  trip : Nat
  completions : Nat
  peak : Option Int
  deriving DecidableEq, Repr

/-- The parameters of one span that the monitor reads, as last reported to it (R128, R187). -/
structure MonitorParams where
  ceiling : Nat
  floor : Nat
  step : Nat
  delay : Nat
  recover : Nat
  auto : Bool
  window : Nat
  top : Nat
  trip : Nat
  deriving DecidableEq, Repr

/-- The Span Health Monitor's state for one span (R128). Health is derived (R129). -/
structure Monitor where
  tripped : Bool
  effective : Nat
  start : Time
  expiry : Time
  topLimit : Nat
  tripLimit : Nat
  counts : WindowRecord
  previous : WindowRecord
  since : Nat
  clean : Nat
  topSeen : Bool
  tripSeen : Bool
  params : MonitorParams
  deriving DecidableEq, Repr

/-- The Admission Unit's entry for one span: the budget (R12), the link state, effective ceiling and trip last
reported to it (R114, R137), and the parameters last reported to it (R187). -/
structure Budget where
  committed : Nat
  overcommit : Bool
  link : LinkState
  effective : Nat
  tripped : Bool
  overhead : Nat
  transfer : Nat
  ceiling : Nat
  deriving DecidableEq, Repr

/-- All that the part keeps for one span. -/
structure SpanState where
  queue : SpanQueue
  arbiter : Arbiter
  service : SpanService
  monitor : Monitor
  budget : Budget
  deriving DecidableEq, Repr

/-! ## The Configuration Block -/

/-- The part-wide parameters (R185). -/
structure PartParams where
  urgent : Nat
  due : Nat
  lookahead : Nat
  scrubTarget : Nat
  settle : Nat
  heartbeatPeriod : Nat
  heartbeatWindow : Nat
  grace : Nat
  deriving DecidableEq, Repr

/-- The parameters as last reported to the Deadline Unit (R187): the class bounds, from which it derives nothing (R39),
and the scrub target, from which it gives a released frame its deadline (R38). -/
structure DeadlineParams where
  urgent : Nat
  due : Nat
  lookahead : Nat
  scrubTarget : Nat
  deriving DecidableEq, Repr

/-- The parameters of one span (R186). -/
structure SpanParams where
  overhead : Nat
  transfer : Nat
  depth : Nat
  background : Nat
  ceiling : Nat
  floor : Nat
  step : Nat
  delay : Nat
  recover : Nat
  auto : Bool
  window : Nat
  top : Nat
  trip : Nat
  timeout : Nat
  relinkHold : Nat
  deriving DecidableEq, Repr

/-- The Configuration Block: parameters, claim (R181) and reset record (R190). -/
structure ConfigBlock where
  part : PartParams
  spans : Vector SpanParams 8
  holder : Option NodeId
  setsAccepted : Nat
  resetKind : ResetKind
  start : StartFlag
  loaded : Bool
  deriving DecidableEq, Repr

/-! ## Reports in flight -/

/-- A frame named by a late report: its record, stream, number and accepted time (R43, R44). -/
structure LateFrame where
  record : Nat
  stream : StreamId
  number : Nat
  accepted : Time
  deriving DecidableEq, Repr

/-- What one block has reported to another that has not taken it yet. -/
inductive Report where
  /-- A cancellation owed to a stream after its owner's loss or DETACH: of the frames of that node and epoch
  (R148, R158). -/
  | cancel (stream : StreamId) (node : NodeId) (epoch : Epoch)
  /-- A change of a span's link state, to the Admission Unit (R114). -/
  | linkState (j : SpanId) (link : LinkState)
  /-- A span's becoming ABSENT, to the Admission Unit (R19, R120). -/
  | absent (j : SpanId)
  /-- A change of effective ceiling or trip, to the Admission Unit (R137). -/
  | ceiling (j : SpanId) (effective : Nat) (tripped : Bool)
  /-- A piece's outcome, to the Frame Table (R59, R60). -/
  | outcome (p : Nat) (o : PieceOutcome)
  /-- A piece whose deadline has passed in its queue, to the Frame Table (R43). -/
  | late (j : SpanId) (frame : LateFrame)
  /-- An event that starts a selection, to the arbiter (R89). -/
  | select (j : SpanId)
  /-- The monitor's write of the class mask, to the arbiter (R98). -/
  | mask (j : SpanId) (set : Bool)
  /-- A span's becoming ABSENT, to its queue (R99, R120). -/
  | queueLoss (j : SpanId)
  /-- A completion latency, to the monitor (R114). -/
  | latency (j : SpanId) (latency : Int)
  /-- A command's timeout, to the monitor (R111). -/
  | tripClass (j : SpanId)
  /-- A span's becoming ABSENT, to the monitor (R120, R143). -/
  | monitorAbsent (j : SpanId)
  /-- Stored parameter values, by scope and parameter number, to a block that reads them (R187). -/
  | param (b : ParamBlock) (scope : Option SpanId) (values : List (Nat × Nat))
  /-- A stored configured ceiling and the derate floor beside it, to the monitor (R141). -/
  | configuredCeiling (j : SpanId) (ceiling floor : Nat)
  deriving DecidableEq, Repr

end Sys2Proof.Machine
end

