-- ==== Sys2Proof/Machine/Layout.lean ====
section
/-! DEFINITION. The layouts that the part exposes: the codes of named values, the body fields and the 512 bytes of
an event record (R179), and the bytes of span-link messages (R180). -/

namespace Sys2Proof.Machine

/-! ## Codes of named values (R179) -/

def StreamState.code : StreamState → Nat
  | .free => 0 | .stopped => 1 | .playing => 2 | .scrubbing => 3 | .closing => 4 | .orphaned => 5

def NodeState.code : NodeState → Nat
  | .detached => 0 | .attached => 1 | .lost => 2

def LinkState.code : LinkState → Nat
  | .absent => 0 | .training => 1 | .up => 2 | .failed => 3

def Health.code : Health → Nat
  | .normal => 0 | .derated => 1 | .tripped => 2

def FrameKind.code : FrameKind → Nat
  | .play => 0 | .park => 1 | .scrub => 2

def ScrubPolicy.code : ScrubPolicy → Nat
  | .lastWins => 0 | .every => 1

def LatePolicy.code : LatePolicy → Nat
  | .skip => 0 | .serve => 1

def LinkDownCause.code : LinkDownCause → Nat
  | .loss => 0 | .reset => 1

def LossCause.code : LossCause → Nat
  | .heartbeat => 0 | .linkDown => 1

def ResetKind.code : ResetKind → Nat
  | .powerOn => 0 | .pin => 1 | .command => 2

def StartFlag.code : StartFlag → Nat
  | .cold => 0 | .warm => 1

/-- An outcome is written as its position in the table of R59. -/
def PieceOutcome.code : PieceOutcome → Nat
  | .ok => 0 | .mediaError => 1 | .timedOut => 2 | .spanLost => 3 | .cancelled => 4 | .skipped => 5 | .superseded => 6

/-- The policy that a code of the table names; a value that is no code names none (R178). -/
def ScrubPolicy.ofCode : Nat → Option ScrubPolicy
  | 0 => some .lastWins | 1 => some .every | _ => none

def LatePolicy.ofCode : Nat → Option LatePolicy
  | 0 => some .skip | 1 => some .serve | _ => none

/-! ## Record kind and byte 1 (R179) -/

def ResultStatus.code : ResultStatus → Nat
  | .ok => 0 | .badArgs => 1 | .notAttached => 2 | .notOwner => 3 | .noStream => 4 | .noRecord => 5
  | .overBudget => 6 | .unservable => 7 | .spanDown => 8 | .wrongState => 9 | .notOrphaned => 10
  | .busy => 11 | .notHolder => 12 | .active => 13 | .early => 14

def FrameStatus.code : FrameStatus → Nat
  | .ok => 0 | .partialOk => 1 | .failed => 2 | .cancelled => 3 | .superseded => 4 | .lateSkipped => 5
  | .refusedStream => 6 | .refusedState => 7 | .refusedArgs => 8 | .refusedDuplicate => 9
  | .refusedDepth => 10 | .refusedPool => 11

def StreamNotice.code : StreamNotice → Nat
  | .orphaned => 0 | .adopted => 1 | .closed => 2

def SpanNotice.code : SpanNotice → Nat
  | .linkDown => 0 | .linkUp => 1 | .holdExpired => 2 | .linkFailed => 3 | .spanAbsent => 4 | .spanPresent => 5
  | .derated => 6 | .restored => 7 | .tripped => 8 | .tripCleared => 9 | .overcommitOn => 10 | .overcommitOff => 11

def NodeNotice.code : NodeNotice → Nat
  | .peerAttached => 0 | .peerDetached => 1 | .peerLost => 2 | .claimReleased => 3 | .noticeLost => 4

/-- Byte 0 of an event record: its kind. -/
def EventTag.kindCode : EventTag → Nat
  | .empty => 0 | .result _ => 1 | .frameDone _ => 2 | .streamNotice _ => 3 | .spanNotice _ => 4 | .nodeNotice _ => 5

/-- Byte 1 of an event record (R179). DESIGN CHOICE: that of an EMPTY record is 0 (notes/assumptions 17). -/
def EventTag.statusCode : EventTag → Nat
  | .empty => 0
  | .result st => st.code
  | .frameDone st => st.code
  | .streamNotice k => k.code
  | .spanNotice k => k.code
  | .nodeNotice k => k.code

/-! ## Body fields (R179) -/

/-- A number in one slot. -/
def fNat (n : Nat) : Field := some (BitVec.ofNat 64 n)

/-- A signed difference in two's complement. -/
def fInt (i : Int) : Field := some (BitVec.ofInt 64 i)

/-- A set flag is written as 1, a clear one as 0. -/
def fBool (b : Bool) : Field := fNat (if b then 1 else 0)

/-- A time base value. -/
def fTime (t : Time) : Field := fNat t.toNat

/-- A value that may be absent; an idle timer is written as absent. -/
def fOpt {α : Type} (f : α → Field) : Option α → Field
  | none => none
  | some a => f a

/-- A stream id: the handle in the first byte and the generation in the second. -/
def fStreamId (i : StreamId) : Field := fNat (i.handle.toNat + 256 * i.gen.toNat)

/-- A list of at most `most` entries of `width` fields each: its length, then the entries' fields, entries beyond the
length absent. -/
def fList (most width : Nat) (entries : List (List Field)) : List Field :=
  fNat entries.length :: (entries.flatten ++ List.replicate (most * width - entries.length * width) none)

/-! ## The 512 bytes of an event record (R179) -/

/-- The `k` low bytes of `n` in little-endian order (R178). -/
def leBytes : Nat → Nat → List Byte
  | 0, _ => []
  | k + 1, n => BitVec.ofNat 8 n :: leBytes k (n / 256)

/-- The presence mask: bit n set when body slot n carries a value, slots numbered from `i` on. -/
def presenceMask : List Field → Nat → Nat
  | [], _ => 0
  | f :: r, i => (if f.isSome then 2 ^ i else 0) + presenceMask r (i + 1)

/-- The body slots' bytes, an absent slot written as zero. -/
def bodyBytes : Nat → List Field → List Byte
  | 0, _ => []
  | k + 1, [] => leBytes 8 0 ++ bodyBytes k []
  | k + 1, f :: r => leBytes 8 (match f with | none => 0 | some v => v.toNat) ++ bodyBytes k r

/-- The event record as the event window returns it, `left` records standing in the FIFO after the read. -/
def EventRec.bytes (e : EventRec) (left : Nat) : List Byte :=
  leBytes 1 e.tag.kindCode ++ leBytes 1 e.tag.statusCode ++ leBytes 2 e.command ++ leBytes 2 e.epoch.toNat ++
  leBytes 2 left ++ leBytes 8 e.time.toNat ++ leBytes 8 (presenceMask (e.body.take Config.bodySlots) 1) ++
  bodyBytes Config.bodySlots e.body

/-- The EMPTY record (R172); its epoch field is the node's present epoch, and its byte 1 is 0 (notes/assumptions 17). -/
def EventRec.emptyAt (epoch : Epoch) (now : Time) : EventRec :=
  { tag := .empty, command := 0, epoch := epoch, time := now, body := [] }

/-- The first `len` bytes of a read; bytes beyond the record read as zero (R165). -/
def readBytes (len : Nat) (bytes : List Byte) : List Byte :=
  bytes.take len ++ List.replicate (len - bytes.length) 0

/-! ## Span-link messages (R180) -/

/-- The bytes of a message that the part sends. -/
def SpanMessage.bytes : SpanMessage → List Byte
  | .readExtent slot gen count start token =>
    leBytes 1 1 ++ leBytes 1 slot.val ++ leBytes 1 gen.toNat ++ leBytes 1 0 ++ leBytes 2 count ++
    leBytes 6 start.toNat ++ leBytes 4 0 ++ leBytes 8 token.toNat
  | .train attempt => leBytes 1 3 ++ leBytes 1 attempt ++ leBytes 6 0

/-- The event that a message arriving on span link `j` is: EXTENT_DONE, READY, or a message of another type (R180). A
received message of type 1 or 3 is one of another type (notes/assumptions 26). DESIGN CHOICE: of a message of type 2 or 4
whose length is not 8 the fields are read where it is long enough to hold them, and it is one of another type where it is
not (notes/assumptions 42). -/
def Instr.ofSpanMessage (j : SpanId) (bytes : List Byte) : Instr :=
  match bytes with
  | 2 :: slot :: gen :: result :: _ => .extentDone j slot gen result
  | 4 :: attempt :: _ => .ready j attempt
  | _ => .spanMessageOther j bytes

end Sys2Proof.Machine
end

