-- ==== Sys2Proof/Machine/Operands.lean ====
section
/-! DEFINITION. The operands of a node's command: how the Node Port reads the fields of a 256-byte command record
(R178). Multi-byte fields are little-endian. -/

namespace Sys2Proof.Machine

/-- A little-endian unsigned number. -/
def leNat : List Byte → Nat
  | [] => 0
  | b :: r => b.toNat + 256 * leNat r

/-- The unsigned number in `len` bytes from byte `off` on. -/
def recNat (rec : List Byte) (off len : Nat) : Nat := leNat ((rec.drop off).take len)

/-- Bytes 0–1: the command code. -/
def recCode (rec : List Byte) : Nat := recNat rec 0 2

/-- Byte 2: the extent count of FRAME_READ. -/
def recExtentCount (rec : List Byte) : Nat := recNat rec 2 1

/-- Byte 3, bit 0: the handover flag of DETACH. -/
def recHandover (rec : List Byte) : Bool := (recNat rec 3 1).testBit 0

/-- Byte 3, bit 1: settle interval present, for OPEN_STREAM. -/
def recSettlePresent (rec : List Byte) : Bool := (recNat rec 3 1).testBit 1

/-- Bytes 4 and 5: the stream id of a command naming a stream. -/
def recStream (rec : List Byte) : StreamId :=
  { handle := BitVec.ofNat 8 (recNat rec 4 1), gen := BitVec.ofNat 8 (recNat rec 5 1) }

/-- Argument slot `k`, as an unsigned whole number. -/
def recArg (rec : List Byte) (k : Nat) : Nat := recNat rec (16 + 8 * k) 8

/-- Argument slot `k`, as a signed whole number (the speed of PLAY). -/
def recArgSigned (rec : List Byte) (k : Nat) : Int := (BitVec.ofNat 64 (recArg rec k)).toInt

/-- The cookie of FRAME_READ: the low 4 bytes of the first argument slot. -/
def recCookie (rec : List Byte) : Cookie := BitVec.ofNat 32 (recNat rec 16 4)

/-- One extent of FRAME_READ. -/
structure Extent where
  span : Nat
  count : Nat
  start : StartBlock
  token : Token
  deriving DecidableEq, Repr

/-- The extent at index `i`: 24 bytes from byte 32 + 24 i on. -/
def recExtent (rec : List Byte) (i : Nat) : Extent :=
  { span := recNat rec (32 + 24 * i) 1, count := recNat rec (32 + 24 * i + 2) 2,
    start := BitVec.ofNat 48 (recNat rec (32 + 24 * i + 4) 6),
    token := BitVec.ofNat 64 (recNat rec (32 + 24 * i + 16) 8) }

/-- The first `n` extents. -/
def recExtents (rec : List Byte) (n : Nat) : List Extent := (List.range n).map (recExtent rec)

/-- A span argument, where it names a span. -/
def spanOf (n : Nat) : Option SpanId := if h : n < 8 then some ⟨n, h⟩ else none

/-- The command row of a code of R178's table, taken by node port `n`; any other code is UNKNOWN_COMMAND (R167). -/
def Instr.ofCode (n : NodeId) : Nat → Instr
  | 1 => .attach n | 2 => .detach n | 3 => .heartbeat n | 4 => .openStream n | 5 => .closeStream n
  | 6 => .play n | 7 => .stop n | 8 => .scrub n | 9 => .frameRead n | 10 => .adopt n
  | 11 => .queryStream n | 12 => .querySpan n | 13 => .queryPart n | 14 => .configBegin n
  | 15 => .configSet n | 16 => .configGet n | 17 => .configEnd n | 18 => .clearTrip n
  | 19 => .ackSpanStatus n | 20 => .linkReset n | 21 => .partReset n | 22 => .clearNodeFlags n
  | _ => .unknownCommand n

end Sys2Proof.Machine
end

