-- ==== Sys2Proof/WellFormed.lean ====
section
/-! DEFINITION. Which operands a command or event may carry. Nodes, spans, slots, handles and bytes are bounded
by their types; two checks remain. -/

namespace Sys2Proof

/-- A piece record is one of the 2,048 of the pool (R49). -/
def wfPieceNumber (p : Nat) : Bool := decide (p < Config.pieceRecords)

/-- A span-link message is of another type unless it is an EXTENT_DONE (type 2, with a slot, a generation and a result) or
a READY (type 4, with an attempt), the two messages that the part takes (R180, notes/assumptions 42). -/
def wfOtherMessage : List Byte → Bool
  | 2 :: _ :: _ :: _ :: _ => false
  | 4 :: _ :: _ => false
  | _ => true

/-- The operands are ones that the row can carry. -/
def Instr.wf : Instr → Bool
  | .powerOnReset | .resetPin => true
  | .commandWindowWrite _ _ | .eventWindowRead _ _ | .windowAccessIgnored _ _ => true
  | .unknownCommand _ | .attach _ | .detach _ | .heartbeat _ | .clearNodeFlags _ | .queryPart _ => true
  | .openStream _ | .closeStream _ | .adopt _ | .queryStream _ | .play _ | .stop _ | .scrub _ => true
  | .frameRead _ | .querySpan _ | .clearTrip _ | .ackSpanStatus _ | .linkReset _ => true
  | .configBegin _ | .configSet _ | .configGet _ | .configEnd _ | .partReset _ => true
  | .pcieLinkDown _ | .pcieLinkUp _ | .heartbeatTimerExpiry _ => true
  | .orphanTimerExpiry _ | .cancelUndispatched _ | .drainEnd _ | .settleTimerExpiry _ => true
  | .absentRelease _ | .linkStateReport _ | .ceilingReport _ => true
  | .pieceOutcome p => wfPieceNumber p
  | .deadlineExpiry _ | .lateReport _ | .windowOpeningExpiry _ | .selection _ | .dispatch _ | .maskWrite _ => true
  | .extentDone _ _ _ _ | .slotExpiry _ _ | .ready _ _ | .trainingAttemptExpiry _ => true
  | .linkLossIndication _ | .relinkHoldExpiry _ | .queueSpanLoss _ => true
  | .presenceDeasserted _ | .presenceAsserted _ => true
  | .spanMessageOther _ bytes => wfOtherMessage bytes
  | .latencyReport _ | .tripClassEvent _ | .monitorWindowExpiry _ | .monitorAbsent _ => true
  | .parameterReport _ | .configuredCeilingChange _ => true

end Sys2Proof
end

