-- ==== Sys2Proof/Decode.lean ====
section
/-! DEFINITION. The opcode table gives no row of this block any bits (every row's field list is empty and no row
has a fixed pattern), so no word spells a command. The layouts that the part does expose, command records,
event records and span-link messages (R178 to R180), are read and written in Machine/Operands.lean and
Machine/Layout.lean. -/

namespace Sys2Proof

/-- The command that a word of `nbits` bits spells by the table's bits: none, for the table gives none. -/
def decodeTableWord (_nbits _w : Nat) : Option Instr := none

end Sys2Proof
end

