-- ==== Sys2Proof/Machine/ResetValues.lean ====
section
/-! DEFINITION. The values that each block takes at power-on reset, chapter by chapter (R191), and those it takes at
a warm reset where they differ (R192). -/

namespace Sys2Proof.Machine

/-- The defaults of the part-wide parameters (R185). -/
def PartParams.default : PartParams :=
  { urgent := 8000, due := 50000, lookahead := 500000, scrubTarget := 80000, settle := 40,
    heartbeatPeriod := 1000, heartbeatWindow := 50, grace := 5000 }

/-- The parameters that the Deadline Unit takes from the Configuration Block's (R187). -/
def DeadlineParams.of (p : PartParams) : DeadlineParams :=
  { urgent := p.urgent, due := p.due, lookahead := p.lookahead, scrubTarget := p.scrubTarget }

/-- The defaults of a span's parameters (R186). -/
def SpanParams.default : SpanParams :=
  { overhead := 4000, transfer := 4000, depth := 4, background := 1, ceiling := 850000, floor := 500000,
    step := 50000, delay := 2, recover := 8, auto := true, window := 100, top := 60000, trip := 250000,
    timeout := 1000, relinkHold := 500 }

/-- A Node Port after a reset: DETACHED, one ARMED vector, flags clear, FIFOs empty (R163, R164, R177). The epoch, the
state of the link and what the port has put out are given. -/
def Node.atReset (epoch : Epoch) (linkUp : Bool) (messages : List Nat) (readData : List Byte) (p : PartParams) : Node :=
  { state := .detached, epoch := epoch, vectors := [{ fired := false, held := false }], heartbeat := none,
    overrun := false, underrun := false, noticeLost := false, earlyBeat := false,
    lostCount := 0, lossPending := none, reserved := 0, commands := [], events := [], linkUp := linkUp,
    heartbeatPeriod := p.heartbeatPeriod, heartbeatWindow := p.heartbeatWindow,
    messages := messages, readData := readData }

/-- A Span Queue after a reset (R104). -/
def SpanQueue.atReset : SpanQueue :=
  { deadlines := [], background := [], deadlineTimer := none, windowTimer := none }

/-- A Dispatch Arbiter after a reset, with the parameters as the Configuration Block holds them (R104). -/
def Arbiter.atReset (p : PartParams) (sp : SpanParams) : Arbiter :=
  { rotation := 0, backgroundPtr := 0, masked := false, selections := 0, depth := sp.depth,
    backgroundShare := sp.background, urgent := p.urgent, due := p.due, lookahead := p.lookahead }

/-- A link set from its presence line at a reset: TRAINING at attempt 1, or ABSENT (R125). -/
def Link.atReset (now : Time) (presence : Bool) : Link :=
  if presence then .training 1 (now + BitVec.ofNat 48 Config.attemptTime) else .absent

/-- A Span Service Unit after a reset: slots FREE with the generations given, counters 0, the link set from the
presence line and the first TRAIN sent where a span is present (R125, R126). -/
def SpanService.atReset (now : Time) (presence : Bool) (slots : Vector Slot 8) (sent : List SpanMessage)
    (sp : SpanParams) : SpanService :=
  { slots := slots, presence := presence, link := Link.atReset now presence, relinkExpiry := none,
    staleCount := 0, timeoutCount := 0, linkLossCount := 0, commandTimeout := sp.timeout,
    relinkHold := sp.relinkHold, sent := if presence then sent ++ [.train 1] else sent }

/-- Window counts of a window with no report (R130). -/
def WindowRecord.zero : WindowRecord := { top := 0, trip := 0, completions := 0, peak := none }

/-- The parameters that the monitor reads, taken from the Configuration Block's (R128). -/
def MonitorParams.of (sp : SpanParams) : MonitorParams :=
  { ceiling := sp.ceiling, floor := sp.floor, step := sp.step, delay := sp.delay, recover := sp.recover,
    auto := sp.auto, window := sp.window, top := sp.top, trip := sp.trip }

/-- The monitor's state for a span after a reset, its window started at the reset (R145, R146). -/
def Monitor.atReset (now : Time) (sp : SpanParams) : Monitor :=
  { tripped := false, effective := sp.ceiling, start := now, expiry := now + BitVec.ofNat 48 (sp.window * 1000),
    topLimit := sp.top, tripLimit := sp.trip, counts := WindowRecord.zero, previous := WindowRecord.zero,
    since := 0, clean := 0, topSeen := false, tripSeen := false, params := MonitorParams.of sp }

/-- The Admission Unit's entry for a span after a reset: nothing committed (R24, R25), the link state, ceiling and
parameters as the other blocks hold them after the same reset. -/
def Budget.atReset (presence : Bool) (sp : SpanParams) : Budget :=
  { committed := 0, overcommit := false, link := if presence then .training else .absent,
    effective := sp.ceiling, tripped := false, overhead := sp.overhead, transfer := sp.transfer,
    ceiling := sp.ceiling }

/-- All that the part keeps for a span, after a reset. -/
def SpanState.atReset (now : Time) (presence : Bool) (slots : Vector Slot 8) (sent : List SpanMessage)
    (p : PartParams) (sp : SpanParams) : SpanState :=
  { queue := SpanQueue.atReset, arbiter := Arbiter.atReset p sp,
    service := SpanService.atReset now presence slots sent sp, monitor := Monitor.atReset now sp,
    budget := Budget.atReset presence sp }

/-- A FREE slot of generation 0 (R125). -/
def Slot.cold : Slot := { gen := 0, state := .free }

/-- A span after power-on reset at time base 0, its presence line as given. -/
def SpanState.cold (presence : Bool) : SpanState :=
  SpanState.atReset 0 presence (bank8 fun _ => Slot.cold) [] PartParams.default SpanParams.default

/-- A node port after power-on reset, its PCIe link as given (R163). -/
def Node.cold (linkUp : Bool) : Node := Node.atReset 0 linkUp [] [] PartParams.default

/-- The Configuration Block after power-on reset (R191). -/
def ConfigBlock.cold : ConfigBlock :=
  { part := PartParams.default, spans := bank8 fun _ => SpanParams.default, holder := none,
    setsAccepted := 0, resetKind := .powerOn, start := .cold, loaded := false }

/-- The generations of the 256 stream records after power-on reset (R24). -/
def coldGenerations : List Gen := List.replicate Config.streamRecords 0

end Sys2Proof.Machine
end

