-- ==== Sys2Proof/Machine/State.lean ====
section
/-! DEFINITION. The whole state of the WZ4410, the reasons a step can stop, and the state after power-on reset. -/

namespace Sys2Proof.Machine

/-- The reasons a step can stop with a fault: none. The manual gives every command and event of the part an effect
in every state, and the part has no condition in which it halts (safe: no fault is ever raised). -/
inductive Fault where
  deriving DecidableEq, Repr

/-- The reasons a step can be refused. -/
inductive Refusal where
  /-- Raised by an arm of `exec` for a row that has no meaning in the model (safe: the step stops). No arm raises it. -/
  | notModelled (mnemonic : String)
  deriving DecidableEq, Repr

/-- The state of the part, block by block, and the queue of commands and events that wait to be taken. -/
structure State where
  /-- The commands and events waiting, first in first out. -/
  pending : List Instr
  /-- The time base (Deadline Unit, R26). -/
  time : Time
  /-- The generations of the 256 stream records (Admission Unit, R1). -/
  gens : List Gen
  /-- The stream records not FREE, by handle (Admission Unit R1; Settle Hold R71). -/
  streams : Pool Stream
  /-- The default settle interval last reported to the Admission Unit (R6, R187). -/
  defaultSettle : Nat
  /-- The orphan grace last reported to the Admission Unit (R158, R187). -/
  orphanGrace : Nat
  /-- The class bounds and scrub target last reported to the Deadline Unit (R38, R187). -/
  deadlineUnit : DeadlineParams
  /-- The frame records in use (Frame Table, R47). -/
  frames : Pool Frame
  /-- The piece records in use (Frame Table, R49). -/
  pieces : Pool Piece
  /-- The arrival counter (Frame Table, R58). -/
  arrival : ArrivalSeq
  /-- The node ports N0 to N3 (R147). -/
  nodes : Vector Node 4
  /-- The blocks of spans S0 to S7. -/
  spans : Vector SpanState 8
  /-- The Configuration Block (R181, R185, R186, R190). -/
  config : ConfigBlock
  /-- The reports in flight between blocks, oldest first. -/
  reports : List Report
  deriving DecidableEq, Repr

/-- The part after power-on reset, with the presence lines and PCIe links as given (R191). -/
def State.cold (presence : Vector Bool 8) (linkUp : Vector Bool 4) : State :=
  { pending := [], time := 0, gens := coldGenerations, streams := [],
    defaultSettle := PartParams.default.settle, orphanGrace := PartParams.default.grace,
    deadlineUnit := DeadlineParams.of PartParams.default,
    frames := [], pieces := [], arrival := 0,
    nodes := bank4 fun n => Node.cold linkUp[n], spans := bank8 fun j => SpanState.cold presence[j],
    config := ConfigBlock.cold, reports := [] }

/-- The part right after power-on reset, every span fitted and every PCIe link up (DESIGN CHOICE, notes/assumptions 6:
the manual gives no state of these lines at the reset). -/
def State.reset : State := State.cold (bank8 fun _ => true) (bank4 fun _ => true)

end Sys2Proof.Machine
end

