-- ==== Sys2Proof/Machine/Ops.lean ====
section
/-! DEFINITION. The operations that the meanings share: arithmetic of the time base, access to the parts of the state,
the writing of event records (R166 to R175), reports between blocks, and the taking of a command. -/

namespace Sys2Proof.Machine

open Host (Outcome)

/-! ## Arithmetic -/

/-- The 48-bit signed difference of two time base values (R27). -/
def timeDiff (a b : Time) : Int := (a - b).toInt

/-- The time base has reached `t` (R26). -/
def reached (now t : Time) : Bool := decide (0 ≤ timeDiff now t)

/-- The time base has passed `t` (R26, R43). -/
def passed (now t : Time) : Bool := decide (0 < timeDiff now t)

/-- A time so many microseconds later, modulo 2^48. -/
def plusMicros (t : Time) (n : Nat) : Time := t + BitVec.ofNat 48 n

/-- A time so many milliseconds later, modulo 2^48. -/
def plusMillis (t : Time) (n : Nat) : Time := plusMicros t (n * 1000)

/-- The earlier of two times, the first where neither is earlier. -/
def earlier (a b : Time) : Time := if timeDiff b a < 0 then b else a

/-- The earliest of a list of times. -/
def earliest : List Time → Option Time
  | [] => none
  | t :: r => some (r.foldl earlier t)

/-- The whole milliseconds from `now` to `t`, rounded down, 0 once `t` is reached (R23, notes/assumptions 21). -/
def millisLeft (now t : Time) : Nat := (timeDiff t now).toNat / 1000

/-- A count advanced by one, holding at `top`. -/
def advance (top n : Nat) : Nat := if n < top then n + 1 else n

/-- A value clamped to a range. -/
def clamp (lo hi v : Nat) : Nat := if v < lo then lo else if hi < v then hi else v

/-- A quotient rounded up. -/
def ceilDiv (a b : Nat) : Nat := a / b + (if a % b = 0 then 0 else 1)

/-! ## Access -/

/-- The node ports in order. -/
def allNodes : List NodeId := [0, 1, 2, 3]

/-- The spans in order; also the slots of a span in order. -/
def allSpans : List SpanId := [0, 1, 2, 3, 4, 5, 6, 7]

def State.node (s : State) (n : NodeId) : Node := s.nodes[n]
def State.span (s : State) (j : SpanId) : SpanState := s.spans[j]

def State.modNode (s : State) (n : NodeId) (f : Node → Node) : State :=
  { s with nodes := s.nodes.set n (f (s.node n)) }

def State.modSpan (s : State) (j : SpanId) (f : SpanState → SpanState) : State :=
  { s with spans := s.spans.set j (f (s.span j)) }

def State.modQueue (s : State) (j : SpanId) (f : SpanQueue → SpanQueue) : State :=
  s.modSpan j fun sp => { sp with queue := f sp.queue }

def State.modArbiter (s : State) (j : SpanId) (f : Arbiter → Arbiter) : State :=
  s.modSpan j fun sp => { sp with arbiter := f sp.arbiter }

def State.modService (s : State) (j : SpanId) (f : SpanService → SpanService) : State :=
  s.modSpan j fun sp => { sp with service := f sp.service }

def State.modMonitor (s : State) (j : SpanId) (f : Monitor → Monitor) : State :=
  s.modSpan j fun sp => { sp with monitor := f sp.monitor }

def State.modBudget (s : State) (j : SpanId) (f : Budget → Budget) : State :=
  s.modSpan j fun sp => { sp with budget := f sp.budget }

def State.modConfig (s : State) (f : ConfigBlock → ConfigBlock) : State := { s with config := f s.config }

/-- The stream record of a handle, unless it is FREE. -/
def State.stream (s : State) (h : Handle) : Option Stream := s.streams.get h.toNat

/-- The state of the stream record of a handle. -/
def State.streamState (s : State) (h : Handle) : StreamState :=
  match s.stream h with
  | none => .free
  | some st => st.state

/-- The generation of the stream record of a handle. -/
def State.gen (s : State) (h : Handle) : Gen := s.gens.getD h.toNat 0

def State.modStream (s : State) (h : Handle) (f : Stream → Stream) : State :=
  { s with streams := s.streams.modify h.toNat f }

def State.modFrame (s : State) (i : Nat) (f : Frame → Frame) : State :=
  { s with frames := s.frames.modify i f }

def State.modPiece (s : State) (p : Nat) (f : Piece → Piece) : State :=
  { s with pieces := s.pieces.modify p f }

/-- The link state that a link shows (R115). -/
def Link.state : Link → LinkState
  | .absent => .absent
  | .training _ _ => .training
  | .up => .up
  | .failed => .failed

def State.linkUp (s : State) (j : SpanId) : Bool := decide ((s.span j).service.link = .up)

/-! ## Event records -/

/-- The class of a record, as the vector that serves it under four vectors (R174). -/
def EventTag.class : EventTag → Nat
  | .empty => 0
  | .result _ => 0
  | .frameDone _ => 0
  | .streamNotice _ => 1
  | .nodeNotice .noticeLost => 3
  | .nodeNotice _ => 1
  | .spanNotice _ => 2

/-- The vector that serves a record's class under a vector count (R174). -/
def vectorFor (count : Nat) (tag : EventTag) : Nat :=
  match count with
  | 4 => tag.class
  | 2 => min tag.class 1
  | _ => 0

/-- A vector that is ARMED fires: it sends its message, or holds it while the link is down (R174, R175). -/
def Node.fire (nd : Node) (v : Nat) : Node :=
  match nd.vectors[v]? with
  | none => nd
  | some w =>
    if w.fired then nd
    else if nd.linkUp then
      { nd with vectors := nd.vectors.set v { fired := true, held := false }, messages := nd.messages ++ [v] }
    else { nd with vectors := nd.vectors.set v { fired := true, held := true } }

/-- A record written at the tail of the event FIFO (R168, R170), firing its vector (R174). -/
def Node.write (nd : Node) (now : Time) (tag : EventTag) (command : Nat) (body : List Field) : Node :=
  Node.fire
    { nd with events := nd.events ++
        [{ tag := tag, command := command, epoch := nd.epoch, time := now, body := body }] }
    (vectorFor nd.vectors.length tag)

/-- An answer written against the reservation of its command (R168). -/
def Node.answer (nd : Node) (now : Time) (tag : EventTag) (command : Nat) (body : List Field) : Node :=
  Node.write { nd with reserved := nd.reserved - 1 } now tag command body

/-- Places of the event FIFO that are occupied or reserved (R166). -/
def Node.total (nd : Node) : Nat := nd.events.length + nd.reserved

/-- A notice lost for want of free unreserved space (R170); the first loss of a run keeps its time (R171). -/
def Node.loseNotice (nd : Node) (now : Time) : Node :=
  { nd with noticeLost := true, lostCount := advance Config.countTop nd.lostCount,
            lossPending := some (nd.lossPending.getD now) }

/-- A notice to one node: only while it is ATTACHED, and only into free unreserved space (R170). -/
def Node.notice (nd : Node) (now : Time) (tag : EventTag) (body : List Field) : Node :=
  if nd.state = .attached then
    if nd.total < Config.eventFifo then nd.write now tag 0 body else nd.loseNotice now
  else nd

/-- A notice to every ATTACHED node, written in the event that it reports. DESIGN CHOICE: so notices of several blocks for one
change stand in a node's FIFO in the order in which the blocks took their events (notes/assumptions 50). -/
def State.notifyAll (s : State) (tag : EventTag) (body : List Field) : State :=
  allNodes.foldl (fun s n => s.modNode n fun nd => nd.notice s.time tag body) s

/-- A notice to every ATTACHED node but one (R162). -/
def State.notifyOthers (s : State) (but : NodeId) (tag : EventTag) (body : List Field) : State :=
  (allNodes.filter (· ≠ but)).foldl (fun s n => s.modNode n fun nd => nd.notice s.time tag body) s

/-- The RESULT of a command of node `n` (R168, R169). -/
def State.result (s : State) (n : NodeId) (command : Nat) (status : ResultStatus) (body : List Field) : State :=
  s.modNode n fun nd => nd.answer s.time (.result status) command body

/-- A FRAME_DONE written to node `n` against its read's reservation (R66, R168). -/
def State.frameDone (s : State) (n : NodeId) (status : FrameStatus) (body : List Field) : State :=
  s.modNode n fun nd => nd.answer s.time (.frameDone status) 9 body

/-- Every vector ARMED and its held message dropped (R175). -/
def armAll (vs : List VectorState) : List VectorState := vs.map fun _ => { fired := false, held := false }

/-- The vectors after a removal: a FIRED vector is ARMED again when no record of the FIFO belongs to it (R175). -/
def rearmVectors (vs : List VectorState) (events : List EventRec) : List VectorState :=
  vs.mapIdx fun v w =>
    if events.any (fun e => vectorFor vs.length e.tag = v) then w else { fired := false, held := false }

/-! ## Reports between blocks -/

/-- A report put in flight behind those already in flight. -/
def State.post (s : State) (r : Report) : State := { s with reports := s.reports ++ [r] }

def State.postAll (s : State) (rs : List Report) : State := { s with reports := s.reports ++ rs }

/-- The oldest report of a channel, and the reports left without it. -/
def takeFirst (channel : Report → Bool) : List Report → Option (Report × List Report)
  | [] => none
  | r :: rest =>
    if channel r then some (r, rest)
    else match takeFirst channel rest with
      | none => none
      | some (q, left) => some (q, r :: left)

/-- The event of a block taking the oldest report of a channel. Where none is in flight, or the oldest is not of the
kind the event takes, the event does not arise and nothing changes (notes/assumptions 2). -/
def withReport (s : State) (channel : Report → Bool) (act : Report → State → Option State) :
    Outcome State Fault Refusal :=
  match takeFirst channel s.reports with
  | none => .next s
  | some (r, rest) =>
    match act r { s with reports := rest } with
    | none => .next s
    | some t => .next t

/-! ## Taking a command -/

/-- The event of node port `n` taking the command of code `code` from the head of its FIFO (R167). Where another
command, or none, stands there, the event does not arise and nothing changes (notes/assumptions 2). -/
def withCommand (n : NodeId) (code : Nat) (s : State) (act : List Byte → State → State) :
    Outcome State Fault Refusal :=
  match (s.node n).commands with
  | [] => .next s
  | rec :: rest =>
    if recCode rec = code then .next (act rec (s.modNode n fun nd => { nd with commands := rest }))
    else .next s

/-- A command that the Node Port hands on only from an ATTACHED node, and answers NOT_ATTACHED otherwise (R167). That holds
of a play-state command of a node just LOST too, though R31 speaks of NOT_OWNER (notes/assumptions 48). -/
def withAttached (n : NodeId) (code : Nat) (s : State) (act : List Byte → State → State) :
    Outcome State Fault Refusal :=
  withCommand n code s fun rec s =>
    if (s.node n).state = .attached then act rec s else s.result n code .notAttached []

/-- A command reserved to the holder of the configuration claim: NOT_HOLDER from any other ATTACHED node, before every
other check (R181). -/
def withClaim (n : NodeId) (code : Nat) (s : State) (act : List Byte → State → State) :
    Outcome State Fault Refusal :=
  withAttached n code s fun rec s =>
    if s.config.holder = some n then act rec s else s.result n code .notHolder []

/-! ## Starting a selection -/

/-- A selection begun at arbiter `j`, which is done only while its span's link is UP (R89). -/
def State.beginSelection (s : State) (j : SpanId) : State :=
  if s.linkUp j then s.modArbiter j fun a => { a with selections := a.selections + 1 } else s

end Sys2Proof.Machine
end

