-- ==== Sys2Proof/Machine/Flags.lean ====
section
/-! DEFINITION. The flags, classes and statuses that the part derives from its state: health (R129), overcommit (R13),
degraded (R21), urgency (R39), lateness (R46), frame state (R48) and frame status (R63). -/

namespace Sys2Proof.Machine

/-! ## Health, overcommit, degraded -/

/-- A span's health follows from its tripped flag and its ceiling (R129). -/
def Monitor.health (m : Monitor) : Health :=
  if m.tripped then .tripped else if m.effective < m.params.ceiling then .derated else .normal

/-- Overcommit: committed exceeds the effective ceiling (R13). -/
def Budget.over (b : Budget) : Bool := decide (b.effective < b.committed)

/-- The recomputation of a span's overcommit flag, with a notice to every ATTACHED node where it changes (R13). -/
def State.recomputeOvercommit (s : State) (j : SpanId) : State :=
  let b := (s.span j).budget
  if b.over = b.overcommit then s
  else
    (s.modBudget j fun b => { b with overcommit := b.over }).notifyAll
      (.spanNotice (if b.over then .overcommitOn else .overcommitOff))
      [fNat j.val, fNat b.committed, fNat b.effective]

/-- A span list entry in good order: its span reported UP, and reserved (R21). -/
def State.entryGood (s : State) (e : SpanEntry) : Bool :=
  e.reserved && decide ((s.span e.span).budget.link = .up)

/-- The degraded flag of a stream by the link states last reported to the Admission Unit (R21). -/
def State.degradedNow (s : State) (st : Stream) : Bool := !st.spans.all s.entryGood

/-- A stream names a span (R21). -/
def Stream.names (st : Stream) (j : SpanId) : Bool := st.spans.any fun e => decide (e.span = j)

/-- A stream holds a reservation on a span (R19, R57). -/
def Stream.reservedOn (st : Stream) (j : SpanId) : Bool :=
  st.spans.any fun e => decide (e.span = j) && e.reserved

/-- The degraded flags of every stream that names a span, brought up to date (R21). -/
def State.updateDegraded (s : State) (j : SpanId) : State :=
  { s with streams := s.streams.each fun st =>
      if st.names j then { st with degraded := s.degradedNow st } else st }

/-! ## Urgency -/

/-- The slack of a deadline: the deadline minus the time base (R27). -/
def slack (now d : Time) : Int := timeDiff d now

/-- The urgency class of a deadline under the bounds an arbiter holds (R39). -/
def Arbiter.classOf (a : Arbiter) (now d : Time) : Urgency :=
  let k := slack now d
  if k < 0 then .late
  else if k ≤ a.urgent then .urgent
  else if k ≤ a.due then .due
  else if k ≤ a.lookahead then .ahead
  else .future

/-! ## Frames -/

/-- The piece records that a frame still refers to, in stripe order (R47). -/
def Frame.pieceRefs (f : Frame) : List Nat :=
  f.positions.filterMap fun
    | .piece p => some p
    | .finished _ => none

/-- The outcomes of a frame's finished positions, in stripe order (R47). -/
def Frame.outcomes (f : Frame) : List PieceOutcome :=
  f.positions.filterMap fun
    | .piece _ => none
    | .finished o => some o

/-- Pieces of the frame not yet finished (R47). -/
def Frame.unfinished (f : Frame) : Nat := f.pieceRefs.length

/-- The lateness of a frame finishing now: completion time minus deadline (R46). -/
def Frame.lateness (f : Frame) (now : Time) : Option Int := f.deadline.map fun d => timeDiff now d

/-- The late indicator: lateness above 0 (R46). -/
def isLate (lateness : Option Int) : Bool :=
  match lateness with
  | none => false
  | some l => decide (0 < l)

/-- The status of a finished frame: the first line of the table that applies (R63). -/
def Frame.status (f : Frame) : FrameStatus :=
  match f.cancel with
  | some .cancelled => .cancelled
  | some .superseded => .superseded
  | some .skipped => .lateSkipped
  | none =>
    if f.outcomes.all (· = .ok) then .ok
    else if f.outcomes.all (· ≠ .ok) then .failed
    else .partialOk

/-- The outcome that matches a cancel reason (R61). -/
def CancelReason.outcome : CancelReason → PieceOutcome
  | .cancelled => .cancelled
  | .superseded => .superseded
  | .skipped => .skipped

/-- A piece record's state, where it is in use. -/
def State.pieceState (s : State) (p : Nat) : Option PieceState := (s.pieces.get p).map Piece.state

/-- The state of a frame record, derived from its pieces (R48). -/
def State.frameState (s : State) (f : Frame) : FrameState :=
  let states := f.pieceRefs.filterMap s.pieceState
  if f.kind = .scrub ∧ f.deadline = none ∧ states.all (· = .held) then .held
  else if states.any (· ≠ .inService) ∨ f.outcomes = [] then .active
  else .finishing

/-- A stream's counters advanced by a frame's status (R65, R1). -/
def Stream.count (st : Stream) (status : FrameStatus) (late : Bool) : Stream :=
  match status with
  | .ok =>
    if late then
      { st with framesOk := advance Config.counterTop st.framesOk, framesLate := advance Config.counterTop st.framesLate }
    else { st with framesOk := advance Config.counterTop st.framesOk }
  | .lateSkipped => { st with framesSkipped := advance Config.counterTop st.framesSkipped }
  | .failed => { st with framesFailed := advance Config.counterTop st.framesFailed }
  | .partialOk => { st with framesFailed := advance Config.counterTop st.framesFailed }
  | _ => st

end Sys2Proof.Machine
end

