-- ==== Sys2Proof/Machine/QueueOps.lean ====
section
/-! DEFINITION. The operations of a Span Queue: the order of its deadline list (R84, R85), its two timers (R43, R96),
entry and removal (R85, R86). -/

namespace Sys2Proof.Machine

/-- The deadline of a piece's frame. -/
def State.deadlineOf (s : State) (p : Nat) : Option Time :=
  match s.pieces.get p with
  | none => none
  | some pc =>
    match s.frames.get pc.frame with
    | none => none
    | some f => f.deadline

/-- The deadlines of a span's deadline list, in the order of the list. -/
def State.listDeadlines (s : State) (j : SpanId) : List Time :=
  (s.span j).queue.deadlines.filterMap s.deadlineOf

/-- One arrival sequence is older than another, by their 32-bit signed difference (R58). -/
def olderSeq (a b : ArrivalSeq) : Bool := decide ((a - b).toInt < 0)

/-- A waiting piece's arrival sequence is newer than `a`. It is so only where 2^31 or more pieces have entered span queues
since it entered (R58). -/
def State.newerThan (s : State) (a : ArrivalSeq) (q : Nat) : Bool :=
  match s.pieces.get q with
  | none => false
  | some pc =>
    match pc.seq with
    | none => false
    | some b => olderSeq a b

/-- A piece of a deadline list stands after an entering piece of deadline `d` and arrival sequence `a`: its deadline is
later, or equal and its sequence newer (R84, R85). -/
def State.standsAfter (s : State) (d : Time) (a : ArrivalSeq) (q : Nat) : Bool :=
  match s.deadlineOf q with
  | none => false
  | some e => decide (0 < timeDiff e d) || (decide (e = d) && s.newerThan a q)

/-- A piece entered in a list before the first one that stands after it, at the tail where none does. -/
def insertBefore (after : Nat → Bool) (p : Nat) : List Nat → List Nat
  | [] => [p]
  | q :: r => if after q then p :: q :: r else q :: insertBefore after p r

/-- The deadline that a deadline-expiry timer is armed for: the earliest of the list that has not passed (R43). DESIGN
CHOICE: where the list changes after a deadline has passed and before its DEADLINE_EXPIRY is taken, the timer is armed
past that deadline, whose pieces are then reported at a later expiry or at none (notes/assumptions 40). -/
def State.deadlineArm (s : State) (j : SpanId) : Option Time :=
  earliest ((s.listDeadlines j).filter fun d => decide (0 ≤ slack s.time d))

/-- The times at which the pieces of a deadline list enter AHEAD and DUE, under the bounds in force (R96). -/
def State.crossings (s : State) (j : SpanId) : List Time :=
  let a := (s.span j).arbiter
  (s.listDeadlines j).flatMap fun d => [d - BitVec.ofNat 48 a.lookahead, d - BitVec.ofNat 48 a.due]

/-- The time a window-opening timer is armed for: the earliest crossing that still lies ahead (R96). -/
def State.windowArm (s : State) (j : SpanId) : Option Time :=
  earliest ((s.crossings j).filter fun t => decide (0 < timeDiff t s.time))

/-- Where a window-opening timer stands once the list or the bounds have changed under it. One whose time has been reached
still owes its expiry, and so its selection, while that time is the crossing of a piece of the list; any other is armed
anew (R96, R97, R103). DESIGN CHOICE: where no piece of the list crosses at the time reached any more, no expiry is owed,
after a dispatch and after a change of the bounds too (notes/assumptions 43). -/
def State.windowRearmed (s : State) (j : SpanId) (running : Option Time) : Option Time :=
  match running with
  | none => s.windowArm j
  | some t => if reached s.time t = true ∧ t ∈ s.crossings j then some t else s.windowArm j

/-- The deadline-expiry timer of a span armed anew (R43). -/
def State.rearmDeadline (s : State) (j : SpanId) : State :=
  s.modQueue j fun q => { q with deadlineTimer := s.deadlineArm j }

/-- The window-opening timer of a span after a change of its list or of the bounds (R96, R97). -/
def State.rearmWindow (s : State) (j : SpanId) : State :=
  s.modQueue j fun q => { q with windowTimer := s.windowRearmed j q.windowTimer }

/-- Both timers armed anew, at a change of the deadline list (R43, R96). -/
def State.rearm (s : State) (j : SpanId) : State := (s.rearmDeadline j).rearmWindow j

/-- A piece removed from its list; a removal from the deadline list re-arms the timers, one from the background list
changes neither (R86). -/
def State.unlist (s : State) (j : SpanId) (p : Nat) : State :=
  if p ∈ (s.span j).queue.deadlines then
    (s.modQueue j fun q => { q with deadlines := q.deadlines.erase p }).rearm j
  else
    s.modQueue j fun q => { q with background := q.background.erase p }

/-- A piece enters its span's queue: it takes its arrival sequence (R58), stands in the list of its frame's kind (R84,
R85), re-arms the timers where the deadline list changed, and starts a selection. -/
def State.enqueue (s : State) (p : Nat) (pc : Piece) : State :=
  let j := pc.span
  let a := s.arrival
  let s := s.modPiece p fun pc => { pc with state := .queued, seq := some a }
  let s := { s with arrival := a + 1 }
  match s.deadlineOf p with
  | some d =>
    ((s.modQueue j fun q => { q with deadlines := insertBefore (s.standsAfter d a) p q.deadlines }).rearm j).post (.select j)
  | none =>
    (s.modQueue j fun q => { q with background := insertBefore (s.newerThan a) p q.background }).post (.select j)

end Sys2Proof.Machine
end

