-- ==== Sys2Proof/Machine/FrameOps.lean ====
section
/-! DEFINITION. The operations of the Frame Table and the Settle Hold: outcomes (R60), finishing and delivery (R62 to
R66), the loss of a queue (R99), withdrawal before dispatch (R61, R32, R78), placement (R57) and release from the hold
(R77). -/

namespace Sys2Proof.Machine

/-! ## FRAME_DONE -/

/-- The body of a FRAME_DONE: stream id, cookie, frame number, kind, late indicator, lateness, outcome count, outcomes
(R64, R179). -/
def frameDoneBody (stream : StreamId) (cookie : Cookie) (number : Nat) (kind : Option FrameKind) (late : Bool)
    (lateness : Option Int) (outcomes : List PieceOutcome) : List Field :=
  [fStreamId stream, fNat cookie.toNat, fNat number, fOpt (fun k => fNat (FrameKind.code k)) kind, fBool late,
   fOpt fInt lateness] ++ fList 8 1 (outcomes.map fun o => [fNat o.code])

/-- A finished frame's FRAME_DONE goes to the issuing node if it is ATTACHED with the frame's epoch, and is dropped
otherwise (R66). -/
def State.deliver (s : State) (f : Frame) (status : FrameStatus) (body : List Field) : State :=
  if (s.node f.node).state = .attached ∧ (s.node f.node).epoch = f.epoch then s.frameDone f.node status body else s

/-! ## Finishing a frame -/

/-- A frame whose unfinished count is 0 finishes: lateness and status are taken, the counters advance, the FRAME_DONE is
written or dropped, the record is freed and outstanding falls by one (R62). It leaves its scrub list (R73). -/
def State.finishFrame (s : State) (i : Nat) (f : Frame) : State :=
  let lateness := f.lateness s.time
  let late := isLate lateness
  let status := f.status
  let s := s.deliver f status
    (frameDoneBody f.stream f.cookie f.number (some f.kind) late lateness f.outcomes)
  let s := { s with frames := s.frames.free i }
  s.modStream f.stream.handle fun st =>
    { st.count status late with outstanding := st.outstanding - 1, scrubList := st.scrubList.erase i }

/-- The frame in record `i` finishes if no piece of it is left unfinished (R60). -/
def State.finishIfDone (s : State) (i : Nat) : State :=
  match s.frames.get i with
  | none => s
  | some f => if f.unfinished = 0 then s.finishFrame i f else s

/-! ## Outcomes -/

/-- An outcome written into a piece's position and its record returned to FREE (R60, steps 1 to 3). -/
def State.recordOutcome (s : State) (p : Nat) (o : PieceOutcome) : State :=
  match s.pieces.get p with
  | none => s
  | some pc =>
    let s := s.modFrame pc.frame fun f => { f with positions := f.positions.set pc.position (.finished o) }
    { s with pieces := s.pieces.free p }

/-- The Frame Table takes an outcome (R60). -/
def State.takeOutcome (s : State) (p : Nat) (o : PieceOutcome) : State :=
  match s.pieces.get p with
  | none => s
  | some pc => (s.recordOutcome p o).finishIfDone pc.frame

/-- Every piece of both lists of a queue removed, deadline list first, and its SPAN_LOST taken by the Frame Table in the
same event; both timers idle; a selection started where a piece was removed (R99, R50, R60, R86). -/
def State.loseQueue (s : State) (j : SpanId) : State :=
  let q := (s.span j).queue
  let lost := q.deadlines ++ q.background
  let s := s.modQueue j fun _ => { deadlines := [], background := [], deadlineTimer := none, windowTimer := none }
  let s := lost.foldl (fun s p => s.takeOutcome p .spanLost) s
  if lost = [] then s else s.post (.select j)

/-! ## Withdrawal before dispatch -/

/-- A piece that is HELD or QUEUED: one that can still be withdrawn before dispatch (R61). -/
def State.waits (s : State) (p : Nat) : Bool :=
  match s.pieces.get p with
  | none => false
  | some pc => decide (pc.state ≠ .inService)

/-- A waiting piece removed from the hold or from its queue and finished with an outcome; a removal from a queue starts
a selection (R86). -/
def State.withdrawPiece (o : PieceOutcome) (s : State) (p : Nat) : State :=
  if s.waits p then
    match s.pieces.get p with
    | none => s
    | some pc =>
      let s := if pc.state = .queued then (s.unlist pc.span p).post (.select pc.span) else s
      s.recordOutcome p o
  else s

/-- A frame off its stream's scrub list (R73). -/
def State.leaveScrubList (s : State) (h : Handle) (i : Nat) : State :=
  s.modStream h fun st => { st with scrubList := st.scrubList.erase i }

/-- The frame in record `i` would take a cancel reason now: it has none, and a piece of it waits (R61). -/
def State.cancellable (s : State) (i : Nat) : Bool :=
  match s.frames.get i with
  | none => false
  | some f => f.cancel.isNone && f.pieceRefs.any s.waits

/-- A cancel reason reaching the frame in record `i`: if it has none and a piece of it waits, it takes the reason, every
waiting piece of it is removed with the matching outcome, and it finishes at once if nothing of it is in service (R61). -/
def State.withdrawFrame (reason : CancelReason) (s : State) (i : Nat) : State :=
  if s.cancellable i then
    match s.frames.get i with
    | none => s
    | some f =>
      let s := s.modFrame i fun f => { f with cancel := some reason }
      let s := s.leaveScrubList f.stream.handle i
      (f.pieceRefs.foldl (State.withdrawPiece reason.outcome) s).finishIfDone i
  else s

/-- The records of a stream's outstanding frames, rising (R67; the order is notes/assumptions 10). -/
def State.framesOf (s : State) (i : StreamId) : List Nat :=
  s.frames.numbersOf fun f => decide (f.stream = i)

/-- The cancellation of a stream's undispatched frames (R32). -/
def State.cancelStream (s : State) (i : StreamId) : State :=
  (s.framesOf i).foldl (State.withdrawFrame .cancelled) s

/-- The number of frames that a cancellation of the stream would give cancel reason CANCELLED (R31, R33, R34). -/
def State.cancelCount (s : State) (i : StreamId) : Nat := ((s.framesOf i).filter s.cancellable).length

/-! ## Placement and release -/

/-- The placement test of a piece's span against its stream: link UP, entry reserved (R57). -/
def State.placeable (s : State) (h : Handle) (j : SpanId) : Bool :=
  s.linkUp j && (match s.stream h with
    | none => false
    | some st => st.reservedOn j)

/-- A piece placed at acceptance or release: SPAN_LOST where the test fails; otherwise kept HELD (`hold`), or entered in
its span's queue (R56, R57). -/
def State.placePiece (hold : Bool) (h : Handle) (s : State) (p : Nat) : State :=
  match s.pieces.get p with
  | none => s
  | some pc =>
    if s.placeable h pc.span then
      if hold then s else s.enqueue p pc
    else s.recordOutcome p .spanLost

/-- The frame in record `i` released from the hold: its deadline is the release time plus the scrub target, and its HELD
pieces are placed in stripe order (R77, R38). -/
def State.releaseFrame (s : State) (i : Nat) : State :=
  match s.frames.get i with
  | none => s
  | some f =>
    let held := f.pieceRefs.filter fun p => decide (s.pieceState p = some .held)
    if held = [] then s
    else
      let s := s.modFrame i fun f => { f with deadline := some (plusMicros s.time s.deadlineUnit.scrubTarget) }
      (held.foldl (State.placePiece false f.stream.handle) s).finishIfDone i

end Sys2Proof.Machine
end

