-- ==== Sys2Proof/Machine/Streams.lean ====
section
/-! DEFINITION. The meanings of the Admission Unit: OPEN_STREAM (R6 to R11), CLOSE_STREAM (R15), ADOPT (R160),
QUERY_STREAM (R23), the drain's end (R17, R18), the release at ABSENT (R19), the reports of link state (R21) and of
ceiling (R13), orphaning (R158) and its expiry (R159). -/

namespace Sys2Proof.Machine

open Host (Outcome)

/-! ## Naming a stream -/

/-- The stream that a stream id names: its record not FREE, its generation the same (R5, check 2). -/
def State.named (s : State) (i : StreamId) : Option Stream :=
  if s.gen i.handle = i.gen then s.stream i.handle else none

/-- The present id of the stream at a handle. -/
def State.idOf (s : State) (h : Handle) : StreamId := { handle := h, gen := s.gen h }

/-- A command on a stream by its owner, after check 1: NO_STREAM, then NOT_OWNER, then the command's own state check
(R5). -/
def State.withOwned (s : State) (n : NodeId) (code : Nat) (i : StreamId) (act : Stream → State → State) : State :=
  match s.named i with
  | none => s.result n code .noStream []
  | some st => if st.owner = some n then act st s else s.result n code .notOwner []

/-! ## OPEN_STREAM -/

/-- The arguments of OPEN_STREAM (R178): a policy is read as its code, and a span entry as a number. -/
structure OpenArgs where
  period : Nat
  frameBlocks : Nat
  width : Nat
  spans : List Nat
  depth : Nat
  lead : Nat
  scrub : Nat
  late : Nat
  settle : Option Nat
  deriving DecidableEq, Repr

/-- The arguments as the record carries them; of the span list the first W entries are read (R6). -/
def recOpenArgs (rec : List Byte) : OpenArgs :=
  { period := recArg rec 0, frameBlocks := recArg rec 1, width := recArg rec 2,
    spans := ([0, 1, 2, 3, 4, 5, 6, 7].map fun k => recArg rec (3 + k)).take (recArg rec 2),
    depth := recArg rec 11, lead := recArg rec 12, scrub := recArg rec 13, late := recArg rec 14,
    settle := if recSettlePresent rec then some (recArg rec 15) else none }

/-- The argument checks of OPEN_STREAM: the span list and policies they name, or BAD_ARGS (R6). -/
def OpenArgs.check (a : OpenArgs) : Option (List SpanId × ScrubPolicy × LatePolicy) :=
  if 1000 ≤ a.period ∧ a.period ≤ 1000000 ∧ 1 ≤ a.frameBlocks ∧ a.frameBlocks ≤ 65535 ∧ 1 ≤ a.width ∧
      a.width ≤ 8 ∧ a.spans.all (· < 8) = true ∧ a.spans.Nodup then
    match ScrubPolicy.ofCode a.scrub, LatePolicy.ofCode a.late with
    | some sp, some lp => some (a.spans.filterMap spanOf, sp, lp)
    | _, _ => none
  else none

/-- The share: FB divided by W, rounded up (R7). -/
def shareOf (frameBlocks width : Nat) : Nat := ceilDiv frameBlocks width

/-- The utilisation of a stream on a span of request overhead `c` and transfer cost `t`, in ppm, rounded up (R7). -/
def utilisation (c t share period : Nat) : Nat := ceilDiv ((c * 1000 + share * t) * 1000) period

/-- The span list of an admission: each span with its U, reserved (R7, R9). -/
def State.spanList (s : State) (share period : Nat) (js : List SpanId) : List SpanEntry :=
  js.map fun j =>
    { span := j, u := utilisation (s.span j).budget.overhead (s.span j).budget.transfer share period, reserved := true }

/-- The admission tests at one span, in order: the status and the further fields of the answer of the first that fails,
at position `pos` of the list (R8, R10). -/
def Budget.refuses (b : Budget) (e : SpanEntry) (pos : Nat) : Option (ResultStatus × List Field) :=
  if b.link ≠ .up then some (.spanDown, [fNat e.span.val, fNat pos])
  else if b.ceiling < e.u then some (.unservable, [fNat e.span.val, fNat pos, fNat e.u, fNat b.ceiling])
  else if b.tripped = true ∨ b.effective < b.committed + e.u then
    some (.overBudget, [fNat e.span.val, fNat pos, fNat e.u, fNat b.committed, fNat b.effective, fBool b.tripped])
  else none

/-- The admission tests in stripe order: the first failure on the first span where any fails (R8). -/
def State.admissionRefusal (s : State) : List SpanEntry → Nat → Option (ResultStatus × List Field)
  | [], _ => none
  | e :: r, pos =>
    match (s.span e.span).budget.refuses e pos with
    | some x => some x
    | none => s.admissionRefusal r (pos + 1)

/-- The U of each span in stripe order, as an answer carries them (R10). -/
def uFields (es : List SpanEntry) : List Field := fList 8 1 (es.map fun e => [fNat e.u])

/-- The record of an admitted stream (R9). -/
def OpenArgs.record (a : OpenArgs) (n : NodeId) (es : List SpanEntry) (sp : ScrubPolicy) (lp : LatePolicy)
    (defaultSettle : Nat) : Stream :=
  { state := .stopped, owner := some n, prior := none, period := a.period, frameBlocks := a.frameBlocks,
    share := shareOf a.frameBlocks a.width, spans := es, depth := clamp 1 16 a.depth, lead := clamp 0 1000000 a.lead,
    settle := (match a.settle with
      | none => defaultSettle
      | some v => clamp 0 255 v),
    scrub := sp, late := lp, anchor := none, outstanding := 0, degraded := false, framesOk := 0, framesLate := 0,
    framesSkipped := 0, framesFailed := 0, orphanExpiry := none, settleExpiry := none, scrubList := [] }

/-- One reservation added to its span's committed figure, and the overcommit flag recomputed (R9, R12, R13). -/
def State.commit (s : State) (e : SpanEntry) : State :=
  (s.modBudget e.span fun b => { b with committed := b.committed + e.u }).recomputeOvercommit e.span

/-- OPEN_STREAM taken whole by the Admission Unit, from an ATTACHED node (R6 to R11). -/
def State.tryOpen (s : State) (n : NodeId) (a : OpenArgs) : State :=
  match a.check with
  | none => s.result n 4 .badArgs []
  | some (js, sp, lp) =>
    let es := s.spanList (shareOf a.frameBlocks a.width) a.period js
    match s.admissionRefusal es 0 with
    | some (status, body) => s.result n 4 status body
    | none =>
      let k := s.streams.lowestFree
      if k < Config.streamRecords then
        let h : Handle := BitVec.ofNat 8 k
        let st := a.record n es sp lp s.defaultSettle
        let s := es.foldl State.commit s
        let s := { s with streams := s.streams.put k st }
        s.result n 4 .ok
          ([fStreamId (s.idOf h), fNat st.share] ++ uFields es ++ [fNat st.depth, fNat st.lead, fNat st.settle])
      else s.result n 4 .noRecord (uFields es)

/-- OPEN_STREAM (R9). -/
def execOpenStream (n : NodeId) (s : State) : Outcome State Fault Refusal :=
  withAttached n 4 s fun rec s => s.tryOpen n (recOpenArgs rec)

/-! ## Leaving play, and CLOSE_STREAM -/

/-- A stream's play fields and hold emptied on a change of state: the anchor removed (R28), the settle timer stopped and
the scrub list emptied (R80). -/
def Stream.still (st : Stream) (k : StreamState) : Stream :=
  { st with state := k, anchor := none, settleExpiry := none, scrubList := [] }

/-- CLOSE_STREAM (R15): the RESULT stands before the FRAME_DONEs of the frames cancelled. -/
def execCloseStream (n : NodeId) (s : State) : Outcome State Fault Refusal :=
  withAttached n 5 s fun rec s =>
    let i := recStream rec
    s.withOwned n 5 i fun st s =>
      if st.state = .closing then s.result n 5 .wrongState []
      else ((s.modStream i.handle fun st => st.still .closing).result n 5 .ok []).cancelStream i

/-! ## Release of reservations -/

/-- One reserved entry's U taken from its span's committed figure, and the overcommit flag recomputed; an entry not
reserved is passed over (R18). -/
def State.uncommit (s : State) (e : SpanEntry) : State :=
  if e.reserved then
    (s.modBudget e.span fun b => { b with committed := b.committed - e.u }).recomputeOvercommit e.span
  else s

/-- The generation of a handle incremented, wrapping from 255 to 0 (R4). -/
def State.bumpGen (s : State) (h : Handle) : State := { s with gens := s.gens.set h.toNat (s.gen h + 1) }

/-- A stream record's return to FREE (R18). -/
def State.freeStream (s : State) (h : Handle) : State :=
  match s.stream h with
  | none => s
  | some st =>
    let s := (st.spans.foldl State.uncommit s).bumpGen h
    { s with streams := s.streams.free h.toNat }

/-- DRAIN_END: a CLOSING stream whose outstanding count is 0 returns to FREE (R17). -/
def execDrainEnd (h : Handle) (s : State) : Outcome State Fault Refusal :=
  match s.stream h with
  | none => .next s
  | some st => if st.state = .closing ∧ st.outstanding = 0 then .next (s.freeStream h) else .next s

/-- A stream with every reservation on a span given up and its degraded flag set, if it held one (R19). -/
def Stream.releaseSpan (st : Stream) (j : SpanId) : Stream :=
  if st.reservedOn j then
    { st with degraded := true,
              spans := st.spans.map fun e => if e.span = j then { e with reserved := false } else e }
  else st

/-- What a stream has reserved on a span. -/
def Stream.reservedU (st : Stream) (j : SpanId) : Nat :=
  ((st.spans.filter fun e => decide (e.span = j) && e.reserved).map SpanEntry.u).sum

/-- What all streams have reserved on a span (R12). -/
def State.reservedU (s : State) (j : SpanId) : Nat := (s.streams.map fun kv => kv.2.reservedU j).sum

/-- The release of every reservation on a span that is ABSENT: subtracted from committed, the flags cleared, the streams
degraded, overcommit recomputed (R19). The span's link state as the Admission Unit holds it becomes ABSENT (R114). -/
def State.releaseAbsent (s : State) (j : SpanId) : State :=
  let freed := s.reservedU j
  let s := s.modBudget j fun b => { b with committed := b.committed - freed, link := .absent }
  let s := { s with streams := s.streams.each fun st => st.releaseSpan j }
  (s.updateDegraded j).recomputeOvercommit j

/-- Reports of one span's link to the Admission Unit, which takes them in their order (R11, R114). -/
def toAdmission (j : SpanId) : Report → Bool
  | .linkState k _ => decide (k = j)
  | .absent k => decide (k = j)
  | _ => false

/-- ABSENT_RELEASE (R19). -/
def execAbsentRelease (j : SpanId) (s : State) : Outcome State Fault Refusal :=
  withReport s (toAdmission j) fun r s =>
    match r with
    | .absent _ => some (s.releaseAbsent j)
    | _ => none

/-- LINK_STATE_REPORT (R21): the link state last reported is kept, and the degraded flags follow. -/
def execLinkStateReport (j : SpanId) (s : State) : Outcome State Fault Refusal :=
  withReport s (toAdmission j) fun r s =>
    match r with
    | .linkState _ k => some ((s.modBudget j fun b => { b with link := k }).updateDegraded j)
    | _ => none

/-- CEILING_REPORT (R13, R137): the ceiling and trip last reported are kept, and overcommit is recomputed. -/
def execCeilingReport (j : SpanId) (s : State) : Outcome State Fault Refusal :=
  withReport s (fun | .ceiling k _ _ => decide (k = j) | _ => false) fun r s =>
    match r with
    | .ceiling _ c t =>
      some ((s.modBudget j fun b => { b with effective := c, tripped := t }).recomputeOvercommit j)
    | _ => none

/-! ## QUERY_STREAM and ADOPT -/

/-- The span list as an answer carries it: each entry's span, U and reserved flag (R23). -/
def spanListFields (es : List SpanEntry) : List Field :=
  fList 8 3 (es.map fun e => [fNat e.span.val, fNat e.u, fBool e.reserved])

/-- The orphan time remaining, in ms, rounded down (R23, R160). -/
def Stream.orphanLeft (st : Stream) (now : Time) : Field := fOpt (fun t => fNat (millisLeft now t)) st.orphanExpiry

/-- The fields of QUERY_STREAM's answer (R23). -/
def Stream.body (st : Stream) (i : StreamId) (now : Time) : List Field :=
  [fStreamId i, fNat st.state.code, fOpt (fun n => fNat n.val) st.owner, fOpt (fun k => fNat (StreamState.code k)) st.prior,
   fNat st.period, fNat st.frameBlocks, fNat st.spans.length, fNat st.share] ++ spanListFields st.spans ++
  [fNat st.depth, fNat st.lead, fNat st.settle, fNat st.scrub.code, fNat st.late.code,
   fOpt (fun a => fTime (Anchor.time a)) st.anchor, fOpt (fun a => fNat (Anchor.frame a)) st.anchor,
   fOpt (fun a => fInt (Anchor.speed a)) st.anchor, fNat st.outstanding, fBool st.degraded, fNat st.framesOk,
   fNat st.framesLate, fNat st.framesSkipped, fNat st.framesFailed, st.orphanLeft now]

/-- QUERY_STREAM (R23): no owner check. -/
def execQueryStream (n : NodeId) (s : State) : Outcome State Fault Refusal :=
  withAttached n 11 s fun rec s =>
    match s.named (recStream rec) with
    | none => s.result n 11 .noStream []
    | some st => s.result n 11 .ok (st.body (recStream rec) s.time)

/-- A stream taken over by a node (R160). -/
def Stream.adoptedBy (st : Stream) (n : NodeId) : Stream :=
  { st with owner := some n, state := .stopped, orphanExpiry := none, prior := none }

/-- ADOPT (R160): the RESULT stands before the adopter's own ADOPTED notice. -/
def execAdopt (n : NodeId) (s : State) : Outcome State Fault Refusal :=
  withAttached n 10 s fun rec s =>
    let i := recStream rec
    match s.named i with
    | none => s.result n 10 .noStream []
    | some st =>
      if st.state = .orphaned then
        let prior := fOpt (fun k => fNat (StreamState.code k)) st.prior
        ((s.modStream i.handle fun st => st.adoptedBy n).result n 10 .ok
          ([fStreamId i, prior, st.orphanLeft s.time, fNat st.outstanding, fBool st.degraded] ++
            spanListFields st.spans)).notifyAll
          (.streamNotice .adopted) [fStreamId i, fNat n.val, prior]
      else s.result n 10 .notOrphaned []

/-! ## Orphaning -/

/-- The states that a stream with a serving owner is in (R3). -/
def StreamState.served : StreamState → Bool
  | .stopped => true
  | .playing => true
  | .scrubbing => true
  | _ => false

/-- A stream orphaned at `now` with the grace as it stands (R158). -/
def Stream.orphan (st : Stream) (now : Time) (grace : Nat) : Stream :=
  { st.still .orphaned with owner := none, prior := some st.state, orphanExpiry := some (plusMillis now grace) }

/-- The handles of the streams that a node owns and serves, rising (R155, R157). -/
def State.servedBy (s : State) (n : NodeId) : List Handle :=
  (s.streams.numbersOf fun st => decide (st.owner = some n) && st.state.served).map (BitVec.ofNat 8)

/-- Every stream of a node changed at the node's leaving ATTACHED: one in STOPPED, PLAYING or SCRUBBING by `f`, one in
CLOSING left without an owner (R3). -/
def State.leaveStreams (s : State) (n : NodeId) (f : Stream → Stream) : State :=
  { s with streams := s.streams.each fun st =>
      if st.owner = some n then (if st.state.served then f st else { st with owner := none }) else st }

/-- The cancellations owed to streams whose owner has left (R148, R158). -/
def State.oweCancels (s : State) (n : NodeId) (hs : List Handle) : State :=
  s.postAll (hs.map fun h => .cancel (s.idOf h) n (s.node n).epoch)

/-- STREAM_NOTICE ORPHANED for a stream of a former owner (R162). -/
def State.noticeOrphaned (former : NodeId) (s : State) (h : Handle) : State :=
  match s.stream h with
  | none => s
  | some st =>
    s.notifyAll (.streamNotice .orphaned)
      [fStreamId (s.idOf h), fNat former.val, fOpt (fun k => fNat (StreamState.code k)) st.prior,
       fOpt fTime st.orphanExpiry, fNat st.outstanding]

/-- The expiry of a stream's orphan timer: CLOSING without an owner, STREAM_NOTICE CLOSED, and FREE at once when nothing
is outstanding (R159). -/
def State.orphanExpires (s : State) (h : Handle) : State :=
  match s.stream h with
  | none => s
  | some st =>
    let s := s.modStream h fun st => { st with state := .closing, prior := none, orphanExpiry := none }
    let s := s.notifyAll (.streamNotice .closed) [fStreamId (s.idOf h), fNat st.outstanding]
    if st.outstanding = 0 then s.freeStream h else s

/-- A grace of 0 expires in the event of the orphaning, after its notices (R158). -/
def State.zeroGrace (s : State) (hs : List Handle) : State :=
  if s.orphanGrace = 0 then hs.foldl State.orphanExpires s else s

/-- ORPHAN_TIMER_EXPIRY (R159). -/
def execOrphanTimerExpiry (h : Handle) (s : State) : Outcome State Fault Refusal :=
  match s.stream h with
  | none => .next s
  | some st =>
    match st.orphanExpiry with
    | none => .next s
    | some t => if st.state = .orphaned ∧ reached s.time t = true then .next (s.orphanExpires h) else .next s

end Sys2Proof.Machine
end

