-- ==== Sys2Proof/Machine/Play.lean ====
section
/-! DEFINITION. The meanings of the Deadline Unit's commands PLAY (R29 to R31), STOP (R33) and SCRUB (R34), and the kind
and deadline of a frame (R36 to R38). -/

namespace Sys2Proof.Machine

open Host (Outcome)

/-- The magnitude of speed taken for a requested one, 1 or more (R29). -/
def speedMagnitude (m : Nat) : Nat := if m ≤ 1 then 1 else if m ≤ 3 then 2 else if m ≤ 7 then 4 else 8

/-- The speed taken: the magnitude rounded down, the sign kept (R29). -/
def roundSpeed (v : Int) : Int := if v < 0 then -(speedMagnitude v.natAbs) else speedMagnitude v.natAbs

/-- The body of STOP's answer: the count of frames cancelled, where the answer carries one, and for a PLAY of speed 0 the
indicator that the speed was taken as 0 (R33). The place of the indicator after the count, absent or not, is
notes/assumptions 15. -/
def stopBody (count : Option Nat) (zeroSpeed : Bool) : List Field :=
  if zeroSpeed then [fOpt fNat count, fNat 1]
  else match count with
    | none => []
    | some c => [fNat c]

/-- STOP, or with `zeroSpeed` a PLAY of speed 0, of the stream named, answering command `code` (R33, R30). -/
def State.stopStream (s : State) (n : NodeId) (code : Nat) (i : StreamId) (st : Stream) (zeroSpeed : Bool) : State :=
  if st.state = .playing ∨ st.state = .scrubbing then
    let count := s.cancelCount i
    ((s.modStream i.handle fun st => st.still .stopped).result n code .ok (stopBody (some count) zeroSpeed)).cancelStream i
  else s.result n code .wrongState (stopBody none zeroSpeed)

/-- PLAY (R30, R31): a speed of 0 is taken as STOP; the RESULT stands before the FRAME_DONEs of the frames cancelled. -/
def execPlay (n : NodeId) (s : State) : Outcome State Fault Refusal :=
  withAttached n 6 s fun rec s =>
    let i := recStream rec
    s.withOwned n 6 i fun st s =>
      if recArgSigned rec 1 = 0 then s.stopStream n 6 i st true
      else if st.state = .closing then s.result n 6 .wrongState []
      else if Config.maxFrame < recArg rec 0 then s.result n 6 .badArgs []
      else
        let preroll := clamp 0 10000000 (recArg rec 2)
        let a : Anchor := { time := plusMicros s.time preroll, frame := recArg rec 0, speed := roundSpeed (recArgSigned rec 1) }
        let count := s.cancelCount i
        ((s.modStream i.handle fun st => { st.still .playing with anchor := some a }).result n 6 .ok
          [fTime a.time, fNat a.frame, fInt a.speed, fNat preroll, fNat count]).cancelStream i

/-- STOP (R33). -/
def execStop (n : NodeId) (s : State) : Outcome State Fault Refusal :=
  withAttached n 7 s fun rec s => s.withOwned n 7 (recStream rec) fun st s => s.stopStream n 7 (recStream rec) st false

/-- SCRUB (R34). -/
def execScrub (n : NodeId) (s : State) : Outcome State Fault Refusal :=
  withAttached n 8 s fun rec s =>
    let i := recStream rec
    s.withOwned n 8 i fun st s =>
      if st.state = .stopped ∨ st.state = .playing then
        let count := s.cancelCount i
        ((s.modStream i.handle fun st => st.still .scrubbing).result n 8 .ok [fNat count]).cancelStream i
      else s.result n 8 .wrongState []

/-! ## The deadline of a frame -/

/-- The deadline of frame `number` under an anchor, where it passes the tests of direction, stride and horizon (R37,
R38). -/
def Stream.playDeadline (st : Stream) (a : Anchor) (number : Nat) : Option Time :=
  let d : Int := (number : Int) - (a.frame : Int)
  if (d = 0 ∨ (0 < d ↔ 0 < a.speed)) ∧ d % a.speed = 0 ∧ (d / a.speed) * st.period ≤ Config.horizon then
    some (a.time + BitVec.ofNat 48 ((d / a.speed).toNat * st.period) - BitVec.ofNat 48 st.lead)
  else none

/-- The kind of a frame read accepted now, and its deadline where it has one at acceptance (R36). -/
def Stream.timing (st : Stream) (number : Nat) : FrameKind × Option Time :=
  match st.state, st.anchor with
  | .playing, some a =>
    match st.playDeadline a number with
    | some d => (.play, some d)
    | none => (.park, none)
  | .scrubbing, _ => (.scrub, none)
  | _, _ => (.park, none)

end Sys2Proof.Machine
end

