-- ==== Sys2Proof/Machine/FrameRead.lean ====
section
/-! DEFINITION. The meanings of the Frame Table and the Settle Hold: FRAME_READ (R52 to R57, R41, R72 to R75), the
taking of outcomes (R60), of cancellations (R32), of late reports (R44, R45) and of a settle timer's expiry (R76). -/

namespace Sys2Proof.Machine

open Host (Outcome)

/-! ## The checks of FRAME_READ -/

/-- The extent list matches a stream: exactly W extents, their spans the span list in order, and every block count from 1
to the share (R52, check 3). -/
def extentsMatch (st : Stream) (count : Nat) (exts : List Extent) : Bool :=
  decide (count = st.spans.length) && decide (exts.map Extent.span = st.spans.map fun e => e.span.val) &&
  exts.all fun x => decide (1 ≤ x.count) && decide (x.count ≤ st.share)

/-- The candidate of the EVERY policy: the oldest frame of the scrub list (R75, step 1). -/
def Stream.candidate (st : Stream) : Option Nat := st.scrubList.head?

/-- The records that a candidate's supersession would free: its frame record, and its waiting pieces (R75). -/
def State.freedPieces (s : State) (i : Nat) : Nat :=
  match s.frames.get i with
  | none => 0
  | some f => (f.pieceRefs.filter s.waits).length

/-- Check 6: a free frame record, and W free piece records, with so many records counted as free besides (R52, R75). -/
def State.poolsHold (s : State) (w frames pieces : Nat) : Bool :=
  decide (s.frames.length + 1 ≤ Config.frameRecords + frames) &&
  decide (s.pieces.length + w ≤ Config.pieceRecords + pieces)

/-- What the checks of a FRAME_READ decide: a refusal, or the stream, with the frame to supersede first, if any. -/
inductive ReadVerdict where
  | refuse (status : FrameStatus)
  | pass (st : Stream) (victim : Option Nat)
  deriving DecidableEq, Repr

/-- Checks 5 and 6 (R52), as the Settle Hold makes them for a stream in SCRUBBING under EVERY at full depth (R75). -/
def State.depthAndPools (s : State) (st : Stream) : ReadVerdict :=
  if st.outstanding < st.depth then
    if s.poolsHold st.spans.length 0 0 then .pass st none else .refuse .refusedPool
  else if st.state = .scrubbing ∧ st.scrub = .every then
    match st.candidate with
    | none => .refuse .refusedDepth
    | some v =>
      if s.poolsHold st.spans.length 1 (s.freedPieces v) then .pass st (some v) else .refuse .refusedPool
  else .refuse .refusedDepth

/-- The six checks of FRAME_READ, in order (R52). -/
def State.readChecks (s : State) (n : NodeId) (rec : List Byte) : ReadVerdict :=
  let i := recStream rec
  match s.named i with
  | none => .refuse .refusedStream
  | some st =>
    if (s.node n).state ≠ .attached ∨ st.owner ≠ some n then .refuse .refusedStream
    else if st.state = .closing then .refuse .refusedState
    else if Config.maxFrame < recArg rec 1 ∨
        extentsMatch st (recExtentCount rec) (recExtents rec (recExtentCount rec)) = false then .refuse .refusedArgs
    else if s.frames.any (fun kv => decide (kv.2.stream = i) && decide (kv.2.number = recArg rec 1)) then
      .refuse .refusedDuplicate
    else s.depthAndPools st

/-! ## Acceptance -/

/-- The frame record of an accepted read (R55). -/
def frameRecord (n : NodeId) (epoch : Epoch) (rec : List Byte) (kind : FrameKind) (deadline : Option Time)
    (ps : List Nat) (now : Time) : Frame :=
  { stream := recStream rec, node := n, epoch := epoch, cookie := recCookie rec, number := recArg rec 1, kind := kind,
    deadline := deadline, cancel := none, positions := ps.map Position.piece, accepted := now }

/-- The piece record at a position, taken from the extent there (R56). -/
def pieceRecord (frame position : Nat) (e : SpanEntry) (x : Extent) : Piece :=
  { frame := frame, position := position, span := e.span, start := x.start, count := x.count, token := x.token,
    state := .held, seq := none }

/-- The piece records put in use, position by position (R51, R56). -/
def putPieces (frame : Nat) : Nat → List Nat → List SpanEntry → List Extent → Pool Piece → Pool Piece
  | k, p :: ps, e :: es, x :: xs, pool => putPieces frame (k + 1) ps es xs (pool.put p (pieceRecord frame k e x))
  | _, _, _, _, pool => pool

/-- A scrub frame that has entered the hold: it joins the scrub list; under LAST_WINS every other frame of the list is
superseded, oldest first; the settle timer is restarted, or with a settle interval of 0 the frame is released at once
(R72, R74). -/
def State.enterHold (s : State) (h : Handle) (st : Stream) (i : Nat) : State :=
  let older := match s.stream h with
    | none => []
    | some now => now.scrubList
  let s := s.modStream h fun st => { st with scrubList := st.scrubList ++ [i] }
  let s := if st.scrub = .lastWins then older.foldl (State.withdrawFrame .superseded) s else s
  if st.settle = 0 then s.releaseFrame i
  else s.modStream h fun st => { st with settleExpiry := some (plusMillis s.time st.settle) }

/-- Acceptance of a read of kind and deadline given: records allocated and filled, outstanding raised, pieces placed
(R55 to R57); a frame whose every piece failed placement finishes at once. -/
def State.acceptRead (s : State) (n : NodeId) (rec : List Byte) (st : Stream) (kind : FrameKind)
    (deadline : Option Time) : State :=
  let h := (recStream rec).handle
  let i := s.frames.lowestFree
  let ps := s.pieces.lowestFreeMany st.spans.length
  let f := frameRecord n (s.node n).epoch rec kind deadline ps s.time
  let s := { s with frames := s.frames.put i f,
                    pieces := putPieces i 0 ps st.spans (recExtents rec (recExtentCount rec)) s.pieces }
  let s := s.modStream h fun st => { st with outstanding := st.outstanding + 1 }
  let s := ps.foldl (State.placePiece (decide (kind = .scrub)) h) s
  if kind = .scrub ∧ ps.any s.waits = true then s.enterHold h st i else s.finishIfDone i

/-- A refused read is answered at once and changes nothing (R53). -/
def State.refuseRead (s : State) (n : NodeId) (rec : List Byte) (status : FrameStatus) : State :=
  s.frameDone n status (frameDoneBody (recStream rec) (recCookie rec) (recArg rec 1) none false none [])

/-- A read skipped on arrival is answered LATE_SKIPPED at once and advances frames_skipped (R41). -/
def State.skipRead (s : State) (n : NodeId) (rec : List Byte) (st : Stream) (deadline : Time) : State :=
  (s.modStream (recStream rec).handle fun st => st.count .lateSkipped true).frameDone n .lateSkipped
    (frameDoneBody (recStream rec) (recCookie rec) (recArg rec 1) (some .play) true (some (timeDiff s.time deadline))
      (st.spans.map fun _ => .skipped))

/-- A read late on arrival: a PLAY deadline with slack below 0 (R41, R42). -/
def lateOnArrival (now : Time) : Option Time → Bool
  | none => false
  | some d => decide (slack now d < 0)

/-- Some piece of a read for a stream would pass the placement test (R57). -/
def State.anyPlaceable (s : State) (h : Handle) (st : Stream) : Bool := st.spans.any fun e => s.placeable h e.span

/-- A scrub read of which no piece can be HELD, where it could be accepted only in a candidate's place: it is answered FAILED
at once, counted, and supersedes nothing (R72, R81). No record is taken for it. -/
def State.failRead (s : State) (n : NodeId) (rec : List Byte) (st : Stream) : State :=
  (s.modStream (recStream rec).handle fun st => st.count .failed false).frameDone n .failed
    (frameDoneBody (recStream rec) (recCookie rec) (recArg rec 1) (some .scrub) false none (st.spans.map fun _ => .spanLost))

/-- FRAME_READ taken whole by the Frame Table (R51 to R57). Under EVERY a candidate is superseded before the acceptance (R75,
steps 3 and 4), unless no piece of the new read can be HELD: then it supersedes nothing (R72, R81). DESIGN CHOICE: check 6
counts the candidate's records as free there too (notes/assumptions 36). -/
def State.readFrame (s : State) (n : NodeId) (rec : List Byte) : State :=
  match s.readChecks n rec with
  | .refuse status => s.refuseRead n rec status
  | .pass st victim =>
    let timing := st.timing (recArg rec 1)
    match timing.2 with
    | some d =>
      if lateOnArrival s.time (some d) ∧ st.late = .skip then s.skipRead n rec st d
      else s.acceptRead n rec st timing.1 (some d)
    | none =>
      match victim with
      | none => s.acceptRead n rec st timing.1 none
      | some v =>
        if s.anyPlaceable (recStream rec).handle st then
          (s.withdrawFrame .superseded v).acceptRead n rec st timing.1 none
        else s.failRead n rec st

/-- FRAME_READ (R55): handed to the Frame Table in every node state (R167). -/
def execFrameRead (n : NodeId) (s : State) : Outcome State Fault Refusal :=
  withCommand n 9 s fun rec s => s.readFrame n rec

/-! ## Events taken by the Frame Table and the Settle Hold -/

/-- PIECE_OUTCOME (R60). -/
def execPieceOutcome (p : Nat) (s : State) : Outcome State Fault Refusal :=
  withReport s (fun | .outcome q _ => decide (q = p) | _ => false) fun r s =>
    match r with
    | .outcome _ o => some (s.takeOutcome p o)
    | _ => none

/-- The cancellation owed to a stream after its owner's leaving: of its frames of that node and epoch (R158, R32,
notes/assumptions 9). -/
def State.cancelOwed (s : State) (i : StreamId) (n : NodeId) (epoch : Epoch) : State :=
  (s.frames.numbersOf fun f => decide (f.stream = i) && decide (f.node = n) && decide (f.epoch = epoch)).foldl
    (State.withdrawFrame .cancelled) s

/-- CANCEL_UNDISPATCHED (R32). -/
def execCancelUndispatched (h : Handle) (s : State) : Outcome State Fault Refusal :=
  withReport s (fun | .cancel i _ _ => decide (i.handle = h) | _ => false) fun r s =>
    match r with
    | .cancel i n e => some (s.cancelOwed i n e)
    | _ => none

/-- The record that a late report names still holds the frame it was made for. -/
def LateFrame.stands (l : LateFrame) (f : Frame) : Bool :=
  decide (f.stream = l.stream) && decide (f.number = l.number) && decide (f.accepted = l.accepted)

/-- A late report taken: under SKIP the frame is skipped, under SERVE it is left as it is (R44, R45). -/
def State.takeLate (s : State) (l : LateFrame) : State :=
  match s.frames.get l.record with
  | none => s
  | some f =>
    if l.stands f then
      match s.stream f.stream.handle with
      | none => s
      | some st => if st.late = .skip then s.withdrawFrame .skipped l.record else s
    else s

/-- LATE_REPORT (R44). -/
def execLateReport (j : SpanId) (s : State) : Outcome State Fault Refusal :=
  withReport s (fun | .late k _ => decide (k = j) | _ => false) fun r s =>
    match r with
    | .late _ l => some (s.takeLate l)
    | _ => none

/-- SETTLE_TIMER_EXPIRY (R76): every frame of the stream in the hold is released, in scrub-list order. -/
def execSettleTimerExpiry (h : Handle) (s : State) : Outcome State Fault Refusal :=
  match s.stream h with
  | none => .next s
  | some st =>
    match st.settleExpiry with
    | none => .next s
    | some t =>
      if reached s.time t then
        .next (st.scrubList.foldl State.releaseFrame (s.modStream h fun st => { st with settleExpiry := none }))
      else .next s

end Sys2Proof.Machine
end

