-- ==== Sys2Proof/Machine/Dispatching.lean ====
section
/-! DEFINITION. The meanings of the Span Queue and the Dispatch Arbiter: deadline expiry (R43), window opening (R97),
selection (R89), dispatch (R90 to R94, R106, R107), the mask (R98) and the queue's loss (R99). -/

namespace Sys2Proof.Machine

open Host (Outcome)

/-! ## The timers -/

/-- The late report of a piece, naming its frame (R43). -/
def State.lateReportOf (s : State) (j : SpanId) (p : Nat) : Option Report :=
  match s.pieces.get p with
  | none => none
  | some pc => (s.frames.get pc.frame).map fun f =>
      .late j { record := pc.frame, stream := f.stream, number := f.number, accepted := f.accepted }

/-- The pieces of a deadline list whose deadline is at or before a time (R43). -/
def State.dueBy (s : State) (j : SpanId) (d : Time) : List Nat :=
  (s.span j).queue.deadlines.filter fun p =>
    match s.deadlineOf p with
    | none => false
    | some e => decide (timeDiff e d ≤ 0)

/-- DEADLINE_EXPIRY (R43): the timer expires when the time base passes its deadline. DESIGN CHOICE: the pieces are
reported in the order of the deadline list (notes/assumptions 44). -/
def execDeadlineExpiry (j : SpanId) (s : State) : Outcome State Fault Refusal :=
  match (s.span j).queue.deadlineTimer with
  | none => .next s
  | some d =>
    if passed s.time d then .next ((s.postAll ((s.dueBy j d).filterMap (s.lateReportOf j))).rearmDeadline j)
    else .next s

/-- WINDOW_OPENING_EXPIRY (R97): the timer is armed for the next crossing that lies ahead. -/
def execWindowOpeningExpiry (j : SpanId) (s : State) : Outcome State Fault Refusal :=
  match (s.span j).queue.windowTimer with
  | none => .next s
  | some t =>
    if reached s.time t then
      .next ((s.modQueue j fun q => { q with windowTimer := s.windowArm j }).post (.select j))
    else .next s

/-! ## Selection -/

/-- SELECTION (R89): the arbiter takes an event that starts a selection, and begins one while the link is UP. -/
def execSelection (j : SpanId) (s : State) : Outcome State Fault Refusal :=
  withReport s (fun | .select k => decide (k = j) | _ => false) fun _ s => some (s.beginSelection j)

/-- MASK_WRITE (R98): a write that changes the mask starts a selection; one that leaves it starts none. -/
def execMaskWrite (j : SpanId) (s : State) : Outcome State Fault Refusal :=
  withReport s (fun | .mask k _ => decide (k = j) | _ => false) fun r s =>
    match r with
    | .mask _ m =>
      some (if (s.span j).arbiter.masked = m then s
        else (s.modArbiter j fun a => { a with masked := m }).beginSelection j)
    | _ => none

/-! ## The choice -/

/-- A slot that counts as occupied: BUSY or ZOMBIE (R105). -/
def Slot.occupied (k : Slot) : Bool := decide (k.state ≠ .free)

/-- The occupancy of a span (R105). -/
def SpanService.occupancy (v : SpanService) : Nat := (allSpans.filter fun k => v.slots[k].occupied).length

/-- The FREE slot with the lowest number (R106). -/
def SpanService.lowestFree (v : SpanService) : Option SlotId := allSpans.find? fun k => !v.slots[k].occupied

/-- A piece of the deadline list with its deadline, its class and its frame's node. -/
structure Waiting where
  piece : Nat
  deadline : Time
  cls : Urgency
  node : NodeId
  deriving DecidableEq, Repr

/-- A piece of the deadline list as the arbiter sees it now (R90). -/
def State.waiting (s : State) (j : SpanId) (p : Nat) : Option Waiting :=
  match s.pieces.get p with
  | none => none
  | some pc =>
    match s.frames.get pc.frame with
    | none => none
    | some f => f.deadline.map fun d =>
        { piece := p, deadline := d, cls := (s.span j).arbiter.classOf s.time d, node := f.node }

/-- The pieces of the deadline list that are not masked, in the order of the list (R91, R98). -/
def State.unmasked (s : State) (j : SpanId) : List Waiting :=
  ((s.span j).queue.deadlines.filterMap (s.waiting j)).filter fun w =>
    !((s.span j).arbiter.masked && decide (w.cls = .ahead))

/-- The class gate of a deadline piece by the occupancy (R91). -/
def Arbiter.gate (a : Arbiter) (occ : Nat) : Urgency → Bool
  | .late => decide (occ < a.depth)
  | .urgent => decide (occ < a.depth)
  | .due => decide (occ < a.depth)
  | .ahead => decide (occ + 1 < a.depth) || (decide (a.depth = 1) && decide (occ = 0))
  | .future => false
  | .background => !a.masked && (decide (occ < a.backgroundShare) || (decide (a.backgroundShare = 0) && decide (occ = 0)))

/-- The nodes in rotation, starting with the node after the pointer (R93). -/
def rotationFrom (ptr : NodeId) : List NodeId := [ptr + 1, ptr + 2, ptr + 3, ptr]

/-- The choice among the pieces that hold the earliest eligible deadline: the piece, and the rotation pointer after it
(R93). One piece alone is chosen and the pointer does not move. -/
def chooseTied (ptr : NodeId) (ties : List Waiting) : Option (Nat × NodeId) :=
  match ties with
  | [] => none
  | [w] => some (w.piece, ptr)
  | _ =>
    match (rotationFrom ptr).find? fun n => ties.any fun w => decide (w.node = n) with
    | none => none
    | some n => (ties.find? fun w => decide (w.node = n)).map fun w => (w.piece, n)

/-- The handle of the stream that a piece belongs to. -/
def State.handleOf (s : State) (p : Nat) : Option Handle :=
  match s.pieces.get p with
  | none => none
  | some pc => (s.frames.get pc.frame).map fun f => f.stream.handle

/-- How far a handle stands after the background pointer in the round, the pointer's own handle last (R94). -/
def roundDistance (ptr h : Handle) : Nat := (h - ptr - 1).toNat

/-- The background piece chosen by stream: of the handle next after the pointer that has one, the oldest (R94). -/
def State.chooseBackground (s : State) (j : SpanId) : Option (Nat × Handle) :=
  let ptr := (s.span j).arbiter.backgroundPtr
  ((s.span j).queue.background.filterMap fun p => (s.handleOf p).map fun h => (p, h)).foldl
    (fun best x =>
      match best with
      | none => some x
      | some b => if roundDistance ptr x.2 < roundDistance ptr b.2 then some x else some b)
    none

/-- What one dispatch chooses. -/
inductive Choice where
  | deadline (piece : Nat) (rotation : NodeId)
  | background (piece : Nat) (handle : Handle)
  deriving DecidableEq, Repr

/-- The piece that a dispatch chooses at arbiter `j` now, if any is eligible (R91 to R94). -/
def State.choose (s : State) (j : SpanId) : Option Choice :=
  let a := (s.span j).arbiter
  let occ := (s.span j).service.occupancy
  let background :=
    if a.gate occ .background then (s.chooseBackground j).map fun x => .background x.1 x.2 else none
  match s.unmasked j with
  | [] => background
  | w :: rest =>
    if w.cls = .future then background
    else if a.gate occ w.cls then
      (chooseTied a.rotation ((w :: rest).filter fun x => decide (x.deadline = w.deadline))).map fun x =>
        .deadline x.1 x.2
    else none

/-! ## Dispatch -/

/-- A piece put into slot `k`: BUSY with its dispatch time and expiry, READ_EXTENT sent with the slot's tag (R106,
R107). -/
def SpanService.take (v : SpanService) (now : Time) (k : SlotId) (p : Nat) (pc : Piece) : SpanService :=
  { v with
    slots := v.slots.set k { v.slots[k] with state := .busy p now (plusMillis now v.commandTimeout) },
    sent := v.sent ++ [.readExtent k v.slots[k].gen pc.count pc.start pc.token] }

/-- The piece made IN_SERVICE in slot `k`; its frame leaves its stream's scrub list (R90, R73). -/
def State.putInService (s : State) (j : SpanId) (k : SlotId) (p : Nat) (pc : Piece) : State :=
  let s := s.modPiece p fun pc => { pc with state := .inService }
  let s := s.modService j fun v => v.take s.time k p pc
  match s.frames.get pc.frame with
  | none => s
  | some f => s.leaveScrubList f.stream.handle pc.frame

/-- The arbiter's pointers after a choice (R93, R94). -/
def Arbiter.moved (a : Arbiter) : Choice → Arbiter
  | .deadline _ r => { a with rotation := r }
  | .background _ h => { a with backgroundPtr := h }

/-- The piece that a choice names. -/
def Choice.piece : Choice → Nat
  | .deadline p _ => p
  | .background p _ => p

/-- One dispatch of the piece chosen, in the one event of the dispatch (R90). -/
def State.dispatchOne (s : State) (j : SpanId) (c : Choice) : Option State :=
  match (s.span j).service.lowestFree, s.pieces.get c.piece with
  | some k, some pc =>
    let s := s.unlist j c.piece
    let s := s.modArbiter j fun a => a.moved c
    some (s.putInService j k c.piece pc)
  | _, _ => none

/-- A selection ends when no waiting piece is eligible (R90). -/
def State.endSelection (s : State) (j : SpanId) : State :=
  s.modArbiter j fun a => { a with selections := a.selections - 1 }

/-- DISPATCH (R90): the next dispatch of a selection in progress while the link is UP, or the selection's end. -/
def execDispatch (j : SpanId) (s : State) : Outcome State Fault Refusal :=
  if (s.span j).arbiter.selections = 0 then .next s
  else if s.linkUp j then
    match s.choose j with
    | none => .next (s.endSelection j)
    | some c =>
      match s.dispatchOne j c with
      | none => .next (s.endSelection j)
      | some t => .next t
  else .next (s.endSelection j)

/-- QUEUE_SPAN_LOSS (R99): the queue takes its span's ABSENT report. -/
def execQueueSpanLoss (j : SpanId) (s : State) : Outcome State Fault Refusal :=
  withReport s (fun | .queueLoss k => decide (k = j) | _ => false) fun _ s => some (s.loseQueue j)

end Sys2Proof.Machine
end

