-- ==== Sys2Proof/Machine/Service.lean ====
section
/-! DEFINITION. The meanings of the Span Service Unit: completions (R108 to R110), timeout (R111), training and link
states (R116 to R119), presence (R120, R121), LINK_RESET (R122) and messages of other types (R180). -/

namespace Sys2Proof.Machine

open Host (Outcome)

/-! ## Slots -/

/-- A slot returned to FREE, its generation incremented (R105). -/
def Slot.release (k : Slot) : Slot := { gen := k.gen + 1, state := .free }

/-- An occupied slot freed as its link is lost; a FREE slot keeps its generation (R118, R120). -/
def Slot.lose (k : Slot) : Slot := if k.occupied then k.release else k

/-- The pieces of a unit's BUSY slots, in slot order. -/
def SpanService.busyPieces (v : SpanService) : List Nat :=
  allSpans.filterMap fun k =>
    match v.slots[k].state with
    | .busy p _ _ => some p
    | _ => none

/-- Every occupied slot of a unit freed (R118, R120). -/
def SpanService.loseSlots (v : SpanService) : SpanService := { v with slots := bank8 fun k => v.slots[k].lose }

/-- A slot of a unit replaced. -/
def SpanService.setSlot (v : SpanService) (k : SlotId) (w : Slot) : SpanService := { v with slots := v.slots.set k w }

/-! ## Completions and timeouts -/

/-- The result byte of an EXTENT_DONE: every value but 0 is taken as MEDIA_ERROR (R108). -/
def resultOutcome (result : Byte) : PieceOutcome := if result = 0 then .ok else .mediaError

/-- A completion that matches no command in service: dropped and counted stale (R110). -/
def SpanService.stale (v : SpanService) : SpanService := { v with staleCount := advance Config.counterTop v.staleCount }

/-- EXTENT_DONE (R108, R109, R110). -/
def execExtentDone (j : SpanId) (slot gen result : Byte) (s : State) : Outcome State Fault Refusal :=
  match spanOf slot.toNat with
  | none => .next (s.modService j SpanService.stale)
  | some k =>
    let w := (s.span j).service.slots[k]
    if w.gen = gen then
      match w.state with
      | .busy p dispatched _ =>
        .next (((s.modService j fun v => v.setSlot k w.release).post (.outcome p (resultOutcome result))).postAll
          [.latency j (timeDiff s.time dispatched), .select j])
      | .zombie _ => .next ((s.modService j fun v => (v.setSlot k w.release).stale).post (.select j))
      | .free => .next (s.modService j SpanService.stale)
    else .next (s.modService j SpanService.stale)

/-- SLOT_EXPIRY (R111): taken at a BUSY slot whose expiry is reached. -/
def execSlotExpiry (j : SpanId) (k : SlotId) (s : State) : Outcome State Fault Refusal :=
  let w := (s.span j).service.slots[k]
  match w.state with
  | .busy p dispatched expiry =>
    if reached s.time expiry then
      .next ((s.modService j fun v =>
          { v.setSlot k { w with state := .zombie dispatched } with
            timeoutCount := advance Config.counterTop v.timeoutCount }).postAll
        [.outcome p .timedOut, .tripClass j])
    else .next s
  | _ => .next s

/-! ## Training -/

/-- An attempt begun: the attempt number, a TRAIN carrying it, and a timer of 50,000 µs (R116). -/
def SpanService.train (v : SpanService) (now : Time) (attempt : Nat) : SpanService :=
  { v with link := .training attempt (plusMicros now Config.attemptTime), sent := v.sent ++ [.train attempt] }

/-- A span notice: its span and the link state after the event, then the further fields (R123). -/
def State.spanNotice (s : State) (j : SpanId) (kind : SpanNotice) (more : List Field) : State :=
  s.notifyAll (.spanNotice kind) ([fNat j.val, fNat (s.span j).service.link.state.code] ++ more)

/-- A change of link state reported to the Admission Unit (R114). -/
def State.reportLink (s : State) (j : SpanId) : State := s.post (.linkState j (s.span j).service.link.state)

/-- READY (R116, R119): the present attempt's makes the link UP; any other is dropped. -/
def execReady (j : SpanId) (attempt : Byte) (s : State) : Outcome State Fault Refusal :=
  match (s.span j).service.link with
  | .training a _ =>
    if attempt.toNat = a then
      let stopped := (s.span j).service.relinkExpiry.isSome
      let s := s.modService j fun v => { v with link := .up, relinkExpiry := none }
      .next (((s.reportLink j).post (.select j)).spanNotice j .linkUp [fBool stopped])
    else .next s
  | _ => .next s

/-- TRAINING_ATTEMPT_EXPIRY (R116): the next attempt, or FAILED after the fourth. -/
def execTrainingAttemptExpiry (j : SpanId) (s : State) : Outcome State Fault Refusal :=
  match (s.span j).service.link with
  | .training a t =>
    if reached s.time t then
      if a < Config.attempts then .next (s.modService j fun v => v.train s.time (a + 1))
      else .next (((s.modService j fun v => { v with link := .failed }).spanNotice j .linkFailed []).reportLink j)
    else .next s
  | _ => .next s

/-! ## Leaving UP and the relink hold -/

/-- The relink hold's expiry: the queue's pieces are removed SPAN_LOST in the same event, and HOLD_EXPIRED is written
with their number (R119, R99). -/
def State.holdExpires (s : State) (j : SpanId) : State :=
  let q := (s.span j).queue
  let s := (s.modService j fun v => { v with relinkExpiry := none }).loseQueue j
  s.spanNotice j .holdExpired [fNat (q.deadlines.length + q.background.length)]

/-- The link leaves UP (R118): slots, hold, training, reports and notice; with a relink hold of 0 the hold expires in the
same event. -/
def State.leaveUp (s : State) (j : SpanId) (cause : LinkDownCause) : State :=
  let v := (s.span j).service
  let lost := v.busyPieces
  let expiry := plusMillis s.time v.relinkHold
  let s := s.postAll (lost.map fun p => .outcome p .spanLost)
  let s := s.modService j fun v => { v.loseSlots.train s.time 1 with relinkExpiry := some expiry }
  let s := s.modArbiter j fun a => { a with selections := 0 }
  let s := (s.reportLink j).spanNotice j .linkDown [fNat cause.code, fNat lost.length, fTime expiry]
  if v.relinkHold = 0 then s.holdExpires j else s

/-- LINK_LOSS_INDICATION (R117): taken in UP only. -/
def execLinkLossIndication (j : SpanId) (s : State) : Outcome State Fault Refusal :=
  if s.linkUp j then
    .next ((s.modService j fun v => { v with linkLossCount := advance Config.counterTop v.linkLossCount }).leaveUp j .loss)
  else .next s

/-- RELINK_HOLD_EXPIRY (R119). -/
def execRelinkHoldExpiry (j : SpanId) (s : State) : Outcome State Fault Refusal :=
  match (s.span j).service.relinkExpiry with
  | none => .next s
  | some t => if reached s.time t then .next (s.holdExpires j) else .next s

/-! ## Presence -/

/-- A fitted span's becoming ABSENT (R120): its in-service work finishes SPAN_LOST, its slots are freed and its timers
stopped; its queue, the Admission Unit and the monitor take their parts as events of their own. -/
def State.becomeAbsent (s : State) (j : SpanId) : State :=
  let lost := (s.span j).service.busyPieces
  let q := (s.span j).queue
  let s := s.postAll (lost.map fun p => .outcome p .spanLost)
  let s := s.modService j fun v => { v.loseSlots with link := .absent, relinkExpiry := none }
  let s := s.modArbiter j fun a => { a with selections := 0 }
  let s := s.postAll [.queueLoss j, .absent j, .monitorAbsent j]
  s.spanNotice j .spanAbsent [fNat (lost.length + q.deadlines.length + q.background.length)]

/-- PRESENCE_DEASSERTED (R120): taken in any link state other than ABSENT. -/
def execPresenceDeasserted (j : SpanId) (s : State) : Outcome State Fault Refusal :=
  let s := s.modService j fun v => { v with presence := false }
  if (s.span j).service.link = .absent then .next s else .next (s.becomeAbsent j)

/-- PRESENCE_ASSERTED (R121): taken in ABSENT. -/
def execPresenceAsserted (j : SpanId) (s : State) : Outcome State Fault Refusal :=
  let s := s.modService j fun v => { v with presence := true }
  if (s.span j).service.link = .absent then
    .next (((s.modService j fun v => v.train s.time 1).spanNotice j .spanPresent []).reportLink j)
  else .next s

/-! ## LINK_RESET -/

/-- LINK_RESET of a span that is not ABSENT (R122): from UP the link leaves UP with cause RESET; in TRAINING the attempt
is begun again at 1; from FAILED training begins. -/
def State.resetLink (s : State) (j : SpanId) : State :=
  match (s.span j).service.link with
  | .up => s.leaveUp j .reset
  | .training _ _ => s.modService j fun v => v.train s.time 1
  | .failed => (s.modService j fun v => v.train s.time 1).reportLink j
  | .absent => s

/-- LINK_RESET (R122): the RESULT stands before the LINK_DOWN notice and the FRAME_DONEs it causes. -/
def execLinkReset (n : NodeId) (s : State) : Outcome State Fault Refusal :=
  withClaim n 20 s fun rec s =>
    match spanOf (recArg rec 0) with
    | none => s.result n 20 .badArgs []
    | some j =>
      let before := (s.span j).service.link
      if before = .absent then s.result n 20 .wrongState []
      else (s.result n 20 .ok [fNat j.val, fNat before.state.code, fNat LinkState.training.code]).resetLink j

/-- SPAN_MESSAGE_OTHER (R180): a message of another type is dropped and changes no state. -/
def execSpanMessageOther (_j : SpanId) (_bytes : List Byte) (s : State) : Outcome State Fault Refusal := .next s

end Sys2Proof.Machine
end

