-- ==== Sys2Proof/Machine/Monitors.lean ====
section
/-! DEFINITION. The meanings of the Span Health Monitor: latency reports (R131), timeouts (R132), the judging of a window
(R133 to R137), CLEAR_TRIP (R139), ACK_SPAN_STATUS (R140), the configured ceiling (R141), the derate floor (R142), ABSENT
(R143) and QUERY_SPAN (R144). -/

namespace Sys2Proof.Machine

open Host (Outcome)

/-! ## Counting -/

/-- A completion latency counted in the present window (R131). -/
def Monitor.countLatency (m : Monitor) (latency : Int) : Monitor :=
  let c := m.counts
  { m with counts :=
    { completions := advance Config.countTop c.completions,
      peak := (match c.peak with
        | none => some latency
        | some p => some (if p < latency then latency else p)),
      top := if (m.topLimit : Int) < latency then advance Config.countTop c.top else c.top,
      trip := if (m.tripLimit : Int) < latency then advance Config.countTop c.trip else c.trip } }

/-- A timeout counted in the present window (R132). -/
def Monitor.countTimeout (m : Monitor) : Monitor :=
  { m with counts := { m.counts with top := advance Config.countTop m.counts.top,
                                     trip := advance Config.countTop m.counts.trip } }

/-- LATENCY_REPORT (R131). -/
def execLatencyReport (j : SpanId) (s : State) : Outcome State Fault Refusal :=
  withReport s (fun | .latency k _ => decide (k = j) | _ => false) fun r s =>
    match r with
    | .latency _ l => some (s.modMonitor j fun m => m.countLatency l)
    | _ => none

/-- TRIP_CLASS_EVENT (R132). -/
def execTripClassEvent (j : SpanId) (s : State) : Outcome State Fault Refusal :=
  withReport s (fun | .tripClass k => decide (k = j) | _ => false) fun _ s =>
    some (s.modMonitor j Monitor.countTimeout)

/-! ## Judging a window -/

/-- A new window started at `now`: its length and limits read, its counts zero (R130). -/
def Monitor.startWindow (m : Monitor) (now : Time) : Monitor :=
  { m with start := now, expiry := plusMillis now m.params.window, topLimit := m.params.top, tripLimit := m.params.trip,
           counts := WindowRecord.zero }

/-- Whether a breach derates: auto-derate on, the derate delay elapsed, the ceiling above its floor (R134). -/
def Monitor.derates (m : Monitor) : Bool :=
  m.params.auto && decide (m.params.delay ≤ m.since) && decide (m.params.floor < m.effective)

/-- A breach window: TOP_SEEN, the clean run broken, and a derate where its conditions hold (R134). -/
def Monitor.breach (m : Monitor) : Monitor :=
  let m := { m with topSeen := true, clean := 0 }
  if m.derates then { m with effective := max m.params.floor (m.effective - m.params.step), since := 0 } else m

/-- A clean window: the clean count, and a recovery step where its conditions hold (R135). -/
def Monitor.cleanWindow (m : Monitor) : Monitor :=
  let m := { m with clean := advance Config.cleanTop m.clean }
  if m.params.recover ≤ m.clean ∧ m.effective < m.params.ceiling then
    { m with effective := min m.params.ceiling (m.effective + m.params.step), clean := 0, since := 0 }
  else m

/-- A trip: a trip count above 0 in the judged window and in the one before, on a span not tripped (R136). -/
def Monitor.trips (m : Monitor) : Bool := decide (0 < m.counts.trip) && decide (0 < m.previous.trip) && !m.tripped

/-- The trip test: TRIP_SEEN, and the trip (R136). -/
def Monitor.tripTest (m : Monitor) : Monitor :=
  { m with tripSeen := m.tripSeen || decide (0 < m.counts.trip), tripped := m.tripped || m.trips }

/-- Steps 1 to 3 of the judgement (R133). -/
def Monitor.judge (m : Monitor) : Monitor :=
  let m := { m with since := advance Config.sinceTop m.since }
  (if 0 < m.counts.top then m.breach else m.cleanWindow).tripTest

/-- Steps 4 and 5 of the judgement: the window recorded as the previous one, the next started (R133). -/
def Monitor.turn (m : Monitor) (now : Time) : Monitor := { m with previous := m.counts }.startWindow now

/-- What the monitor hands on after an event that changed its state from `before`: ceiling and trip to the Admission
Unit, the mask to the arbiter (R137). -/
def State.handOn (s : State) (j : SpanId) (before : Monitor) : State :=
  let m := (s.span j).monitor
  let s := if m.effective ≠ before.effective ∨ m.tripped ≠ before.tripped then
      s.post (.ceiling j m.effective m.tripped) else s
  if m.tripped ≠ before.tripped then s.post (.mask j m.tripped) else s

/-- A monitor notice: its span and the span's health after the event, then the further fields (R138). -/
def State.healthNotice (s : State) (j : SpanId) (kind : SpanNotice) (more : List Field) : State :=
  s.notifyAll (.spanNotice kind) ([fNat j.val, fNat (s.span j).monitor.health.code] ++ more)

/-- RESTORED: the effective ceiling has reached the configured ceiling (R138). -/
def State.restored (s : State) (j : SpanId) : State :=
  s.healthNotice j .restored [fNat (s.span j).monitor.effective]

/-- The judgement of a span's window at its expiry (R133). -/
def State.judgeWindow (s : State) (j : SpanId) : State :=
  let before := (s.span j).monitor
  let judged := before.judge
  let s := s.modMonitor j fun _ => judged.turn s.time
  let s := s.handOn j before
  let s := if judged.effective < before.effective then
      s.healthNotice j .derated
        [fNat before.effective, fNat judged.effective, fNat judged.params.floor, fNat before.counts.top,
         fNat before.counts.trip, fOpt fInt before.counts.peak, fBool (decide (judged.effective = judged.params.floor))]
    else s
  let s := if before.effective < judged.effective ∧ judged.effective = judged.params.ceiling then s.restored j else s
  if judged.tripped ≠ before.tripped then
    s.healthNotice j .tripped [fNat before.counts.trip, fNat before.previous.trip, fNat judged.effective]
  else s

/-- MONITOR_WINDOW_EXPIRY (R133). -/
def execMonitorWindowExpiry (j : SpanId) (s : State) : Outcome State Fault Refusal :=
  if reached s.time (s.span j).monitor.expiry then .next (s.judgeWindow j) else .next s

/-! ## CLEAR_TRIP and ACK_SPAN_STATUS -/

/-- CLEAR_TRIP (R139): the RESULT stands before the issuer's TRIP_CLEARED notice. -/
def execClearTrip (n : NodeId) (s : State) : Outcome State Fault Refusal :=
  withClaim n 18 s fun rec s =>
    match spanOf (recArg rec 0) with
    | none => s.result n 18 .badArgs []
    | some j =>
      let m := (s.span j).monitor
      if m.tripped = false then s.result n 18 .wrongState []
      else if 0 < m.previous.trip then s.result n 18 .active [fNat m.previous.trip, fTime m.expiry]
      else
        let s := (s.modMonitor j fun m => { m with tripped := false }).handOn j m
        (s.result n 18 .ok [fNat j.val, fNat (s.span j).monitor.health.code]).healthNotice j .tripCleared
          [fNat n.val, fNat (s.span j).monitor.effective]

/-- The sticky flags cleared where the present window's counts are 0 (R140). -/
def Monitor.ack (m : Monitor) : Monitor :=
  { m with topSeen := m.topSeen && decide (m.counts.top ≠ 0), tripSeen := m.tripSeen && decide (m.counts.trip ≠ 0) }

/-- ACK_SPAN_STATUS (R140): from any ATTACHED node, without the claim. -/
def execAckSpanStatus (n : NodeId) (s : State) : Outcome State Fault Refusal :=
  withAttached n 19 s fun rec s =>
    match spanOf (recArg rec 0) with
    | none => s.result n 19 .badArgs []
    | some j =>
      let m := (s.span j).monitor
      (s.modMonitor j Monitor.ack).result n 19 .ok
        [fNat j.val, fBool m.topSeen, fBool m.tripSeen, fBool m.ack.topSeen, fBool m.ack.tripSeen,
         fNat m.counts.top, fNat m.counts.trip]

/-! ## Configuration and ABSENT -/

/-- The effective ceiling changed from outside a judgement: the windows-since-change count starts afresh (R134, R141,
R142). -/
def Monitor.setCeiling (m : Monitor) (c : Nat) : Monitor :=
  if c = m.effective then m else { m with effective := c, since := 0 }

/-- The monitor after a new configured ceiling and the floor beside it (R141). -/
def Monitor.configure (m : Monitor) (ceiling floor : Nat) : Monitor :=
  let c := if m.health = .normal then ceiling else min m.effective ceiling
  Monitor.setCeiling { m with params := { m.params with ceiling := ceiling, floor := floor } } (max c floor)

/-- The ceiling has reached the configured ceiling from below (R138). -/
def Monitor.reaches (before after : Monitor) : Bool :=
  decide (before.effective < before.params.ceiling) && decide (after.effective = after.params.ceiling)

/-- A configured ceiling taken by the monitor, and passed on to the Admission Unit (R141, R187). -/
def State.configureCeiling (s : State) (j : SpanId) (ceiling floor : Nat) : State :=
  let before := (s.span j).monitor
  let s := s.modMonitor j fun m => m.configure ceiling floor
  let s := (s.post (.param .admission (some j) [(5, ceiling)])).handOn j before
  if before.reaches (s.span j).monitor then s.restored j else s

/-- The Configuration Block's reports to a monitor, which it takes in their order (R187). -/
def toMonitor (j : SpanId) : Report → Bool
  | .configuredCeiling k _ _ => decide (k = j)
  | .param (.monitor k) _ _ => decide (k = j)
  | _ => false

/-- CONFIGURED_CEILING_CHANGE (R141). -/
def execConfiguredCeilingChange (j : SpanId) (s : State) : Outcome State Fault Refusal :=
  withReport s (toMonitor j) fun r s =>
    match r with
    | .configuredCeiling _ c f => some (s.configureCeiling j c f)
    | _ => none

/-- The monitor after a new derate floor: a ceiling below it is lifted to it (R142). -/
def Monitor.setFloor (m : Monitor) (floor : Nat) : Monitor :=
  Monitor.setCeiling { m with params := { m.params with floor := floor } } (max m.effective floor)

/-- A derate floor taken by the monitor (R142). -/
def State.configureFloor (s : State) (j : SpanId) (floor : Nat) : State :=
  let before := (s.span j).monitor
  let s := (s.modMonitor j fun m => m.setFloor floor).handOn j before
  if before.reaches (s.span j).monitor then s.restored j else s

/-- The monitor's state of a span returned to its reset values at ABSENT, a new window started (R143). -/
def Monitor.forget (m : Monitor) (now : Time) : Monitor :=
  Monitor.startWindow
    { m with effective := m.params.ceiling, tripped := false, since := 0, clean := 0, previous := WindowRecord.zero,
             topSeen := false, tripSeen := false } now

/-- MONITOR_ABSENT (R143). -/
def execMonitorAbsent (j : SpanId) (s : State) : Outcome State Fault Refusal :=
  withReport s (fun | .monitorAbsent k => decide (k = j) | _ => false) fun _ s =>
    let before := (s.span j).monitor
    let s := (s.modMonitor j fun m => m.forget s.time).handOn j before
    some (if before.effective < before.params.ceiling then s.restored j else s)

/-! ## QUERY_SPAN -/

/-- The fields of the Admission Unit (R144). -/
def State.budgetBody (s : State) (j : SpanId) : List Field :=
  let b := (s.span j).budget
  [fNat b.committed, fBool b.overcommit, fNat (s.streams.countOf fun st => st.reservedOn j),
   fNat (s.streams.countOf fun st => st.names j && !st.reservedOn j)]

/-- The dispatch time of an occupied slot. -/
def Slot.dispatched (k : Slot) : Option Time :=
  match k.state with
  | .free => none
  | .busy _ d _ => some d
  | .zombie d => some d

/-- The expiry time of a BUSY slot (R106). -/
def Slot.expiry (k : Slot) : Option Time :=
  match k.state with
  | .busy _ _ t => some t
  | _ => none

/-- The expiry of a BUSY slot that QUERY_SPAN reports (R189). DESIGN CHOICE: of several BUSY slots it is the earliest, as the
dispatch time of R124 is, for the body has no room for all (notes/assumptions 47). -/
def SpanService.nextExpiry (v : SpanService) : Option Time :=
  earliest ((allSpans.map fun k => v.slots[k]).filterMap Slot.expiry)

/-- The fields of the Span Service Unit (R124). -/
def SpanService.body (v : SpanService) : List Field :=
  let attempt := match v.link with
    | .training a _ => fNat a
    | _ => none
  let slots := allSpans.map fun k => v.slots[k]
  let busy := v.busyPieces.length
  [fBool v.presence, fNat v.link.state.code, attempt, fOpt fTime v.relinkExpiry, fNat busy, fNat (v.occupancy - busy),
   fOpt fTime (earliest (slots.filterMap Slot.dispatched)), fNat v.staleCount, fNat v.timeoutCount,
   fNat v.linkLossCount, fNat v.commandTimeout, fNat v.relinkHold]

/-- The number of pieces of a deadline list in a class (R102). -/
def State.classCount (s : State) (j : SpanId) (c : Urgency) : Nat :=
  ((s.listDeadlines j).filter fun d => decide ((s.span j).arbiter.classOf s.time d = c)).length

/-- The fields of the Span Queue and the Dispatch Arbiter (R102). -/
def State.queueBody (s : State) (j : SpanId) : List Field :=
  let q := (s.span j).queue
  let a := (s.span j).arbiter
  [fNat q.deadlines.length] ++
  ([Urgency.late, .urgent, .due, .ahead, .future].map fun c => fNat (s.classCount j c)) ++
  [fOpt fTime (s.listDeadlines j).head?, fNat q.background.length, fNat a.rotation.val, fNat a.backgroundPtr.toNat,
   fBool a.masked, fOpt fTime q.windowTimer, fOpt fTime q.deadlineTimer, fNat a.depth, fNat a.backgroundShare]

/-- The fields of the Span Health Monitor (R144). -/
def Monitor.body (m : Monitor) : List Field :=
  [fNat m.health.code, fNat m.effective, fNat m.params.ceiling, fNat m.params.floor, fNat m.params.step,
   fNat m.params.delay, fNat m.params.recover, fBool m.params.auto, fTime m.start, fTime m.expiry, fNat m.topLimit,
   fNat m.tripLimit, fNat m.counts.top, fNat m.counts.trip, fNat m.counts.completions, fOpt fInt m.counts.peak,
   fNat m.previous.top, fNat m.previous.trip, fNat m.previous.completions, fOpt fInt m.previous.peak, fNat m.since,
   fNat m.clean, fBool m.topSeen, fBool m.tripSeen]

/-- QUERY_SPAN (R144): one view of a span, changing nothing. The expiry of a BUSY slot (R189) stands after the fields of
R144 (notes/assumptions 47). -/
def execQuerySpan (n : NodeId) (s : State) : Outcome State Fault Refusal :=
  withAttached n 12 s fun rec s =>
    match spanOf (recArg rec 0) with
    | none => s.result n 12 .badArgs []
    | some j =>
      s.result n 12 .ok
        (s.budgetBody j ++ (s.span j).service.body ++ s.queueBody j ++ (s.span j).monitor.body ++
          [fNat s.config.spans[j].overhead, fNat s.config.spans[j].transfer, fOpt fTime (s.span j).service.nextExpiry])

end Sys2Proof.Machine
end

