-- ==== Sys2Proof/Machine/Configuration.lean ====
section
/-! DEFINITION. The meanings of the Configuration Block: the claim (R181 to R183), CONFIG_SET with its clamping and its
reports (R184 to R188), CONFIG_GET (R189), and the taking of a parameter report by each block (R187). -/

namespace Sys2Proof.Machine

open Host (Outcome)

/-! ## The claim -/

/-- CONFIG_BEGIN (R182). -/
def execConfigBegin (n : NodeId) (s : State) : Outcome State Fault Refusal :=
  withAttached n 14 s fun _ s =>
    match s.config.holder with
    | none => (s.modConfig fun c => { c with holder := some n, setsAccepted := 0 }).result n 14 .ok []
    | some m =>
      if m = n then s.result n 14 .ok [fNat 1, fNat s.config.setsAccepted]
      else s.result n 14 .busy [fNat m.val]

/-- CONFIG_END (R183). -/
def execConfigEnd (n : NodeId) (s : State) : Outcome State Fault Refusal :=
  withClaim n 17 s fun _ s =>
    let sets := s.config.setsAccepted
    let before := s.config.loaded
    let after := before || decide (0 < sets)
    (s.modConfig fun c => { c with loaded := after, holder := none, setsAccepted := 0 }).result n 17 .ok
      [fNat sets, fBool (after && !before), fBool after]

/-! ## Part-wide parameters -/

/-- The heartbeat acceptance window taken for a value: rounded down to 25, 50, 75 or 100 (R185). -/
def clampWindow (v : Nat) : Nat := if v < 50 then 25 else if v < 75 then 50 else if v < 100 then 75 else 100

/-- The part-wide parameter of a number (R185). -/
def PartParams.value (p : PartParams) : Nat → Option Nat
  | 1 => some p.urgent
  | 2 => some p.due
  | 3 => some p.lookahead
  | 4 => some p.scrubTarget
  | 5 => some p.settle
  | 6 => some p.heartbeatPeriod
  | 7 => some p.heartbeatWindow
  | 8 => some p.grace
  | _ => none

/-- The lowest and highest values that a CONFIG_SET of a part-wide parameter would take now (R185, R189). -/
def PartParams.range (p : PartParams) : Nat → Nat × Nat
  | 1 => (0, 100000)
  | 2 => (p.urgent, 1000000)
  | 3 => (p.due, 10000000)
  | 4 => (10000, 1000000)
  | 5 => (0, 255)
  | 6 => (10, 10000)
  | 7 => (25, 100)
  | 8 => (0, 60000)
  | _ => (0, 0)

/-- The part-wide parameters after a CONFIG_SET, related parameters moved with it (R185). -/
def PartParams.set (p : PartParams) (number v : Nat) : PartParams :=
  let r := p.range number
  let v := clamp r.1 r.2 v
  match number with
  | 1 => { p with urgent := v, due := max p.due v, lookahead := max p.lookahead (max p.due v) }
  | 2 => { p with due := v, lookahead := max p.lookahead v }
  | 3 => { p with lookahead := v }
  | 4 => { p with scrubTarget := v }
  | 5 => { p with settle := v }
  | 6 => { p with heartbeatPeriod := v }
  | 7 => { p with heartbeatWindow := clampWindow v }
  | 8 => { p with grace := v }
  | _ => p

/-- The part-wide parameters that may move with one (R185). -/
def partRelated : Nat → List Nat
  | 1 => [2, 3]
  | 2 => [3]
  | _ => []

/-! ## Per-span parameters -/

/-- The per-span parameter of a number; auto-derate as its code (R186). -/
def SpanParams.value (p : SpanParams) : Nat → Option Nat
  | 1 => some p.overhead
  | 2 => some p.transfer
  | 3 => some p.depth
  | 4 => some p.background
  | 5 => some p.ceiling
  | 6 => some p.floor
  | 7 => some p.step
  | 8 => some p.delay
  | 9 => some p.recover
  | 10 => some (if p.auto then 1 else 0)
  | 11 => some p.window
  | 12 => some p.top
  | 13 => some p.trip
  | 14 => some p.timeout
  | 15 => some p.relinkHold
  | _ => none

/-- The lowest and highest values that a CONFIG_SET of a per-span parameter would take now (R186, R189). -/
def SpanParams.range (p : SpanParams) : Nat → Nat × Nat
  | 1 => (1, 65535)
  | 2 => (1, 65535)
  | 3 => (1, 8)
  | 4 => (0, p.depth - 1)
  | 5 => (100000, 950000)
  | 6 => (100000, p.ceiling)
  | 7 => (10000, 100000)
  | 8 => (1, 4)
  | 9 => (1, 16)
  | 10 => (0, 1)
  | 11 => (10, 1000)
  | 12 => (1000, 10000000)
  | 13 => (p.top, 10000000)
  | 14 => (10, 10000)
  | 15 => (0, 2000)
  | _ => (0, 0)

/-- A span's parameters after a CONFIG_SET, related parameters moved with it (R186). -/
def SpanParams.set (p : SpanParams) (number v : Nat) : SpanParams :=
  let r := p.range number
  let v := clamp r.1 r.2 v
  match number with
  | 1 => { p with overhead := v }
  | 2 => { p with transfer := v }
  | 3 => { p with depth := v, background := min p.background (v - 1) }
  | 4 => { p with background := v }
  | 5 => { p with ceiling := v, floor := min p.floor v }
  | 6 => { p with floor := v }
  | 7 => { p with step := v }
  | 8 => { p with delay := v }
  | 9 => { p with recover := v }
  | 10 => { p with auto := decide (v ≠ 0) }
  | 11 => { p with window := v }
  | 12 => { p with top := v, trip := max p.trip v }
  | 13 => { p with trip := v }
  | 14 => { p with timeout := v }
  | 15 => { p with relinkHold := v }
  | _ => p

/-- The per-span parameters that may move with one (R186). -/
def spanRelated : Nat → List Nat
  | 3 => [4]
  | 5 => [6]
  | 12 => [13]
  | _ => []

/-! ## CONFIG_SET -/

/-- The numbers of the related parameters that a set moved, given their values before and after. -/
def movedBy (before after : Nat → Option Nat) (related : List Nat) : List Nat :=
  related.filter fun k => decide (before k ≠ after k)

/-- The values of the parameters of the numbers given. -/
def valuesOf (after : Nat → Option Nat) (numbers : List Nat) : List (Nat × Nat) :=
  numbers.filterMap fun k => (after k).map fun v => (k, v)

/-- The fields of CONFIG_SET's answer (R184): scope, span and parameter; the value requested, before and taken; and each
related parameter moved, with its number, its value before and its value taken. -/
def setBody (scope span number requested : Nat) (before after : Nat → Option Nat) (moved : List Nat) : List Field :=
  [fNat scope, fNat span, fNat number, fNat requested, fOpt fNat (before number), fOpt fNat (after number)] ++
    fList 2 3 (moved.map fun k => [fNat k, fOpt fNat (before k), fOpt fNat (after k)])

/-- The reports of a part-wide set, to the blocks that read the parameters stored (R187). -/
def partReports (number : Nat) (values : List (Nat × Nat)) : List Report :=
  match number with
  | 1 => .param .deadlineUnit none values :: allSpans.map fun j => .param (.arbiter j) none values
  | 2 => .param .deadlineUnit none values :: allSpans.map fun j => .param (.arbiter j) none values
  | 3 => .param .deadlineUnit none values :: allSpans.map fun j => .param (.arbiter j) none values
  | 4 => [.param .deadlineUnit none values]
  | 5 => [.param .admission none values]
  | 6 => allNodes.map fun n => .param (.nodePort n) none values
  | 7 => allNodes.map fun n => .param (.nodePort n) none values
  | 8 => [.param .admission none values]
  | _ => []

/-- The reports of a per-span set, to that span's blocks (R187). -/
def spanReports (j : SpanId) (after : SpanParams) (number : Nat) (values : List (Nat × Nat)) : List Report :=
  match number with
  | 1 => [.param .admission (some j) values]
  | 2 => [.param .admission (some j) values]
  | 3 => [.param (.arbiter j) (some j) values]
  | 4 => [.param (.arbiter j) (some j) values]
  | 5 => [.configuredCeiling j after.ceiling after.floor]
  | 14 => [.param (.service j) (some j) values]
  | 15 => [.param (.service j) (some j) values]
  | _ => [.param (.monitor j) (some j) values]

/-- One more set accepted, holding at the top value (R181). -/
def ConfigBlock.countSet (c : ConfigBlock) : ConfigBlock :=
  { c with setsAccepted := advance Config.countTop c.setsAccepted }

/-- A CONFIG_SET of scope part (R184, R185): the value stored, the answer written, the reports put in flight. -/
def State.setPart (s : State) (n : NodeId) (span number v : Nat) : State :=
  let before := s.config.part
  let after := before.set number v
  let moved := movedBy before.value after.value (partRelated number)
  let s := s.modConfig fun c => { c.countSet with part := after }
  (s.result n 15 .ok (setBody 0 span number v before.value after.value moved)).postAll
    (partReports number (valuesOf after.value (number :: moved)))

/-- A CONFIG_SET of scope span (R184, R186). -/
def State.setSpan (s : State) (n : NodeId) (j : SpanId) (number v : Nat) : State :=
  let before := s.config.spans[j]
  let after := before.set number v
  let moved := movedBy before.value after.value (spanRelated number)
  let s := s.modConfig fun c => { c.countSet with spans := c.spans.set j after }
  (s.result n 15 .ok (setBody 1 j.val number v before.value after.value moved)).postAll
    (spanReports j after number (valuesOf after.value (number :: moved)))

/-- What a scope, span and parameter number name, or nothing where a check of R184 fails. -/
inductive ParamName where
  | part (number : Nat)
  | span (j : SpanId) (number : Nat)
  deriving DecidableEq, Repr

/-- The checks of scope, span and parameter number, in order (R184). -/
def paramName (scope span number : Nat) : Option ParamName :=
  match scope with
  | 0 => if 1 ≤ number ∧ number ≤ 8 then some (.part number) else none
  | 1 =>
    match spanOf span with
    | none => none
    | some j => if 1 ≤ number ∧ number ≤ 15 then some (.span j number) else none
  | _ => none

/-- CONFIG_SET (R184). -/
def execConfigSet (n : NodeId) (s : State) : Outcome State Fault Refusal :=
  withClaim n 15 s fun rec s =>
    match paramName (recArg rec 0) (recArg rec 1) (recArg rec 2) with
    | none => s.result n 15 .badArgs []
    | some (.part number) => s.setPart n (recArg rec 1) number (recArg rec 3)
    | some (.span j number) => s.setSpan n j number (recArg rec 3)

/-- CONFIG_GET (R189): from any ATTACHED node, without the claim. -/
def execConfigGet (n : NodeId) (s : State) : Outcome State Fault Refusal :=
  withAttached n 16 s fun rec s =>
    let named := [fNat (recArg rec 0), fNat (recArg rec 1), fNat (recArg rec 2)]
    match paramName (recArg rec 0) (recArg rec 1) (recArg rec 2) with
    | none => s.result n 16 .badArgs []
    | some (.part k) =>
      let r := s.config.part.range k
      s.result n 16 .ok
        (named ++ [fOpt fNat (s.config.part.value k), fNat r.1, fNat r.2, fOpt fNat (PartParams.default.value k)])
    | some (.span j k) =>
      let r := s.config.spans[j].range k
      s.result n 16 .ok
        (named ++ [fOpt fNat (s.config.spans[j].value k), fNat r.1, fNat r.2, fOpt fNat (SpanParams.default.value k)])

/-! ## The taking of parameter reports -/

/-- A part-wide value taken by the Admission Unit: default settle or orphan grace (R187). -/
def State.admissionTakesPart (s : State) (x : Nat × Nat) : State :=
  match x.1 with
  | 5 => { s with defaultSettle := x.2 }
  | 8 => { s with orphanGrace := x.2 }
  | _ => s

/-- A part-wide value taken by the Deadline Unit: a class bound or the scrub target (R187). -/
def DeadlineParams.takes (p : DeadlineParams) (x : Nat × Nat) : DeadlineParams :=
  match x.1 with
  | 1 => { p with urgent := x.2 }
  | 2 => { p with due := x.2 }
  | 3 => { p with lookahead := x.2 }
  | 4 => { p with scrubTarget := x.2 }
  | _ => p

/-- A span's value taken by the Admission Unit: C, T or the configured ceiling (R187). -/
def Budget.takes (b : Budget) (x : Nat × Nat) : Budget :=
  match x.1 with
  | 1 => { b with overhead := x.2 }
  | 2 => { b with transfer := x.2 }
  | 5 => { b with ceiling := x.2 }
  | _ => b

/-- A part-wide value taken by a node port: heartbeat period or acceptance window (R187, R151). -/
def Node.takes (nd : Node) (x : Nat × Nat) : Node :=
  match x.1 with
  | 6 => { nd with heartbeatPeriod := x.2 }
  | 7 => { nd with heartbeatWindow := x.2 }
  | _ => nd

/-- A class bound taken at a span (R101). -/
def Arbiter.takesPart (a : Arbiter) (x : Nat × Nat) : Arbiter :=
  match x.1 with
  | 1 => { a with urgent := x.2 }
  | 2 => { a with due := x.2 }
  | 3 => { a with lookahead := x.2 }
  | _ => a

/-- D or B taken by an arbiter (R100). -/
def Arbiter.takesSpan (a : Arbiter) (x : Nat × Nat) : Arbiter :=
  match x.1 with
  | 3 => { a with depth := x.2 }
  | 4 => { a with backgroundShare := x.2 }
  | _ => a

/-- A value taken by the monitor, but for the configured ceiling and the derate floor (R142). -/
def MonitorParams.takes (p : MonitorParams) (x : Nat × Nat) : MonitorParams :=
  match x.1 with
  | 7 => { p with step := x.2 }
  | 8 => { p with delay := x.2 }
  | 9 => { p with recover := x.2 }
  | 10 => { p with auto := decide (x.2 ≠ 0) }
  | 11 => { p with window := x.2 }
  | 12 => { p with top := x.2 }
  | 13 => { p with trip := x.2 }
  | _ => p

/-- A value taken by the monitor of a span: a derate floor acts at once, any other is read later (R142). -/
def State.monitorTakes (j : SpanId) (s : State) (x : Nat × Nat) : State :=
  if x.1 = 6 then s.configureFloor j x.2
  else s.modMonitor j fun m => { m with params := m.params.takes x }

/-- A value taken by a Span Service Unit: command timeout or relink hold (R187). -/
def SpanService.takes (v : SpanService) (x : Nat × Nat) : SpanService :=
  match x.1 with
  | 14 => { v with commandTimeout := x.2 }
  | 15 => { v with relinkHold := x.2 }
  | _ => v

/-- A parameter report taken by its block (R187): at an arbiter, changed bounds re-arm the window-opening timer, and any
change starts one selection (R100, R101). -/
def State.takeParams (s : State) (b : ParamBlock) (scope : Option SpanId) (values : List (Nat × Nat)) : State :=
  match b, scope with
  | .admission, none => values.foldl State.admissionTakesPart s
  | .admission, some j => s.modBudget j fun u => values.foldl Budget.takes u
  | .deadlineUnit, _ => { s with deadlineUnit := values.foldl DeadlineParams.takes s.deadlineUnit }
  | .nodePort n, _ => s.modNode n fun nd => values.foldl Node.takes nd
  | .arbiter j, none => ((s.modArbiter j fun a => values.foldl Arbiter.takesPart a).rearmWindow j).beginSelection j
  | .arbiter j, some _ => (s.modArbiter j fun a => values.foldl Arbiter.takesSpan a).beginSelection j
  | .monitor j, _ => values.foldl (State.monitorTakes j) s
  | .service j, _ => s.modService j fun v => values.foldl SpanService.takes v

/-- The parameter reports to a block; a monitor takes them in order with its configured ceilings (R187). -/
def toBlock (b : ParamBlock) (r : Report) : Bool :=
  match b with
  | .monitor j => toMonitor j r
  | b =>
    match r with
    | .param c _ _ => decide (c = b)
    | _ => false

/-- PARAMETER_REPORT (R187). -/
def execParameterReport (b : ParamBlock) (s : State) : Outcome State Fault Refusal :=
  withReport s (toBlock b) fun r s =>
    match r with
    | .param c scope values => some (s.takeParams c scope values)
    | _ => none

end Sys2Proof.Machine
end

