-- ==== Sys2Proof/Machine/Resets.lean ====
section
/-! DEFINITION. The meanings of the resets: power-on (R191), the reset pin and PART_RESET (R192, R193). -/

namespace Sys2Proof.Machine

open Host (Outcome)

/-- POWER_ON_RESET (R191): every block at its power-on state, the presence lines and PCIe links as they stand. The
queue of commands and events is not the part's and stays. -/
def execPowerOnReset (s : State) : Outcome State Fault Refusal :=
  .next { State.cold (bank8 fun j => (s.span j).service.presence) (bank4 fun n => (s.node n).linkUp) with
          pending := s.pending }

/-- A slot after a warm reset: FREE, its generation moved on (R126). -/
def Slot.warm (k : Slot) : Slot := { gen := k.gen + 1, state := .free }

/-- A node port after a warm reset: its epoch kept (R164). -/
def Node.warm (nd : Node) (p : PartParams) : Node := Node.atReset nd.epoch nd.linkUp nd.messages nd.readData p

/-- The blocks of a span after a warm reset, with the parameters kept (R104, R126, R146). -/
def SpanState.warm (sp : SpanState) (now : Time) (p : PartParams) (q : SpanParams) : SpanState :=
  SpanState.atReset now sp.service.presence (bank8 fun k => sp.service.slots[k].warm) sp.service.sent p q

/-- Reports that outlive a warm reset: the latencies and timeouts on their way to the monitor, counted in its new window
(R146). -/
def Report.survives : Report → Bool
  | .latency _ _ => true
  | .tripClass _ => true
  | _ => false

/-- The Configuration Block after a warm reset: parameters and configuration-loaded kept, the claim free, the reset
record written (R192). -/
def ConfigBlock.warm (c : ConfigBlock) (kind : ResetKind) : ConfigBlock :=
  { c with holder := none, setsAccepted := 0, resetKind := kind, start := .warm }

/-- A warm reset: one event (R192, R193). Live work is gone, generations are moved on, epochs and parameters are kept. -/
def State.warmReset (s : State) (kind : ResetKind) : State :=
  { s with
    gens := s.gens.map (· + 1), streams := [], defaultSettle := s.config.part.settle,
    orphanGrace := s.config.part.grace, deadlineUnit := .of s.config.part, frames := [], pieces := [], arrival := 0,
    nodes := bank4 fun n => (s.node n).warm s.config.part,
    spans := bank8 fun j => (s.span j).warm s.time s.config.part s.config.spans[j],
    config := s.config.warm kind, reports := s.reports.filter Report.survives }

/-- RESET_PIN (R192). -/
def execResetPin (s : State) : Outcome State Fault Refusal := .next (s.warmReset .pin)

/-- PART_RESET (R192): from the claim holder; its answer is not delivered. DESIGN CHOICE: it is not written at all, so that
it fires no vector and sends no message (notes/assumptions 46). -/
def execPartReset (n : NodeId) (s : State) : Outcome State Fault Refusal :=
  withClaim n 21 s fun _ s => s.warmReset .command

end Sys2Proof.Machine
end

