-- ==== Sys2Proof/Machine/Idle.lean ====
section
/-! DEFINITION. What the part does of itself when no command or event waits in its queue (DESIGN CHOICE, notes/assumptions
4 and 5): it takes the next event that has arisen inside it, or, when none has, a microsecond passes. -/

namespace Sys2Proof.Machine

/-- The event by which a report in flight is taken. -/
def Report.event : Report → Instr
  | .cancel i _ _ => .cancelUndispatched i.handle
  | .linkState j _ => .linkStateReport j
  | .absent j => .absentRelease j
  | .ceiling j _ _ => .ceilingReport j
  | .outcome p _ => .pieceOutcome p
  | .late j _ => .lateReport j
  | .select j => .selection j
  | .mask j _ => .maskWrite j
  | .queueLoss j => .queueSpanLoss j
  | .latency j _ => .latencyReport j
  | .tripClass j => .tripClassEvent j
  | .monitorAbsent j => .monitorAbsent j
  | .param b _ _ => .parameterReport b
  | .configuredCeiling j _ _ => .configuredCeilingChange j

/-- A timer that runs and whose time has come. -/
def due (now : Time) : Option Time → Bool
  | none => false
  | some t => reached now t

/-- A deadline-expiry timer that runs and whose deadline has passed (R43). -/
def overdue (now : Time) : Option Time → Bool
  | none => false
  | some t => passed now t

/-- The events of a stream that have arisen: the end of its drain, its orphan timer, its settle timer. -/
def Stream.events (now : Time) (x : Nat × Stream) : List Instr :=
  let h : Handle := BitVec.ofNat 8 x.1
  (if x.2.state = .closing ∧ x.2.outstanding = 0 then [.drainEnd h] else []) ++
  (if due now x.2.orphanExpiry then [.orphanTimerExpiry h] else []) ++
  (if due now x.2.settleExpiry then [.settleTimerExpiry h] else [])

/-- The timers of a span's slots that have come due (R111). -/
def SpanService.expired (v : SpanService) (now : Time) (j : SpanId) : List Instr :=
  allSpans.filterMap fun k =>
    match v.slots[k].state with
    | .busy _ _ t => if reached now t then some (.slotExpiry j k) else none
    | _ => none

/-- The timers of a span that have come due. -/
def SpanState.events (sp : SpanState) (now : Time) (j : SpanId) : List Instr :=
  (if overdue now sp.queue.deadlineTimer then [.deadlineExpiry j] else []) ++
  (if due now sp.queue.windowTimer then [.windowOpeningExpiry j] else []) ++
  sp.service.expired now j ++
  (match sp.service.link with
    | .training _ t => if reached now t then [.trainingAttemptExpiry j] else []
    | _ => []) ++
  (if due now sp.service.relinkExpiry then [.relinkHoldExpiry j] else []) ++
  (if reached now sp.monitor.expiry then [.monitorWindowExpiry j] else [])

/-- The heartbeat timer of a node that has come due. -/
def Node.timerEvents (nd : Node) (now : Time) (n : NodeId) : List Instr :=
  match nd.heartbeat with
  | none => []
  | some hb => if nd.state = .attached ∧ reached now hb.expiry = true then [.heartbeatTimerExpiry n] else []

/-- The command at the head of a node's FIFO. -/
def Node.commandEvents (nd : Node) (n : NodeId) : List Instr :=
  match nd.commands with
  | [] => []
  | rec :: _ => [Instr.ofCode n (recCode rec)]

/-- The events that have arisen inside the part, in the order in which an idle part takes them: selections in progress,
reports oldest first, streams, spans, nodes' timers, nodes' commands. -/
def State.arisen (s : State) : List Instr :=
  ((allSpans.filter fun j => decide ((s.span j).arbiter.selections ≠ 0)).map Instr.dispatch) ++
  s.reports.map Report.event ++
  s.streams.flatMap (Stream.events s.time) ++
  (allSpans.flatMap fun j => (s.span j).events s.time j) ++
  (allNodes.flatMap fun n => (s.node n).timerEvents s.time n) ++
  (allNodes.flatMap fun n => (s.node n).commandEvents n)

/-- A microsecond passes: the time base advances by one, wrapping (R26). -/
def State.tick (s : State) : State := { s with time := s.time + 1 }

end Sys2Proof.Machine
end

