-- ==== Sys2Proof/Machine/Exchange.lean ====
section
/-! DEFINITION. The meanings of the command and event exchange: the windows of a node port (R165, R166, R172), unknown
commands (R167), CLEAR_NODE_FLAGS (R173), link-up (R175) and QUERY_PART (R176). -/

namespace Sys2Proof.Machine

open Host (Outcome)

/-! ## The windows -/

/-- A record is refused at entry when the command FIFO is full, or occupancy plus reserved has reached 64 (R166). -/
def Node.entryRefused (nd : Node) : Bool :=
  decide (Config.commandFifo ≤ nd.commands.length) || decide (Config.eventFifo ≤ nd.total)

/-- What a write to the command window does at the port: a short or long write, or a record refused at entry, is
discarded and sets OVERRUN; otherwise the record is appended and a place reserved (R165, R166). -/
def Node.commandWrite (nd : Node) (bytes : List Byte) : Node :=
  if bytes.length ≠ Config.commandBytes ∨ nd.entryRefused = true then { nd with overrun := true }
  else { nd with commands := nd.commands ++ [bytes], reserved := nd.reserved + 1 }

/-- COMMAND_WINDOW_WRITE (R166). No access reaches a window while the PCIe link is down (R165). -/
def execCommandWindowWrite (n : NodeId) (bytes : List Byte) (s : State) : Outcome State Fault Refusal :=
  if (s.node n).linkUp then .next (s.modNode n fun nd => nd.commandWrite bytes) else .next s

/-- The lost-notice announcement, written into the place just freed if it is pending and the node is ATTACHED (R171). DESIGN
CHOICE: the header carries the time of the writing, and the time of the first loss stands in the second body slot
(notes/assumptions 45). -/
def Node.announce (nd : Node) (now : Time) : Node :=
  match nd.lossPending with
  | none => nd
  | some first =>
    if nd.state = .attached ∧ nd.total < Config.eventFifo then
      { nd with lossPending := none }.write now (.nodeNotice .noticeLost) 0 [fNat nd.lostCount, fTime first]
    else nd

/-- What a read of the event window does at the port: it removes and returns the oldest record, re-arms the vectors with
no record left and writes a pending announcement; an empty FIFO returns EMPTY and sets UNDERRUN (R172, R175, R171). -/
def Node.eventRead (nd : Node) (now : Time) (len : Nat) : Node :=
  match nd.events with
  | [] =>
    { nd with underrun := true, readData := readBytes len ((EventRec.emptyAt nd.epoch now).bytes 0) }
  | e :: rest =>
    Node.announce
      { nd with events := rest, readData := readBytes len (e.bytes rest.length),
                vectors := rearmVectors nd.vectors rest }
      now

/-- EVENT_WINDOW_READ (R172). -/
def execEventWindowRead (n : NodeId) (len : Nat) (s : State) : Outcome State Fault Refusal :=
  if (s.node n).linkUp then .next (s.modNode n fun nd => nd.eventRead s.time len) else .next s

/-- The bytes that an access of the other kinds returns: none for a write, zeros for a read, except that a read of 8 bytes
of the time window returns the time base with the upper 16 bits zero (R165). -/
def accessBytes (now : Time) : WindowAccess → List Byte
  | .eventWrite _ => []
  | .timeWrite _ => []
  | .commandRead len => List.replicate len 0
  | .timeRead len => if len = 8 then leBytes 8 now.toNat else List.replicate len 0

/-- WINDOW_ACCESS_IGNORED (R165): no state of the part changes; what a read returns stands on the port's output. -/
def execWindowAccessIgnored (n : NodeId) (access : WindowAccess) (s : State) : Outcome State Fault Refusal :=
  if (s.node n).linkUp then
    .next (s.modNode n fun nd => { nd with readData := accessBytes s.time access })
  else .next s

/-! ## The PCIe link's return -/

/-- Link-up at the port: recorded, and each vector that holds a message sends it (R154, R175). DESIGN CHOICE: they send in
vector order (notes/assumptions 49). -/
def Node.linkRises (nd : Node) : Node :=
  { nd with linkUp := true,
            messages := nd.messages ++ ((nd.vectors.zipIdx.filter fun w => w.1.held).map Prod.snd),
            vectors := nd.vectors.map fun w => { w with held := false } }

/-- PCIE_LINK_UP (R175). -/
def execPcieLinkUp (n : NodeId) (s : State) : Outcome State Fault Refusal :=
  if (s.node n).linkUp then .next s else .next (s.modNode n Node.linkRises)

/-! ## UNKNOWN_COMMAND, CLEAR_NODE_FLAGS -/

/-- UNKNOWN_COMMAND: a code that is not in the command table is answered BAD_ARGS, carrying the code, in every node
state (R167). DESIGN CHOICE: the code stands in bytes 2 and 3 of the record's head, as R179 places it, and is repeated in
slot 1 of the body (notes/assumptions 41). -/
def execUnknownCommand (n : NodeId) (s : State) : Outcome State Fault Refusal :=
  match (s.node n).commands with
  | [] => .next s
  | rec :: rest =>
    if Instr.ofCode n (recCode rec) = .unknownCommand n then
      .next ((s.modNode n fun nd => { nd with commands := rest }).result n (recCode rec) .badArgs
        [fNat (recCode rec)])
    else .next s

/-- The four flags of a node record, as an answer carries them: OVERRUN, UNDERRUN, NOTICE_LOST, EARLY_BEAT. -/
def Node.flagFields (nd : Node) : List Field :=
  [fBool nd.overrun, fBool nd.underrun, fBool nd.noticeLost, fBool nd.earlyBeat]

/-- The four flags, the lost count and the pending announcement cleared (R173, R150). -/
def Node.clearFlags (nd : Node) : Node :=
  { nd with overrun := false, underrun := false, noticeLost := false, earlyBeat := false,
            lostCount := 0, lossPending := none }

/-- CLEAR_NODE_FLAGS (R173). -/
def execClearNodeFlags (n : NodeId) (s : State) : Outcome State Fault Refusal :=
  withAttached n 22 s fun _ s =>
    let nd := s.node n
    (s.modNode n Node.clearFlags).result n 22 .ok
      (nd.flagFields ++ [fNat nd.lostCount, fBool nd.lossPending.isSome, fNat nd.events.length, fNat nd.reserved])

/-! ## QUERY_PART -/

/-- The number of stream records in a state (R176). -/
def State.streamCount (s : State) (k : StreamState) : Nat :=
  match k with
  | .free => Config.streamRecords - s.streams.length
  | k => s.streams.countOf fun st => decide (st.state = k)

/-- The number of piece records in a state (R51). -/
def State.pieceCount (s : State) (k : PieceState) : Nat :=
  s.pieces.countOf fun pc => decide (pc.state = k)

/-- The body of QUERY_PART's answer, in the order of the table (R176). -/
def State.partBody (s : State) (n : NodeId) : List Field :=
  let nd := s.node n
  [fNat Config.partNumber, fNat Config.designRevision] ++
  (allNodes.flatMap fun m => [fNat (s.node m).state.code, fNat (s.node m).epoch.toNat]) ++
  [fOpt (fun m => fNat m.val) s.config.holder] ++
  ([StreamState.free, .stopped, .playing, .scrubbing, .closing, .orphaned].map fun k => fNat (s.streamCount k)) ++
  [fNat s.frames.length] ++
  ([PieceState.held, .queued, .inService].map fun k => fNat (s.pieceCount k)) ++
  [fNat s.config.resetKind.code, fNat s.config.start.code, fBool s.config.loaded, fTime s.time,
   fNat nd.events.length, fNat nd.reserved, fNat nd.commands.length, fNat nd.lostCount] ++ nd.flagFields

/-- QUERY_PART (R176): carried out in every node state. -/
def execQueryPart (n : NodeId) (s : State) : Outcome State Fault Refusal :=
  withCommand n 13 s fun _ s => s.result n 13 .ok (s.partBody n)

end Sys2Proof.Machine
end

