-- ==== Sys2Proof/Machine/Nodes.lean ====
section
/-! DEFINITION. The meanings of node attachment: ATTACH (R150), HEARTBEAT (R152), the loss of a node by heartbeat expiry
or link-down (R151, R154, R155) and DETACH (R157). -/

namespace Sys2Proof.Machine

open Host (Outcome)

/-! ## ATTACH -/

/-- The vector count taken for a requested one (R150). -/
def vectorCount (requested : Nat) : Nat := if requested ≤ 1 then 1 else if requested ≤ 3 then 2 else 4

/-- The heartbeat fields at an acceptance at `now`: period and window read afresh, the timer started (R151). -/
def Node.freshHeartbeat (nd : Node) (now : Time) : Heartbeat :=
  { period := nd.heartbeatPeriod, window := nd.heartbeatWindow, last := now, expiry := plusMillis now nd.heartbeatPeriod }

/-- Steps 1 to 6 of ATTACH at the port (R150). -/
def Node.attached (nd : Node) (now : Time) (requested : Nat) : Node :=
  { nd.clearFlags with
    events := [], epoch := nd.epoch + 1,
    vectors := List.replicate (vectorCount requested) { fired := false, held := false },
    heartbeat := some (nd.freshHeartbeat now), state := .attached }

/-- ATTACH (R150): taken from DETACHED or LOST; from ATTACHED it is answered WRONG_STATE. -/
def execAttach (n : NodeId) (s : State) : Outcome State Fault Refusal :=
  withCommand n 1 s fun rec s =>
    let before := s.node n
    if before.state = .attached then s.result n 1 .wrongState []
    else
      let s := s.modNode n fun nd => nd.attached s.time (recArg rec 0)
      let nd := s.node n
      (s.notifyOthers n (.nodeNotice .peerAttached) [fNat n.val, fNat nd.epoch.toNat]).result n 1 .ok
        ([fNat before.state.code] ++ before.flagFields ++
          [fNat nd.epoch.toNat, fNat nd.vectors.length, fNat nd.heartbeatPeriod, fNat nd.heartbeatWindow, fTime s.time])

/-! ## HEARTBEAT -/

/-- The early bound of a heartbeat: H × (100 − f) × 10 µs after the last acceptance (R151). -/
def Heartbeat.earlyBound (hb : Heartbeat) : Nat := hb.period * (100 - hb.window) * 10

/-- The period and window that a node's port holds (R151), which the answers of HEARTBEAT report (R189). -/
def Heartbeat.held (hb : Heartbeat) : List Field := [fNat hb.period, fNat hb.window]

/-- HEARTBEAT (R152, R189). DESIGN CHOICE: the period and window held stand after the fields that R152 lists
(notes/assumptions 47). -/
def execHeartbeat (n : NodeId) (s : State) : Outcome State Fault Refusal :=
  withAttached n 3 s fun _ s =>
    match (s.node n).heartbeat with
    | none => s.result n 3 .ok []
    | some hb =>
      let e := timeDiff s.time hb.last
      if e < hb.earlyBound then
        (s.modNode n fun nd => { nd with earlyBeat := true }).result n 3 .early
          ([fInt e, fTime (plusMicros hb.last hb.earlyBound)] ++ hb.held)
      else
        let new := (s.node n).freshHeartbeat s.time
        (s.modNode n fun nd => { nd with heartbeat := some new }).result n 3 .ok
          ([fInt e, fTime new.expiry, fTime (plusMicros s.time new.earlyBound)] ++ new.held)

/-! ## The claim's release -/

/-- The configuration claim released, if the node holds it (R181). -/
def State.releaseClaim (s : State) (n : NodeId) : State :=
  if s.config.holder = some n then s.modConfig fun c => { c with holder := none, setsAccepted := 0 } else s

/-! ## Loss -/

/-- Step 1 of the loss at the port (R155); a pending announcement is cleared (R171). -/
def Node.lose (nd : Node) : Node :=
  { nd with state := .lost, heartbeat := none, events := [], commands := [], reserved := 0,
            vectors := armAll nd.vectors, lossPending := none }

/-- NODE_NOTICE CLAIM_RELEASED, where a node's leaving released the claim (R162). -/
def State.noticeClaim (s : State) (n : NodeId) (released : Bool) : State :=
  if released then s.notifyAll (.nodeNotice .claimReleased) [fNat n.val] else s

/-- A node leaves ATTACHED and becomes LOST: one event at the Node Port, the Admission Unit and the Configuration Block
(R155). The cancellations of its streams' waiting frames follow as events of their own (R148). DESIGN CHOICE: a play-state
command of the node that waits behind the loss is discarded unanswered, as R155 says, and not answered NOT_OWNER, as R31
says (notes/assumptions 48). -/
def State.loseNode (s : State) (n : NodeId) (cause : LossCause) : State :=
  let hs := s.servedBy n
  let held := decide (s.config.holder = some n)
  let s := s.modNode n Node.lose
  let s := (s.leaveStreams n fun st => st.orphan s.time s.orphanGrace).releaseClaim n
  let s := s.notifyAll (.nodeNotice .peerLost)
    [fNat n.val, fNat (s.node n).epoch.toNat, fNat cause.code, fNat hs.length]
  let s := hs.foldl (State.noticeOrphaned n) (s.noticeClaim n held)
  (s.oweCancels n hs).zeroGrace hs

/-- HEARTBEAT_TIMER_EXPIRY (R151): the node is LOST with cause HEARTBEAT. -/
def execHeartbeatTimerExpiry (n : NodeId) (s : State) : Outcome State Fault Refusal :=
  match (s.node n).heartbeat with
  | none => .next s
  | some hb =>
    if (s.node n).state = .attached ∧ reached s.time hb.expiry = true then .next (s.loseNode n .heartbeat) else .next s

/-- PCIE_LINK_DOWN (R154): recorded, and an ATTACHED node is LOST with cause LINK_DOWN. -/
def execPcieLinkDown (n : NodeId) (s : State) : Outcome State Fault Refusal :=
  let s := s.modNode n fun nd => { nd with linkUp := false }
  if (s.node n).state = .attached then .next (s.loseNode n .linkDown) else .next s

/-! ## DETACH -/

/-- The node's accepted reads still unanswered: frames in use with its number and present epoch (R157, R66). -/
def State.unanswered (s : State) (n : NodeId) : Nat :=
  s.frames.countOf fun f => decide (f.node = n) && decide (f.epoch = (s.node n).epoch)

/-- Step 1 of DETACH at the port, giving up the places of so many reads (R157); a pending announcement is cleared
(R171). -/
def Node.detached (nd : Node) (reads : Nat) : Node :=
  { nd with state := .detached, heartbeat := none, reserved := nd.reserved - reads, lossPending := none }

/-- DETACH with the handover flag given: one event at the Node Port, the Admission Unit and the Configuration Block
(R157). -/
def State.detach (s : State) (n : NodeId) (handover : Bool) : State :=
  let hs := s.servedBy n
  let held := decide (s.config.holder = some n)
  let reads := s.unanswered n
  let orphaned := if handover then hs.length else 0
  let closed := if handover then 0 else hs.length
  let s := s.modNode n fun nd => nd.detached reads
  let s := (s.leaveStreams n fun st =>
    if handover then st.orphan s.time s.orphanGrace else { st.still .closing with owner := none }).releaseClaim n
  let s := s.notifyAll (.nodeNotice .peerDetached) [fNat n.val, fBool handover, fNat orphaned, fNat closed]
  let s := s.noticeClaim n held
  let s := if handover then hs.foldl (State.noticeOrphaned n) s else s
  let s := s.result n 2 .ok [fBool handover, fNat orphaned, fNat closed, fBool held]
  let s := s.oweCancels n hs
  if handover then s.zeroGrace hs else s

/-- DETACH (R157). -/
def execDetach (n : NodeId) (s : State) : Outcome State Fault Refusal :=
  withAttached n 2 s fun rec s => s.detach n (recHandover rec)

end Sys2Proof.Machine
end

