-- ==== Sys2Proof/Machine/Dispatch.lean ====
section
/-! DEFINITION. The effect of every command and event on the state: one arm per row of the opcode table. -/

namespace Sys2Proof.Machine

open Host (Outcome)

/-- The effect of a command or event on everything but the queue. -/
def exec (i : Instr) (s : State) : Host.Outcome State Fault Refusal :=
  match i with
  | .powerOnReset => Sys2Proof.Machine.execPowerOnReset s
  | .resetPin => Sys2Proof.Machine.execResetPin s
  | .commandWindowWrite n bytes => Sys2Proof.Machine.execCommandWindowWrite n bytes s
  | .eventWindowRead n len => Sys2Proof.Machine.execEventWindowRead n len s
  | .windowAccessIgnored n access => Sys2Proof.Machine.execWindowAccessIgnored n access s
  | .unknownCommand n => Sys2Proof.Machine.execUnknownCommand n s
  | .attach n => Sys2Proof.Machine.execAttach n s
  | .detach n => Sys2Proof.Machine.execDetach n s
  | .heartbeat n => Sys2Proof.Machine.execHeartbeat n s
  | .clearNodeFlags n => Sys2Proof.Machine.execClearNodeFlags n s
  | .queryPart n => Sys2Proof.Machine.execQueryPart n s
  | .openStream n => Sys2Proof.Machine.execOpenStream n s
  | .closeStream n => Sys2Proof.Machine.execCloseStream n s
  | .adopt n => Sys2Proof.Machine.execAdopt n s
  | .queryStream n => Sys2Proof.Machine.execQueryStream n s
  | .play n => Sys2Proof.Machine.execPlay n s
  | .stop n => Sys2Proof.Machine.execStop n s
  | .scrub n => Sys2Proof.Machine.execScrub n s
  | .frameRead n => Sys2Proof.Machine.execFrameRead n s
  | .querySpan n => Sys2Proof.Machine.execQuerySpan n s
  | .clearTrip n => Sys2Proof.Machine.execClearTrip n s
  | .ackSpanStatus n => Sys2Proof.Machine.execAckSpanStatus n s
  | .linkReset n => Sys2Proof.Machine.execLinkReset n s
  | .configBegin n => Sys2Proof.Machine.execConfigBegin n s
  | .configSet n => Sys2Proof.Machine.execConfigSet n s
  | .configGet n => Sys2Proof.Machine.execConfigGet n s
  | .configEnd n => Sys2Proof.Machine.execConfigEnd n s
  | .partReset n => Sys2Proof.Machine.execPartReset n s
  | .pcieLinkDown n => Sys2Proof.Machine.execPcieLinkDown n s
  | .pcieLinkUp n => Sys2Proof.Machine.execPcieLinkUp n s
  | .heartbeatTimerExpiry n => Sys2Proof.Machine.execHeartbeatTimerExpiry n s
  | .orphanTimerExpiry h => Sys2Proof.Machine.execOrphanTimerExpiry h s
  | .cancelUndispatched h => Sys2Proof.Machine.execCancelUndispatched h s
  | .drainEnd h => Sys2Proof.Machine.execDrainEnd h s
  | .absentRelease j => Sys2Proof.Machine.execAbsentRelease j s
  | .linkStateReport j => Sys2Proof.Machine.execLinkStateReport j s
  | .ceilingReport j => Sys2Proof.Machine.execCeilingReport j s
  | .pieceOutcome p => Sys2Proof.Machine.execPieceOutcome p s
  | .deadlineExpiry j => Sys2Proof.Machine.execDeadlineExpiry j s
  | .lateReport j => Sys2Proof.Machine.execLateReport j s
  | .windowOpeningExpiry j => Sys2Proof.Machine.execWindowOpeningExpiry j s
  | .selection j => Sys2Proof.Machine.execSelection j s
  | .dispatch j => Sys2Proof.Machine.execDispatch j s
  | .maskWrite j => Sys2Proof.Machine.execMaskWrite j s
  | .settleTimerExpiry h => Sys2Proof.Machine.execSettleTimerExpiry h s
  | .extentDone j slot gen result => Sys2Proof.Machine.execExtentDone j slot gen result s
  | .slotExpiry j k => Sys2Proof.Machine.execSlotExpiry j k s
  | .ready j attempt => Sys2Proof.Machine.execReady j attempt s
  | .trainingAttemptExpiry j => Sys2Proof.Machine.execTrainingAttemptExpiry j s
  | .linkLossIndication j => Sys2Proof.Machine.execLinkLossIndication j s
  | .relinkHoldExpiry j => Sys2Proof.Machine.execRelinkHoldExpiry j s
  | .queueSpanLoss j => Sys2Proof.Machine.execQueueSpanLoss j s
  | .presenceDeasserted j => Sys2Proof.Machine.execPresenceDeasserted j s
  | .presenceAsserted j => Sys2Proof.Machine.execPresenceAsserted j s
  | .spanMessageOther j bytes => Sys2Proof.Machine.execSpanMessageOther j bytes s
  | .latencyReport j => Sys2Proof.Machine.execLatencyReport j s
  | .tripClassEvent j => Sys2Proof.Machine.execTripClassEvent j s
  | .monitorWindowExpiry j => Sys2Proof.Machine.execMonitorWindowExpiry j s
  | .monitorAbsent j => Sys2Proof.Machine.execMonitorAbsent j s
  | .parameterReport b => Sys2Proof.Machine.execParameterReport b s
  | .configuredCeilingChange j => Sys2Proof.Machine.execConfiguredCeilingChange j s

end Sys2Proof.Machine
end

