-- ==== Sys2Proof/Safety.lean ====
section
/-! DEFINITION. What a safe run of the part is, in the terms in which claims are stated: a command at the head of a
FIFO, a report in flight, and the conditions on a state that every step keeps. -/

namespace Sys2Proof.Machine

/-! ## What a row takes -/

/-- A command of code `code` stands at the head of node `n`'s FIFO, as record `rec`, with `rest` behind it (R167). -/
abbrev State.heads (s : State) (n : NodeId) (code : Nat) (rec : List Byte) (rest : List (List Byte)) : Prop :=
  (s.node n).commands = rec :: rest ∧ recCode rec = code

/-- The same, of an ATTACHED node. -/
abbrev State.issues (s : State) (n : NodeId) (code : Nat) (rec : List Byte) (rest : List (List Byte)) : Prop :=
  s.heads n code rec rest ∧ (s.node n).state = .attached

/-- The same, of the holder of the configuration claim. -/
abbrev State.claims (s : State) (n : NodeId) (code : Nat) (rec : List Byte) (rest : List (List Byte)) : Prop :=
  s.issues n code rec rest ∧ s.config.holder = some n

/-- The state with the record at the head of node `n`'s FIFO removed (R167). -/
def State.taken (s : State) (n : NodeId) (rest : List (List Byte)) : State :=
  s.modNode n fun nd => { nd with commands := rest }

/-- Report `r` is the oldest in flight of its channel, with `before` ahead of it and `after` behind it. -/
abbrev State.offers (s : State) (channel : Report → Bool) (r : Report) (before after : List Report) : Prop :=
  s.reports = before ++ r :: after ∧ channel r = true ∧ ∀ q ∈ before, channel q = false

/-- Numbers strictly rising: the canonical order of a pool. -/
abbrev Pool.sorted {α : Type} (p : Pool α) : Prop := p.keys.Pairwise (· < ·)

/-! ## Admission, in the terms of its rules (R6 to R8) -/

/-- The arguments of an OPEN_STREAM pass their checks and name these spans and policies (R6). -/
abbrev OpenArgs.ok (a : OpenArgs) (js : List SpanId) (sp : ScrubPolicy) (lp : LatePolicy) : Prop :=
  1000 ≤ a.period ∧ a.period ≤ 1000000 ∧ 1 ≤ a.frameBlocks ∧ a.frameBlocks ≤ 65535 ∧ 1 ≤ a.width ∧ a.width ≤ 8 ∧
  a.spans = js.map Fin.val ∧ js.Nodup ∧ a.scrub = sp.code ∧ a.late = lp.code

/-- The utilisation that a stream of these arguments would have on span `j`: the cost of its share in ns, times 1,000, over
the frame period, rounded up (R7). -/
def State.uOn (s : State) (a : OpenArgs) (j : SpanId) : Nat :=
  (((s.span j).budget.overhead * 1000 + (a.frameBlocks + a.width - 1) / a.width * (s.span j).budget.transfer) * 1000 +
    a.period - 1) / a.period

/-- A span passes the three admission tests for a utilisation (R8). -/
abbrev Budget.admits (b : Budget) (u : Nat) : Prop :=
  b.link = .up ∧ u ≤ b.ceiling ∧ b.tripped = false ∧ b.committed + u ≤ b.effective

/-! ## Frames and pieces that refer to each other (R47, R49) -/

/-- Every piece that the frame in record `i` refers to is a piece record in use that refers back to it. -/
abbrev State.refersBack (s : State) (i : Nat) (f : Frame) : Prop :=
  s.frames.get i = some f ∧ s.frames.sorted ∧ s.pieces.sorted ∧
  ∀ k p, f.positions[k]? = some (.piece p) → ∃ pc, s.pieces.get p = some pc ∧ pc.frame = i ∧ pc.position = k

/-- A FRAME_READ of node `n` passes the checks before those of depth and pools, and reads for the stream `st` (R52). -/
abbrev State.readOk (s : State) (n : NodeId) (rec : List Byte) (st : Stream) : Prop :=
  s.named (recStream rec) = some st ∧ (s.node n).state = .attached ∧ st.owner = some n ∧ st.state ≠ .closing ∧
  recArg rec 1 ≤ 2147483647 ∧ recExtentCount rec = st.spans.length ∧
  ((recExtents rec (recExtentCount rec)).map Extent.span = st.spans.map fun e => e.span.val) ∧
  (∀ x ∈ recExtents rec (recExtentCount rec), 1 ≤ x.count ∧ x.count ≤ st.share) ∧
  ∀ kv ∈ s.frames, ¬ (kv.2.stream = recStream rec ∧ kv.2.number = recArg rec 1)

/-- Record `i` is the lowest-numbered free one of a pool (R4, R51). -/
abbrev Pool.lowestIs {α : Type} (p : Pool α) (i : Nat) : Prop := p.get i = none ∧ ∀ k < i, p.get k ≠ none

/-- The records `ps` are the lowest-numbered free ones of a pool, rising (R51). -/
abbrev Pool.lowestAre {α : Type} (p : Pool α) (ps : List Nat) : Prop :=
  ps.Pairwise (· < ·) ∧ (∀ q ∈ ps, p.get q = none) ∧ ∀ q, p.get q = none → (∃ r ∈ ps, q < r) → q ∈ ps

/-- The fields of an answer that lists one number for each stripe position: the length, the numbers, and absent slots up to
eight (R179). -/
def eightFields (ns : List Nat) : List Field := fNat ns.length :: (ns.map fNat ++ List.replicate (8 - ns.length) none)

/-! ## Parameters within their ranges (R185, R186) -/

abbrev PartParams.ok (p : PartParams) : Prop :=
  p.urgent ≤ 100000 ∧ p.urgent ≤ p.due ∧ p.due ≤ 1000000 ∧ p.due ≤ p.lookahead ∧ p.lookahead ≤ 10000000 ∧
  10000 ≤ p.scrubTarget ∧ p.scrubTarget ≤ 1000000 ∧ p.settle ≤ 255 ∧
  10 ≤ p.heartbeatPeriod ∧ p.heartbeatPeriod ≤ 10000 ∧
  (p.heartbeatWindow = 25 ∨ p.heartbeatWindow = 50 ∨ p.heartbeatWindow = 75 ∨ p.heartbeatWindow = 100) ∧
  p.grace ≤ 60000

abbrev SpanParams.ok (p : SpanParams) : Prop :=
  1 ≤ p.overhead ∧ p.overhead ≤ 65535 ∧ 1 ≤ p.transfer ∧ p.transfer ≤ 65535 ∧
  1 ≤ p.depth ∧ p.depth ≤ 8 ∧ p.background < p.depth ∧
  100000 ≤ p.floor ∧ p.floor ≤ p.ceiling ∧ p.ceiling ≤ 950000 ∧
  10000 ≤ p.step ∧ p.step ≤ 100000 ∧ 1 ≤ p.delay ∧ p.delay ≤ 4 ∧ 1 ≤ p.recover ∧ p.recover ≤ 16 ∧
  10 ≤ p.window ∧ p.window ≤ 1000 ∧ 1000 ≤ p.top ∧ p.top ≤ p.trip ∧ p.trip ≤ 10000000 ∧
  10 ≤ p.timeout ∧ p.timeout ≤ 10000 ∧ p.relinkHold ≤ 2000

/-- Every parameter of the Configuration Block stands within its range (R185, R186). -/
abbrev State.configOk (s : State) : Prop := s.config.part.ok ∧ ∀ j : SpanId, s.config.spans[j].ok

/-! ## The span budget (R12, R13) -/

/-- The stream table is in its canonical form, and on every span committed is the sum of what its streams have reserved,
and the overcommit flag says whether committed exceeds the effective ceiling last reported (R12, R13). -/
abbrev State.budgetOk (s : State) : Prop :=
  s.streams.wf Config.streamRecords = true ∧
  ∀ j : SpanId, (s.span j).budget.committed = s.reservedU j ∧
    ((s.span j).budget.overcommit = true ↔ (s.span j).budget.effective < (s.span j).budget.committed)

/-! ## Frames and their streams (R67) -/

/-- Every stream's outstanding count is the number of frame records in use that carry its id, and every frame record in
use carries the id of a stream record in use (R67). -/
abbrev State.outstandingOk (s : State) : Prop :=
  s.streams.wf Config.streamRecords = true ∧ s.gens.length = Config.streamRecords ∧ s.frames.sorted ∧
  (∀ kv ∈ s.streams, kv.2.outstanding =
    s.frames.countOf fun f => decide (f.stream = { handle := BitVec.ofNat 8 kv.1, gen := s.gen (BitVec.ofNat 8 kv.1) })) ∧
  ∀ kv ∈ s.frames, s.gen kv.2.stream.handle = kv.2.stream.gen ∧ (s.stream kv.2.stream.handle).isSome = true

/-! ## The fields of a stream record, by its state (R1, R3, R28, R71) -/

/-- The fields of a stream record that its state requires or forbids. -/
abbrev Stream.formOk (st : Stream) : Prop :=
  st.state ≠ .free ∧ (st.state.served = true → st.owner.isSome = true) ∧ (st.state = .orphaned → st.owner = none) ∧
  (st.prior.isSome = true ↔ st.state = .orphaned) ∧ st.prior.all StreamState.served = true ∧
  (st.orphanExpiry.isSome = true ↔ st.state = .orphaned) ∧ (st.anchor.isSome = true ↔ st.state = .playing) ∧
  (st.state ≠ .scrubbing → st.settleExpiry = none ∧ st.scrubList = [])

/-- Every stream record carries the fields of its state, every owner is ATTACHED, and so is the holder of the
configuration claim; a free claim counts no sets (R3, R28, R71, R181). -/
abbrev State.ownersOk (s : State) : Prop :=
  s.streams.wf Config.streamRecords = true ∧
  (∀ kv ∈ s.streams, kv.2.formOk ∧ ∀ n : NodeId, kv.2.owner = some n → (s.node n).state = .attached) ∧
  (∀ n : NodeId, s.config.holder = some n → (s.node n).state = .attached) ∧
  (s.config.holder = none → s.config.setsAccepted = 0)

/-! ## Slots and link (R105, R115) -/

/-- The attempt number of a link in TRAINING is 1 to 4 (R115). -/
def Link.attemptOk : Link → Bool
  | .training a _ => decide (1 ≤ a) && decide (a ≤ Config.attempts)
  | _ => true

/-- A link is ABSENT exactly when its presence line is deasserted; while it is not UP every slot is FREE and no selection is
in progress; the relink hold runs only in TRAINING and FAILED (R89, R110, R115, R119, R120). -/
abbrev SpanState.linkOk (sp : SpanState) : Prop :=
  (sp.service.link = .absent ↔ sp.service.presence = false) ∧ sp.service.link.attemptOk = true ∧
  (sp.service.link ≠ .up → (∀ k : SlotId, sp.service.slots[k].state = .free) ∧ sp.arbiter.selections = 0) ∧
  (sp.service.link = .up ∨ sp.service.link = .absent → sp.service.relinkExpiry = none)

abbrev State.linksOk (s : State) : Prop := ∀ j : SpanId, (s.span j).linkOk

/-! ## The effective ceiling (R129) -/

/-- The derate floor that a monitor holds after values reported to it, each floor among them at most the ceiling that
stands; none where one is not. -/
def floorAfter (ceiling : Nat) : List (Nat × Nat) → Nat → Option Nat
  | [], f => some f
  | x :: r, f => if x.1 = 6 then (if x.2 ≤ ceiling then floorAfter ceiling r x.2 else none) else floorAfter ceiling r f

/-- The configured ceiling and derate floor that monitor `j` will hold once it has taken the reports in flight to it, in
their order; none where a pair on the way is out of order or out of range. -/
def boundsAfter (j : SpanId) : List Report → Nat → Nat → Option (Nat × Nat)
  | [], c, f => some (c, f)
  | .configuredCeiling k c' f' :: r, c, f =>
    if k = j then (if f' ≤ c' ∧ c' ≤ 950000 then boundsAfter j r c' f' else none) else boundsAfter j r c f
  | .param (.monitor k) _ values :: r, c, f =>
    if k = j then
      match floorAfter c values f with
      | none => none
      | some f' => boundsAfter j r c f'
    else boundsAfter j r c f
  | _ :: r, c, f => boundsAfter j r c f

/-- For every span, derate floor ≤ effective ceiling ≤ configured ceiling ≤ 950,000 ppm at its monitor, and the reports in
flight bring the monitor's floor and ceiling to the Configuration Block's (R129, R141, R142). -/
abbrev State.ceilingsOk (s : State) : Prop :=
  s.configOk ∧ ∀ j : SpanId,
    (s.span j).monitor.params.floor ≤ (s.span j).monitor.effective ∧
    (s.span j).monitor.effective ≤ (s.span j).monitor.params.ceiling ∧
    (s.span j).monitor.params.ceiling ≤ 950000 ∧
    boundsAfter j s.reports (s.span j).monitor.params.ceiling (s.span j).monitor.params.floor =
      some (s.config.spans[j].ceiling, s.config.spans[j].floor)

/-! ## The exchange (R147, R166) -/

/-- At every node port: at most 16 commands, at most 64 records and reserved places, and one reserved place for each
command in the FIFO and, while the node is ATTACHED, for each accepted read not yet answered (R147, R166). -/
abbrev State.exchangeOk (s : State) : Prop :=
  s.frames.sorted ∧ ∀ n : NodeId,
    (s.node n).commands.length ≤ Config.commandFifo ∧ (s.node n).total ≤ Config.eventFifo ∧
    (s.node n).reserved = (s.node n).commands.length + (if (s.node n).state = .attached then s.unanswered n else 0)

/-- No frame record carries the epoch that its node's next ATTACH will give: no frame stays outstanding across 65,536
attachments (R149). -/
abbrev State.epochsFresh (s : State) : Prop := ∀ kv ∈ s.frames, kv.2.epoch ≠ (s.node kv.2.node).epoch + 1

/-! ## The places of the pieces (R47 to R50, R84, R86) -/

/-- Piece record `p` is in use and passes a test. -/
def State.pieceHas (s : State) (p : Nat) (test : Piece → Bool) : Bool :=
  match s.pieces.get p with
  | none => false
  | some pc => test pc

/-- Frame record `i` is in use and passes a test. -/
def State.frameHas (s : State) (i : Nat) (test : Frame → Bool) : Bool :=
  match s.frames.get i with
  | none => false
  | some f => test f

/-- The pieces whose outcomes are on their way to the Frame Table. -/
def State.outcomesInFlight (s : State) : List Nat :=
  s.reports.filterMap fun
    | .outcome p _ => some p
    | _ => none

/-- The pieces waiting in the queue of span `j`. -/
def State.queued (s : State) (j : SpanId) : List Nat := (s.span j).queue.deadlines ++ (s.span j).queue.background

/-- Frames and pieces refer to each other: every piece record in use stands at its position of its frame, every position
that names a piece names one in use that refers back to it, and no frame record is in use without one (R47, R49, R50). -/
abbrev State.refsOk (s : State) : Prop :=
  s.frames.sorted ∧ s.pieces.sorted ∧
  (∀ kv ∈ s.pieces, s.frameHas kv.2.frame (fun f => decide (f.positions[kv.2.position]? = some (.piece kv.1))) = true) ∧
  ∀ kv ∈ s.frames, kv.2.pieceRefs ≠ [] ∧
    ∀ x ∈ kv.2.positions.zipIdx, (match x.1 with
      | .piece p => s.pieceHas p fun pc => decide (pc.frame = kv.1 ∧ pc.position = x.2)
      | .finished _ => true) = true

/-- The lists of span `j` hold exactly its QUEUED pieces, each once: in the deadline list those whose frame has a deadline,
in the background list those whose frame has none (R50, R84). -/
abbrev State.listsOk (s : State) (j : SpanId) : Prop :=
  (s.queued j).Nodup ∧
  (∀ p ∈ s.queued j, s.pieceHas p (fun pc => decide (pc.span = j ∧ pc.state = .queued)) = true) ∧
  (∀ kv ∈ s.pieces, kv.2.span = j → kv.2.state = .queued → kv.1 ∈ s.queued j) ∧
  (∀ p ∈ (s.span j).queue.deadlines, s.deadlineOf p ≠ none) ∧ ∀ p ∈ (s.span j).queue.background, s.deadlineOf p = none

/-- Every piece record in use has its one place (R50): a HELD piece belongs to a frame without deadline whose unfinished
pieces are all HELD (R48); a QUEUED piece stands in one list of its span's queue; an IN_SERVICE piece is in one BUSY slot
of its span, or its one outcome is on its way to the Frame Table. No slot and no outcome names another record. -/
abbrev State.piecesOk (s : State) : Prop :=
  s.refsOk ∧ (∀ j, s.listsOk j) ∧
  (∀ kv ∈ s.pieces, (s.span kv.2.span).service.busyPieces.count kv.1 + s.outcomesInFlight.count kv.1 =
    if kv.2.state = .inService then 1 else 0) ∧
  (∀ kv ∈ s.pieces, kv.2.state = .held → s.frameHas kv.2.frame (fun f =>
    decide (f.deadline = none) && f.pieceRefs.all fun q => decide (s.pieceState q = some .held)) = true) ∧
  (∀ j, ∀ p ∈ (s.span j).service.busyPieces, s.pieceHas p (fun pc => decide (pc.span = j)) = true) ∧
  ∀ p ∈ s.outcomesInFlight, s.pieces.get p ≠ none

/-! ## Outstanding and scrub list (R67, R71) -/

/-- No stream has more frames outstanding than its prefetch depth (R67); and every frame of a stream's scrub list, which
holds each once, is a frame of the stream without cancel reason whose unfinished pieces all still wait (R71). -/
abbrev State.depthOk (s : State) : Prop :=
  s.streams.sorted ∧ ∀ kv ∈ s.streams, 1 ≤ kv.2.depth ∧ kv.2.outstanding ≤ kv.2.depth ∧ kv.2.scrubList.Nodup ∧
    ∀ i ∈ kv.2.scrubList, s.frameHas i (fun f =>
      decide (f.stream.handle.toNat = kv.1) && f.cancel.isNone && f.pieceRefs.all s.waits) = true

/-! ## A safe run -/

/-- A state in which every bound and every accounting that the manual promises holds. -/
abbrev State.safe (s : State) : Prop :=
  s.configOk ∧ s.budgetOk ∧ s.outstandingOk ∧ s.ownersOk ∧ s.linksOk ∧ s.ceilingsOk ∧ s.exchangeOk ∧
  s.piecesOk ∧ s.depthOk

/-- A step that goes on, and into a safe state. -/
def Safe (s : State) : Prop := ∃ t, step s = .next t ∧ t.safe

end Sys2Proof.Machine
end

