-- ==== Sys2Proof/Certificates/Slice0/Obligations.lean ====
section
/-! DEFINITION. The statements about the WZ4410 for the provers. -/

section

open Sys2Proof Sys2Proof.Machine

/-- For every command c and state s with c at the front of its queue, step s is exec c on s with the queue's rest.
(Command queue of the block (notes/assumptions 1 to 3).) -/
def Obligations.StepTakesTheFrontCommand : Prop :=
  ∀ (c : Instr) (s : State) (rest : List Instr),
    s.pending = c :: rest → step s = exec c { s with pending := rest }

/-- On an empty queue a step runs the first event that has arisen inside the part; when none has arisen the time base
advances by one, modulo 2^48, and nothing else changes. The order in which arisen events are taken, and that time
passes only when none waits, are the model's choices (notes/assumptions 4 and 5). (R26 (time base), notes/assumptions
4 and 5.) -/
def Obligations.IdlePartTakesWhatHasArisenOrATick : Prop :=
  ∀ s : State, s.pending = [] →
    (∀ c rest, s.arisen = c :: rest → step s = exec c s) ∧
    (s.arisen = [] → step s = .next { s with time := s.time + 1 })

/-- From every state every row of the table answers a next state and leaves the queue of waiting commands as it was. Every
row but POWER_ON_RESET, a warm reset included, leaves the time base as it was, and leaves each node port's epoch as it
was, unless the row is an ATTACH of that node taken from a state other than ATTACHED; then the epoch is one more,
modulo 2^16. That every row goes on from every state, with no effect where its event has not arisen, and that events
take no time, are the model's choices (notes/assumptions 2, 5 and 39). (R26, R149, R192.) -/
def Obligations.EveryRowGoesOnAndTimeAndEpochsStand : Prop :=
  ∀ (c : Instr) (s : State), ∃ t, exec c s = .next t ∧ t.pending = s.pending ∧
    (c ≠ .powerOnReset → t.time = s.time ∧ ∀ n : NodeId, (t.node n).epoch = (s.node n).epoch ∨
      (c = .attach n ∧ (s.node n).state ≠ .attached ∧ (t.node n).epoch = (s.node n).epoch + 1))

/-- An answer lowers the reserved count by one and writes its record. A notice to a node that is not ATTACHED changes
nothing; to an ATTACHED one with fewer than 64 occupied and reserved places its record is written; with none free it
is dropped, NOTICE_LOST is set, the lost count advances up to 65,535, and an announcement is pending with the time of
the first loss. Writing a record appends it with the node's epoch and the time and fires the vector of its class under
the vector count (four, two or one); but for vectors and messages nothing else of the port changes. A FIRED vector
stays and sends nothing; an ARMED one fires, sending its message while the PCIe link is up and holding it while it is
down. After a removal each vector with a record of the FIFO left keeps its state, every other is ARMED with nothing
held. A notice to all is written so at every port, one to the others at every port but one, a RESULT and a FRAME_DONE
at the issuer's alone, and nothing but the ports changes. Rests also on the model's own readings (notes/assumptions
28, 35 and 50). (R162, R168, R170, R174, R175.) -/
def Obligations.RecordsAreWrittenFireVectorsAndReArm : Prop :=
  (∀ (nd : Node) (now : Time) (tag : EventTag) (command : Nat) (body : List Field),
      nd.answer now tag command body = { nd with reserved := nd.reserved - 1 }.write now tag command body ∧
      (nd.state ≠ .attached → nd.notice now tag body = nd) ∧
      (nd.state = .attached → nd.events.length + nd.reserved < 64 →
        nd.notice now tag body = nd.write now tag 0 body) ∧
      (nd.state = .attached → 64 ≤ nd.events.length + nd.reserved → nd.notice now tag body =
        { nd with
          noticeLost := true, lossPending := some (nd.lossPending.getD now),
          lostCount := if nd.lostCount < 65535 then nd.lostCount + 1 else nd.lostCount })) ∧
  (∀ (nd : Node) (now : Time) (tag : EventTag) (command : Nat) (body : List Field),
      let t := nd.write now tag command body
      let v := vectorFor nd.vectors.length tag
      { t with vectors := nd.vectors, messages := nd.messages } = { nd with events := nd.events ++
        [{ tag := tag, command := command, epoch := nd.epoch, time := now, body := body }] } ∧
      (∀ w, nd.vectors[v]? = some w →
        (w.fired = true → t.vectors = nd.vectors ∧ t.messages = nd.messages) ∧
        (w.fired = false → t.vectors = nd.vectors.set v { fired := true, held := !nd.linkUp } ∧
          t.messages = nd.messages ++ (if nd.linkUp then [v] else []))) ∧
      (nd.vectors[v]? = none → t.vectors = nd.vectors ∧ t.messages = nd.messages)) ∧
  (∀ (r : ResultStatus) (f : FrameStatus) (k : StreamNotice) (p : SpanNotice) (c : NodeNotice),
      [vectorFor 4 (.result r), vectorFor 4 (.frameDone f), vectorFor 4 (.streamNotice k), vectorFor 4 (.spanNotice p)]
        = [0, 0, 1, 2] ∧
      vectorFor 4 (.nodeNotice c) = (if c = .noticeLost then 3 else 1) ∧
      [vectorFor 2 (.result r), vectorFor 2 (.frameDone f), vectorFor 2 (.streamNotice k), vectorFor 2 (.spanNotice p),
        vectorFor 2 (.nodeNotice c)] = [0, 0, 1, 1, 1] ∧
      ∀ tag, vectorFor 1 tag = 0) ∧
  (∀ (vs : List VectorState) (events : List EventRec) (v : Nat) (w : VectorState), vs[v]? = some w →
      (rearmVectors vs events)[v]? = some (if ∃ e ∈ events, vectorFor vs.length e.tag = v then w
        else { fired := false, held := false })) ∧
  (∀ (s : State) (n m : NodeId) (tag : EventTag) (body : List Field) (code : Nat) (st : ResultStatus)
      (fs : FrameStatus),
      ((s.notifyAll tag body).node m = (s.node m).notice s.time tag body ∧
        { s.notifyAll tag body with nodes := s.nodes } = s) ∧
      ((s.notifyOthers n tag body).node m = (if m = n then s.node m else (s.node m).notice s.time tag body) ∧
        { s.notifyOthers n tag body with nodes := s.nodes } = s) ∧
      ((s.result n code st body).node m =
          (if m = n then (s.node n).answer s.time (.result st) code body else s.node m) ∧
        { s.result n code st body with nodes := s.nodes } = s) ∧
      ((s.frameDone n fs body).node m =
          (if m = n then (s.node n).answer s.time (.frameDone fs) 9 body else s.node m) ∧
        { s.frameDone n fs body with nodes := s.nodes } = s))

/-- Whatever the state before: the time base and arrival counter are 0, every stream generation is 0 and no stream, frame
or piece record is in use. Every node port is DETACHED with epoch 0, one ARMED vector, clear flags and empty FIFOs.
Every span has empty lists, idle queue timers, pointers at N0 and handle 0, an empty mask, FREE slots of generation 0,
counters 0, committed 0 without overcommit, and a monitor at 850,000 ppm in a window from 0 to 100,000. With presence
asserted the link trains at attempt 1 with its TRAIN sent; with presence deasserted it is ABSENT and sends none. Every
parameter is at its default and the claim is free. That presence lines, PCIe links and the queue of commands stay as
they stand is the model's choice (notes/assumptions 7); State.reset is this state with every line asserted and link up
(notes/assumptions 6). (R24, R69, R83, R104, R125, R145, R163, R177, R185, R186, R191.) -/
def Obligations.PowerOnValuesOfEveryBlock : Prop :=
  (∀ s : State, ∃ t, exec .powerOnReset s = .next t ∧
    (t.pending = s.pending ∧ t.time = 0 ∧ t.gens = List.replicate 256 0 ∧ t.streams = [] ∧ t.frames = [] ∧ t.pieces = [] ∧
      t.arrival = 0 ∧ t.reports = [] ∧ t.defaultSettle = 40 ∧ t.orphanGrace = 5000 ∧
      t.deadlineUnit = { urgent := 8000, due := 50000, lookahead := 500000, scrubTarget := 80000 }) ∧
    (∀ n : NodeId, t.node n =
      { state := .detached, epoch := 0, vectors := [{ fired := false, held := false }], heartbeat := none,
        overrun := false, underrun := false, noticeLost := false, earlyBeat := false, lostCount := 0, lossPending := none,
        reserved := 0, commands := [], events := [], linkUp := (s.node n).linkUp, heartbeatPeriod := 1000, heartbeatWindow := 50,
        messages := [], readData := [] }) ∧
    (∀ j : SpanId,
      (t.span j).queue = { deadlines := [], background := [], deadlineTimer := none, windowTimer := none } ∧
      (t.span j).arbiter = {
        rotation := 0, backgroundPtr := 0, masked := false, selections := 0, depth := 4, backgroundShare := 1, urgent := 8000, due := 50000, lookahead := 500000 } ∧
      (∀ k : SlotId, (t.span j).service.slots[k] = { gen := 0, state := .free }) ∧
      ((t.span j).service.presence = (s.span j).service.presence ∧
        ((s.span j).service.presence = true →
          (t.span j).service.link = .training 1 50000 ∧ (t.span j).service.sent = [.train 1]) ∧
        ((s.span j).service.presence = false →
          (t.span j).service.link = .absent ∧ (t.span j).service.sent = []) ∧ (t.span j).service.relinkExpiry = none ∧
        (t.span j).service.staleCount = 0 ∧ (t.span j).service.timeoutCount = 0 ∧ (t.span j).service.linkLossCount = 0 ∧
        (t.span j).service.commandTimeout = 1000 ∧ (t.span j).service.relinkHold = 500) ∧
      (t.span j).monitor = {
        tripped := false, effective := 850000, start := 0, expiry := 100000, topLimit := 60000,
        tripLimit := 250000, counts := { top := 0, trip := 0, completions := 0, peak := none },
        previous := { top := 0, trip := 0, completions := 0, peak := none }, since := 0, clean := 0, topSeen := false,
        tripSeen := false, params := {
          ceiling := 850000, floor := 500000, step := 50000, delay := 2, recover := 8,
          auto := true, window := 100, top := 60000, trip := 250000 } } ∧
      (t.span j).budget = {
        committed := 0, overcommit := false, link := if (s.span j).service.presence then .training else .absent, effective := 850000, tripped := false,
        overhead := 4000, transfer := 4000, ceiling := 850000 } ∧
      t.config.spans[j] = {
        overhead := 4000, transfer := 4000, depth := 4, background := 1, ceiling := 850000,
        floor := 500000, step := 50000, delay := 2, recover := 8, auto := true, window := 100, top := 60000,
        trip := 250000, timeout := 1000, relinkHold := 500 }) ∧
    (t.config.part = {
        urgent := 8000, due := 50000, lookahead := 500000, scrubTarget := 80000, settle := 40,
        heartbeatPeriod := 1000, heartbeatWindow := 50, grace := 5000 } ∧
      t.config.holder = none ∧ t.config.setsAccepted = 0 ∧ t.config.resetKind = .powerOn ∧ t.config.start = .cold ∧
      t.config.loaded = false)) ∧
  (∀ s : State, s.pending = [] → (∀ j, (s.span j).service.presence = true) → (∀ n, (s.node n).linkUp = true) →
    exec .powerOnReset s = .next State.reset)

/-- Whatever the state before, after POWER_ON_RESET every stream record is FREE with generation 0, every committed figure
is 0 and every overcommit flag clear; every frame and piece record is free, no list and no slot holds one, and the
arrival counter is 0; every node port is DETACHED with empty FIFOs, no place reserved and no record written. Every
monitor holds the default configured ceiling of 850,000 ppm as its effective ceiling, tripped clear, health NORMAL, a
window from 0 to 100,000 with the limits 60,000 and 250,000, counts 0 and peaks absent in it and in the previous
record, windows since change and clean count 0, TOP_SEEN and TRIP_SEEN clear, whatever the presence lines say, and
every mask is empty. (R24, R69, R145.) -/
def Obligations.PowerOnResetLeavesNothingInUse : Prop :=
  ∀ s : State, ∃ t, exec .powerOnReset s = .next t ∧
    (∀ h : Handle, t.stream h = none ∧ t.gen h = 0) ∧
    (∀ j : SpanId, (t.span j).budget.committed = 0 ∧ (t.span j).budget.overcommit = false) ∧
    (∀ i : Nat, t.frames.get i = none ∧ t.pieces.get i = none) ∧ t.arrival = 0 ∧
    (∀ j : SpanId, (t.span j).queue.deadlines = [] ∧ (t.span j).queue.background = [] ∧
      ∀ k : SlotId, (t.span j).service.slots[k].state = .free) ∧
    (∀ n : NodeId, (t.node n).state = .detached ∧ (t.node n).commands = [] ∧ (t.node n).events = [] ∧
      (t.node n).reserved = 0) ∧
    t.time = 0 ∧ ∀ j : SpanId, (t.span j).arbiter.masked = false ∧ (t.span j).monitor.health = .normal ∧
      (t.span j).monitor = {
        tripped := false, effective := 850000, start := 0, expiry := 100000, topLimit := 60000, tripLimit := 250000,
        counts := { top := 0, trip := 0, completions := 0, peak := none },
        previous := { top := 0, trip := 0, completions := 0, peak := none }, since := 0, clean := 0,
        topSeen := false, tripSeen := false, params := {
          ceiling := 850000, floor := 500000, step := 50000, delay := 2, recover := 8, auto := true, window := 100,
          top := 60000, trip := 250000 } }

/-- POWER_ON_RESET brings every block to its power-on state with presence lines and PCIe links as they stand. A warm reset
by the pin or by the claim holder's PART_RESET moves every stream and slot generation on by one, frees every stream,
frame and piece record, sets the arrival counter to 0, makes every node port DETACHED with empty FIFOs and its epoch
kept, restarts every span from its presence line with its parameters kept and a new monitor window from the moment of
the reset, frees the claim, and writes WARM and the kind in the reset record; configuration-loaded and the parameters
stay. The monitors and the Admission Unit hold the kept parameters, and of the reports in flight those of latencies
and timeouts remain. Rests also on the model's own readings (notes/assumptions 7, 24 and 46). (R24, R25, R70, R104,
R126, R146, R164, R177, R190, R191, R192.) -/
def Obligations.ResetsClearWorkAndKeepWhatTheyKeep : Prop :=
  (∀ s : State, exec .powerOnReset s = .next
      { State.cold (bank8 fun j => (s.span j).service.presence) (bank4 fun n => (s.node n).linkUp) with
        pending := s.pending }) ∧
  (∀ s : State, ∃ t, exec .resetPin s = .next t ∧
    (∀ n rec rest, s.claims n 21 rec rest → exec (.partReset n) s =
      .next { t with config := { t.config with resetKind := .command } }) ∧
    (t.pending = s.pending ∧ t.time = s.time ∧ t.gens = s.gens.map (· + 1) ∧ t.streams = [] ∧ t.frames = [] ∧
      t.pieces = [] ∧ t.arrival = 0 ∧ t.defaultSettle = s.config.part.settle ∧ t.orphanGrace = s.config.part.grace ∧
      t.deadlineUnit.scrubTarget = s.config.part.scrubTarget ∧ t.deadlineUnit.urgent = s.config.part.urgent ∧
      t.deadlineUnit.due = s.config.part.due ∧ t.deadlineUnit.lookahead = s.config.part.lookahead) ∧
    t.config = { s.config with holder := none, setsAccepted := 0, resetKind := .pin, start := .warm } ∧
    (∀ n : NodeId, t.node n =
      { state := .detached, epoch := (s.node n).epoch, vectors := [{ fired := false, held := false }], heartbeat := none,
        overrun := false, underrun := false, noticeLost := false, earlyBeat := false, lostCount := 0,
        lossPending := none, reserved := 0, commands := [], events := [], linkUp := (s.node n).linkUp,
        heartbeatPeriod := s.config.part.heartbeatPeriod, heartbeatWindow := s.config.part.heartbeatWindow,
        messages := (s.node n).messages, readData := (s.node n).readData }) ∧
    (∀ j : SpanId,
      (t.span j).queue = { deadlines := [], background := [], deadlineTimer := none, windowTimer := none } ∧
      (t.span j).arbiter = {
        rotation := 0, backgroundPtr := 0, masked := false, selections := 0, depth := s.config.spans[j].depth, backgroundShare := s.config.spans[j].background,
        urgent := s.config.part.urgent, due := s.config.part.due, lookahead := s.config.part.lookahead } ∧
      (∀ k : SlotId, (t.span j).service.slots[k] =
        { gen := (s.span j).service.slots[k].gen + 1, state := .free }) ∧
      ((t.span j).service.presence = (s.span j).service.presence ∧ (t.span j).service.relinkExpiry = none ∧
        (t.span j).service.staleCount = 0 ∧ (t.span j).service.timeoutCount = 0 ∧
        (t.span j).service.linkLossCount = 0 ∧ (t.span j).service.commandTimeout = s.config.spans[j].timeout ∧
        (t.span j).service.relinkHold = s.config.spans[j].relinkHold) ∧
      ((s.span j).service.presence = true → (t.span j).service.link = .training 1 (s.time + 50000) ∧
        (t.span j).service.sent = (s.span j).service.sent ++ [.train 1]) ∧
      ((s.span j).service.presence = false → (t.span j).service.link = .absent ∧
        (t.span j).service.sent = (s.span j).service.sent) ∧
      (t.span j).monitor = {
        tripped := false, effective := s.config.spans[j].ceiling, start := s.time,
        expiry := s.time + BitVec.ofNat 48 (s.config.spans[j].window * 1000),
        topLimit := s.config.spans[j].top, tripLimit := s.config.spans[j].trip,
        counts := { top := 0, trip := 0, completions := 0, peak := none },
        previous := { top := 0, trip := 0, completions := 0, peak := none }, since := 0, clean := 0,
        topSeen := false, tripSeen := false, params := {
          ceiling := s.config.spans[j].ceiling, floor := s.config.spans[j].floor, step := s.config.spans[j].step,
          delay := s.config.spans[j].delay, recover := s.config.spans[j].recover, auto := s.config.spans[j].auto,
          window := s.config.spans[j].window, top := s.config.spans[j].top, trip := s.config.spans[j].trip } } ∧
      (t.span j).budget = {
        committed := 0, overcommit := false,
        link := if (s.span j).service.presence then .training else .absent,
        effective := s.config.spans[j].ceiling, tripped := false, overhead := s.config.spans[j].overhead,
        transfer := s.config.spans[j].transfer, ceiling := s.config.spans[j].ceiling }) ∧
    t.reports = s.reports.filter fun
      | .latency _ _ => true
      | .tripClass _ => true
      | _ => false)

/-- While the node's PCIe link is up: a write of 256 bytes, with fewer than 16 commands stored and fewer than 64 event
places occupied or reserved, is appended to the command FIFO and raises the reserved count by one; any other write to
that window, short, long or refused at entry, sets OVERRUN and nothing else. A read of 8 bytes of the time window
returns the time base and changes no state of the part; every other access but an event window read returns zeros, or
nothing for a write, and changes none. While the link is down no access has any effect. PCIE_LINK_UP at a port whose
link is down records the link, sends the message of each vector that holds one in vector order, and leaves each vector
as fired as it was; at a port whose link is up it does nothing. Rests also on the model's own readings
(notes/assumptions 8, 34 and 49). (R154, R165, R166, R175.) -/
def Obligations.WritesOtherAccessesAndLinkUpAtAPort : Prop :=
  (∀ (n : NodeId) (bytes : List Byte) (s : State),
      ((s.node n).linkUp = true → bytes.length = 256 → (s.node n).commands.length < 16 →
        (s.node n).events.length + (s.node n).reserved < 64 →
        exec (.commandWindowWrite n bytes) s = .next (s.modNode n fun nd =>
          { nd with commands := nd.commands ++ [bytes], reserved := nd.reserved + 1 })) ∧
      ((s.node n).linkUp = true →
        bytes.length ≠ 256 ∨ 16 ≤ (s.node n).commands.length ∨ 64 ≤ (s.node n).events.length + (s.node n).reserved →
        exec (.commandWindowWrite n bytes) s = .next (s.modNode n fun nd => { nd with overrun := true })) ∧
      ((s.node n).linkUp = false → exec (.commandWindowWrite n bytes) s = .next s)) ∧
  (∀ (n : NodeId) (s : State) (len : Nat) (bytes : List Byte),
      ((s.node n).linkUp = true →
        exec (.windowAccessIgnored n (.timeRead len)) s = .next (s.modNode n fun nd => { nd with
          readData := if len = 8 then leBytes 8 s.time.toNat else List.replicate len 0 }) ∧
        exec (.windowAccessIgnored n (.commandRead len)) s = .next (s.modNode n fun nd => { nd with
          readData := List.replicate len 0 }) ∧
        exec (.windowAccessIgnored n (.eventWrite bytes)) s = .next (s.modNode n fun nd => { nd with readData := [] }) ∧
        exec (.windowAccessIgnored n (.timeWrite bytes)) s = .next (s.modNode n fun nd => { nd with readData := [] })) ∧
      ((s.node n).linkUp = false → ∀ access, exec (.windowAccessIgnored n access) s = .next s)) ∧
  (∀ (n : NodeId) (s : State),
      ((s.node n).linkUp = true → exec (.pcieLinkUp n) s = .next s) ∧
      ((s.node n).linkUp = false → exec (.pcieLinkUp n) s = .next (s.modNode n fun nd => { nd with
        linkUp := true, vectors := nd.vectors.map fun w => { w with held := false },
        messages := nd.messages ++ ((nd.vectors.zipIdx.filter fun w => w.1.held).map Prod.snd) })))

/-- While the link is up: a read of an empty event FIFO returns an EMPTY record and sets UNDERRUN. Otherwise the oldest
record is removed and its bytes are returned with the count left, vectors without a record left are armed, and, where
an announcement is pending at an ATTACHED node with a free place, it is written with the lost count and the time of
the first loss and is no longer pending. A short read returns the first bytes, a long one zeros beyond the record.
While the link is down nothing changes. Rests also on the model's own readings (notes/assumptions 8, 17, 34 and 45).
(R165, R171, R172, R175.) -/
def Obligations.EventWindowReadTakesTheOldestRecord : Prop :=
  ∀ (n : NodeId) (len : Nat) (s : State),
    ((s.node n).linkUp = false → exec (.eventWindowRead n len) s = .next s) ∧
    ((s.node n).linkUp = true →
      ((s.node n).events = [] → exec (.eventWindowRead n len) s = .next (s.modNode n fun nd =>
        { nd with
          underrun := true,
          readData := ((EventRec.emptyAt nd.epoch s.time).bytes 0).take len ++
            List.replicate (len - ((EventRec.emptyAt nd.epoch s.time).bytes 0).length) 0 })) ∧
      (∀ e rest, (s.node n).events = e :: rest →
        let taken : Node := { s.node n with
          events := rest, vectors := rearmVectors (s.node n).vectors rest,
          readData := (e.bytes rest.length).take len ++ List.replicate (len - (e.bytes rest.length).length) 0 }
        ((s.node n).lossPending = none ∨ (s.node n).state ≠ .attached ∨ 64 ≤ rest.length + (s.node n).reserved →
          exec (.eventWindowRead n len) s = .next (s.modNode n fun _ => taken)) ∧
        (∀ first, (s.node n).lossPending = some first → (s.node n).state = .attached →
          rest.length + (s.node n).reserved < 64 →
          exec (.eventWindowRead n len) s = .next (s.modNode n fun _ =>
            { taken with lossPending := none }.write s.time (.nodeNotice .noticeLost) 0
              [fNat (s.node n).lostCount, fTime first]))))

/-- A record whose code is not 1 to 22 is answered BAD_ARGS with the code in every node state. From a node not ATTACHED
every command but ATTACH, FRAME_READ and QUERY_PART is answered NOT_ATTACHED. From an ATTACHED node that does not hold
the claim, CONFIG_SET, CONFIG_END, CLEAR_TRIP, LINK_RESET and PART_RESET are answered NOT_HOLDER. A CLOSE_STREAM,
PLAY, STOP, SCRUB, ADOPT or QUERY_STREAM whose stream id names no stream is answered NO_STREAM, and of the first four
one from another node than the owner NOT_OWNER. In each case the record is removed, the one answer is written and
nothing else changes. Rests also on the model's own readings (notes/assumptions 41 and 48). (R5, R167, R148, R181.) -/
def Obligations.CommandsTurnedAwayBeforeTheirBlock : Prop :=
  ∀ (n : NodeId) (s : State) (code : Nat) (rec : List Byte) (rest : List (List Byte)), s.heads n code rec rest →
    (code = 0 ∨ 22 < code →
      exec (.unknownCommand n) s = .next ((s.taken n rest).result n code .badArgs [fNat code])) ∧
    (code ∈ [2, 3, 4, 5, 6, 7, 8, 10, 11, 12, 14, 15, 16, 17, 18, 19, 20, 21, 22] → (s.node n).state ≠ .attached →
      exec (Instr.ofCode n code) s = .next ((s.taken n rest).result n code .notAttached [])) ∧
    (code ∈ [15, 17, 18, 20, 21] → (s.node n).state = .attached → s.config.holder ≠ some n →
      exec (Instr.ofCode n code) s = .next ((s.taken n rest).result n code .notHolder [])) ∧
    (code ∈ [5, 6, 7, 8, 10, 11] → (s.node n).state = .attached → s.named (recStream rec) = none →
      exec (Instr.ofCode n code) s = .next ((s.taken n rest).result n code .noStream [])) ∧
    (code ∈ [5, 6, 7, 8] → (s.node n).state = .attached →
      ∀ st, s.named (recStream rec) = some st → st.owner ≠ some n →
        exec (Instr.ofCode n code) s = .next ((s.taken n rest).result n code .notOwner []))

/-- CLEAR_NODE_FLAGS from a node not ATTACHED is answered NOT_ATTACHED; from an ATTACHED node it clears its four flags,
its lost count and its pending announcement, and answers OK with their values before and the occupancy and reserved
count as the command is taken. QUERY_PART, in every node state, answers OK with part number 4410 and revision 1, each
node's state and epoch, the claim holder, the counts of stream records in the six states, of frame records and of
piece records, the reset record, the time base, and the port's own FIFO figures and flags. Rests also on the model's
own readings (notes/assumptions 15 and 16). (R173, R176.) -/
def Obligations.FlagsClearedAndPartReported : Prop :=
  (∀ (n : NodeId) (s : State) (rec : List Byte) (rest : List (List Byte)), s.heads n 22 rec rest →
      ((s.node n).state ≠ .attached →
        exec (.clearNodeFlags n) s = .next ((s.taken n rest).result n 22 .notAttached [])) ∧
      ((s.node n).state = .attached → exec (.clearNodeFlags n) s = .next ((s.modNode n fun nd => { nd with
          commands := rest, overrun := false, underrun := false, noticeLost := false, earlyBeat := false,
          lostCount := 0, lossPending := none }).result n 22 .ok
        [fBool (s.node n).overrun, fBool (s.node n).underrun, fBool (s.node n).noticeLost, fBool (s.node n).earlyBeat,
         fNat (s.node n).lostCount, fBool (s.node n).lossPending.isSome, fNat (s.node n).events.length,
         fNat (s.node n).reserved]))) ∧
  (∀ (n : NodeId) (s : State) (rec : List Byte) (rest : List (List Byte)), s.heads n 13 rec rest →
      let streams (k : StreamState) := fNat (s.streams.filter fun kv => decide (kv.2.state = k)).length
      let pieces (k : PieceState) := fNat (s.pieces.filter fun kv => decide (kv.2.state = k)).length
      exec (.queryPart n) s = .next ((s.taken n rest).result n 13 .ok
        [fNat 4410, fNat 1, fNat (s.node 0).state.code, fNat (s.node 0).epoch.toNat, fNat (s.node 1).state.code,
         fNat (s.node 1).epoch.toNat, fNat (s.node 2).state.code, fNat (s.node 2).epoch.toNat,
         fNat (s.node 3).state.code, fNat (s.node 3).epoch.toNat, fOpt (fun m => fNat m.val) s.config.holder,
         fNat (256 - s.streams.length), streams .stopped, streams .playing, streams .scrubbing, streams .closing,
         streams .orphaned, fNat s.frames.length, pieces .held, pieces .queued, pieces .inService,
         fNat s.config.resetKind.code, fNat s.config.start.code, fBool s.config.loaded, fTime s.time,
         fNat (s.node n).events.length, fNat (s.node n).reserved, fNat rest.length, fNat (s.node n).lostCount,
         fBool (s.node n).overrun, fBool (s.node n).underrun, fBool (s.node n).noticeLost,
         fBool (s.node n).earlyBeat]))

/-- From DETACHED or LOST, ATTACH empties the event FIFO, advances the epoch, takes the vector count rounded to 1, 2 or 4
with every vector ARMED, clears the flags, the lost count and the announcement, takes the heartbeat period and window,
starts the timer, makes the node ATTACHED, writes PEER_ATTACHED to the other ATTACHED nodes and answers OK with the
former state and flags, the epoch, the vector count, the heartbeat values and the time base. From ATTACHED it is
answered WRONG_STATE and changes nothing else. Rests also on the model's own reading (notes/assumptions 23). (R150,
R149, R162.) -/
def Obligations.AttachFromDetachedOrLost : Prop :=
  ∀ (n : NodeId) (s : State) (rec : List Byte) (rest : List (List Byte)), s.heads n 1 rec rest →
    ((s.node n).state = .attached →
      exec (.attach n) s = .next ((s.taken n rest).result n 1 .wrongState [])) ∧
    ((s.node n).state ≠ .attached →
      let nd := s.node n
      let count := if recArg rec 0 ≤ 1 then 1 else if recArg rec 0 ≤ 3 then 2 else 4
      exec (.attach n) s = .next (((s.modNode n fun nd => { nd with
          state := .attached, epoch := nd.epoch + 1,
          vectors := List.replicate count { fired := false, held := false },
          heartbeat := some {
            period := nd.heartbeatPeriod, window := nd.heartbeatWindow, last := s.time,
            expiry := s.time + BitVec.ofNat 48 (nd.heartbeatPeriod * 1000) },
          overrun := false, underrun := false, noticeLost := false, earlyBeat := false, lostCount := 0,
          lossPending := none, commands := rest, events := [] }).notifyOthers n (.nodeNotice .peerAttached)
            [fNat n.val, fNat (nd.epoch + 1).toNat]).result n 1 .ok
        [fNat nd.state.code, fBool nd.overrun, fBool nd.underrun, fBool nd.noticeLost, fBool nd.earlyBeat,
         fNat (nd.epoch + 1).toNat, fNat count, fNat nd.heartbeatPeriod, fNat nd.heartbeatWindow, fTime s.time]))

/-- From a node not ATTACHED it is answered NOT_ATTACHED. With e the time base less the last accepted time and the early
bound H × (100 − f) × 10 of the values held: when e is below the bound, EARLY_BEAT is set, the answer is EARLY with e,
the time from which a HEARTBEAT would be accepted and the period and window held, and the heartbeat fields stay.
Otherwise the last accepted time becomes the time base, period and window are taken afresh, the timer runs for the
period from now, and the answer is OK with e, the expiry, the next early boundary and the period and window now held.
EARLY_BEAT, once set, is cleared by no row but CLEAR_NODE_FLAGS and ATTACH of that node and the resets. Rests also on
the model's own readings (notes/assumptions 12, 30, 31 and 47). (R151, R152, R189.) -/
def Obligations.HeartbeatIsEarlyOrRestartsTheTimer : Prop :=
  (∀ (n : NodeId) (s : State) (rec : List Byte) (rest : List (List Byte)), s.heads n 3 rec rest →
    ((s.node n).state ≠ .attached →
      exec (.heartbeat n) s = .next ((s.taken n rest).result n 3 .notAttached [])) ∧
    ∀ hb, (s.node n).state = .attached → (s.node n).heartbeat = some hb →
    let e := timeDiff s.time hb.last
    let h := (s.node n).heartbeatPeriod
    let f := (s.node n).heartbeatWindow
    (e < ((hb.period * (100 - hb.window) * 10 : Nat) : Int) →
      exec (.heartbeat n) s = .next ((s.modNode n fun nd => { nd with commands := rest, earlyBeat := true }).result n 3
        .early [fInt e, fTime (hb.last + BitVec.ofNat 48 (hb.period * (100 - hb.window) * 10)),
          fNat hb.period, fNat hb.window])) ∧
    (((hb.period * (100 - hb.window) * 10 : Nat) : Int) ≤ e →
      exec (.heartbeat n) s = .next ((s.modNode n fun nd => { nd with
          commands := rest,
          heartbeat := some {
            period := h, window := f, last := s.time,
            expiry := s.time + BitVec.ofNat 48 (h * 1000) } }).result n 3 .ok
        [fInt e, fTime (s.time + BitVec.ofNat 48 (h * 1000)),
         fTime (s.time + BitVec.ofNat 48 (h * (100 - f) * 10)), fNat h, fNat f]))) ∧
  (∀ (c : Instr) (s t : State) (n : NodeId), exec c s = .next t → (s.node n).earlyBeat = true →
    (t.node n).earlyBeat = true ∨
      c = .clearNodeFlags n ∨ c = .attach n ∨ c = .powerOnReset ∨ c = .resetPin ∨ ∃ m, c = .partReset m)

/-- DETACH makes the node DETACHED with its timer stopped, one reserved place fewer for each of its unanswered reads and
no announcement pending. With handover each stream it serves (it owns it, in STOPPED, PLAYING or SCRUBBING; taken in
handle order) is ORPHANED with its state as prior state and its timer at the grace; without, it is CLOSING; a CLOSING
stream loses its owner either way. Anchors, settle timers and scrub lists of the streams served are emptied. The claim
is released if the node held it. Then come PEER_DETACHED, CLAIM_RELEASED where the claim was released, one ORPHANED
notice per stream, the RESULT OK with the counts, and the cancellations owed to the streams; with handover and a grace
of 0 each orphan timer expires at once. Rests also on the model's own readings (notes/assumptions 9 and 20). (R157,
R158, R162, R171, R181.) -/
def Obligations.DetachHandsOverOrCloses : Prop :=
  ∀ (n : NodeId) (s : State) (rec : List Byte) (rest : List (List Byte)), s.issues n 2 rec rest →
    let hs : List Handle := (s.streams.filter fun kv => decide (kv.2.owner = some n) &&
      (decide (kv.2.state = .stopped) || decide (kv.2.state = .playing) || decide (kv.2.state = .scrubbing))).map
        fun kv => BitVec.ofNat 8 kv.1
    let handover := recHandover rec
    let held := decide (s.config.holder = some n)
    let orphaned := if handover then hs.length else 0
    let closed := if handover then 0 else hs.length
    let left : State := { s with
      nodes := s.nodes.set n { s.node n with
        commands := rest, state := .detached, heartbeat := none, lossPending := none,
        reserved := (s.node n).reserved -
          (s.frames.filter fun kv => decide (kv.2.node = n) && decide (kv.2.epoch = (s.node n).epoch)).length },
      streams := s.streams.map fun kv => (kv.1,
        if kv.2.owner = some n then
          if kv.2.state = .stopped ∨ kv.2.state = .playing ∨ kv.2.state = .scrubbing then
            if handover then { kv.2 with
              owner := none, prior := some kv.2.state, state := .orphaned, anchor := none, settleExpiry := none,
              scrubList := [], orphanExpiry := some (s.time + BitVec.ofNat 48 (s.orphanGrace * 1000)) }
            else { kv.2 with
              owner := none, state := .closing, anchor := none, settleExpiry := none, scrubList := [] }
          else { kv.2 with owner := none }
        else kv.2),
      config := if held then { s.config with holder := none, setsAccepted := 0 } else s.config }
    let told := left.notifyAll (.nodeNotice .peerDetached) [fNat n.val, fBool handover, fNat orphaned, fNat closed]
    let told := if held then told.notifyAll (.nodeNotice .claimReleased) [fNat n.val] else told
    let told := if handover then hs.foldl (State.noticeOrphaned n) told else told
    let told := told.result n 2 .ok [fBool handover, fNat orphaned, fNat closed, fBool held]
    let done : State := { told with
      reports := told.reports ++ hs.map fun h => .cancel { handle := h, gen := s.gen h } n (s.node n).epoch }
    exec (.detach n) s = .next (if handover ∧ s.orphanGrace = 0 then hs.foldl State.orphanExpires done else done)

/-- At its heartbeat timer's expiry, or at PCIe link-down, an ATTACHED node becomes LOST: its timer stops, both FIFOs
empty, the reserved count is 0, every vector is ARMED and no announcement is pending; its flags and epoch stay. Each
stream it serves (it owns it, in STOPPED, PLAYING or SCRUBBING; in handle order) is ORPHANED, its CLOSING streams lose
their owner, and its claim is released. PEER_LOST with the cause, CLAIM_RELEASED and the ORPHANED notices are written,
the cancellations are owed, and a grace of 0 expires at once. Link-down of a node not ATTACHED is only recorded. An
ORPHANED notice carries the stream id, the former owner, the prior state, the orphan expiry and the outstanding count.
Rests also on the model's own readings (notes/assumptions 9, 20 and 48). (R151, R154, R155, R158, R162, R171, R181.) -/
def Obligations.NodeLossOrphansItsStreams : Prop :=
  (∀ (n : NodeId) (s : State) (cause : LossCause),
      let hs : List Handle := (s.streams.filter fun kv => decide (kv.2.owner = some n) &&
      (decide (kv.2.state = .stopped) || decide (kv.2.state = .playing) || decide (kv.2.state = .scrubbing))).map
        fun kv => BitVec.ofNat 8 kv.1
      let held := decide (s.config.holder = some n)
      let left (linkUp : Bool) : State := { s with
        nodes := s.nodes.set n { s.node n with
          state := .lost, heartbeat := none, events := [], commands := [], reserved := 0, lossPending := none,
          vectors := (s.node n).vectors.map fun _ => { fired := false, held := false }, linkUp := linkUp },
        streams := s.streams.map fun kv => (kv.1,
          if kv.2.owner = some n then
            if kv.2.state = .stopped ∨ kv.2.state = .playing ∨ kv.2.state = .scrubbing then { kv.2 with
              owner := none, prior := some kv.2.state, state := .orphaned, anchor := none, settleExpiry := none,
              scrubList := [], orphanExpiry := some (s.time + BitVec.ofNat 48 (s.orphanGrace * 1000)) }
            else { kv.2 with owner := none }
          else kv.2),
        config := if held then { s.config with holder := none, setsAccepted := 0 } else s.config }
      let told (linkUp : Bool) := (left linkUp).notifyAll (.nodeNotice .peerLost)
        [fNat n.val, fNat (s.node n).epoch.toNat, fNat cause.code, fNat hs.length]
      let told (linkUp : Bool) := hs.foldl (State.noticeOrphaned n)
        (if held then (told linkUp).notifyAll (.nodeNotice .claimReleased) [fNat n.val] else told linkUp)
      let done (linkUp : Bool) : State := { told linkUp with
        reports := s.reports ++ hs.map fun h => .cancel { handle := h, gen := s.gen h } n (s.node n).epoch }
      let lost (linkUp : Bool) := if s.orphanGrace = 0 then hs.foldl State.orphanExpires (done linkUp) else done linkUp
      (s.node n).state = .attached →
        (cause = .heartbeat → ∀ hb, (s.node n).heartbeat = some hb → 0 ≤ timeDiff s.time hb.expiry →
          exec (.heartbeatTimerExpiry n) s = .next (lost (s.node n).linkUp)) ∧
        (cause = .linkDown → exec (.pcieLinkDown n) s = .next (lost false))) ∧
  (∀ (n : NodeId) (s : State), (s.node n).state ≠ .attached →
      exec (.pcieLinkDown n) s = .next (s.modNode n fun nd => { nd with linkUp := false })) ∧
  (∀ (n : NodeId) (s : State) (h : Handle) (st : Stream), s.stream h = some st →
      State.noticeOrphaned n s h = s.notifyAll (.streamNotice .orphaned)
        [fStreamId { handle := h, gen := s.gen h }, fNat n.val, fOpt (fun k => fNat (StreamState.code k)) st.prior,
         fOpt fTime st.orphanExpiry, fNat st.outstanding])

/-- From an ATTACHED node with arguments in range, where every listed span passes the tests for its U and a record is
free: the lowest free record holds the new stream, STOPPED, owned by the node, with its share, its span list of U's
all reserved, the depth, lead and settle taken, and counters 0; committed rises by U on every listed span and on no
other; the answer is OK with the stream id, the share, the U's and the values taken. Nothing else changes. (The
premise that the budget's accounting holds is kept by every step, and keeps the overcommit flag clear.) Rests also on
the model's own reading (notes/assumptions 15). (R4, R6, R7, R8, R9, R10, R12, R179.) -/
def Obligations.OpenStreamReservesOnEverySpan : Prop :=
  ∀ (n : NodeId) (s : State) (rec : List Byte) (rest : List (List Byte)) (js : List SpanId) (sp : ScrubPolicy)
    (lp : LatePolicy) (k : Nat), s.issues n 4 rec rest → s.budgetOk → (recOpenArgs rec).ok js sp lp →
    (∀ j ∈ js, (s.span j).budget.admits (s.uOn (recOpenArgs rec) j)) →
    k < 256 → s.streams.get k = none → (∀ i < k, s.streams.get i ≠ none) →
    let a := recOpenArgs rec
    let share := (a.frameBlocks + a.width - 1) / a.width
    let depth := if a.depth < 1 then 1 else if 16 < a.depth then 16 else a.depth
    let lead := min a.lead 1000000
    let settle := match a.settle with
      | none => s.defaultSettle
      | some v => min v 255
    let st : Stream := {
      state := .stopped, owner := some n, prior := none, period := a.period, frameBlocks := a.frameBlocks,
      share := share, spans := js.map fun j => { span := j, u := s.uOn a j, reserved := true }, depth := depth,
      lead := lead, settle := settle, scrub := sp, late := lp, anchor := none, outstanding := 0, degraded := false,
      framesOk := 0, framesLate := 0, framesSkipped := 0, framesFailed := 0, orphanExpiry := none,
      settleExpiry := none, scrubList := [] }
    exec (.openStream n) s = .next (State.result
      { s.taken n rest with
        streams := s.streams.put k st,
        spans := bank8 fun j => if j ∈ js then { s.span j with
            budget := { (s.span j).budget with committed := (s.span j).budget.committed + s.uOn a j } }
          else s.span j }
      n 4 .ok ([fNat (k + 256 * (s.gen (BitVec.ofNat 8 k)).toNat), fNat share] ++
        eightFields (js.map (s.uOn a)) ++ [fNat depth, fNat lead, fNat settle]))

/-- Arguments that pass no reading of the checks are answered BAD_ARGS. With arguments in range, the first listed span
that fails a test decides: SPAN_DOWN when its link is not UP, with span and position; else UNSERVABLE when U exceeds
its configured ceiling, with U and the ceiling; else OVER_BUDGET when it is tripped or committed plus U exceeds the
effective ceiling, with U, committed, the effective ceiling and the trip. When every span passes and all 256 records
are in use the answer is NO_RECORD with the U's. Nothing but the record's removal and the answer changes. Rests also
on the model's own reading (notes/assumptions 15). (R6, R8, R9, R10, R179.) -/
def Obligations.OpenStreamRefusedByTheFirstTestThatFails : Prop :=
  ∀ (n : NodeId) (s : State) (rec : List Byte) (rest : List (List Byte)), s.issues n 4 rec rest →
    let a := recOpenArgs rec
    let answered (st : ResultStatus) (body : List Field) :=
      exec (.openStream n) s = .next ((s.taken n rest).result n 4 st body)
    ((¬ ∃ js sp lp, a.ok js sp lp) → answered .badArgs []) ∧
    (∀ (js : List SpanId) (sp : ScrubPolicy) (lp : LatePolicy), a.ok js sp lp →
      (∀ (before after : List SpanId) (j : SpanId), js = before ++ j :: after →
        (∀ i ∈ before, (s.span i).budget.admits (s.uOn a i)) →
        let b := (s.span j).budget
        let u := s.uOn a j
        (b.link ≠ .up → answered .spanDown [fNat j.val, fNat before.length]) ∧
        (b.link = .up → b.ceiling < u →
          answered .unservable [fNat j.val, fNat before.length, fNat u, fNat b.ceiling]) ∧
        (b.link = .up → u ≤ b.ceiling → b.tripped = true ∨ b.effective < b.committed + u →
          answered .overBudget [fNat j.val, fNat before.length, fNat u, fNat b.committed, fNat b.effective,
            fBool b.tripped])) ∧
      ((∀ j ∈ js, (s.span j).budget.admits (s.uOn a j)) → s.streams.sorted → (∀ i < 256, s.streams.get i ≠ none) →
        answered .noRecord (eightFields (js.map (s.uOn a)))))

/-- Whatever row is taken: when committed on a span is higher afterwards, the row was an OPEN_STREAM, the span was
reported UP and not tripped, and committed afterwards is at most its effective ceiling. (R9, R12, R14.) -/
def Obligations.OnlyAdmissionRaisesCommitted : Prop :=
  ∀ (c : Instr) (s t : State) (j : SpanId), exec c s = .next t →
    (s.span j).budget.committed < (t.span j).budget.committed →
    (∃ n, c = .openStream n) ∧ (s.span j).budget.link = .up ∧ (s.span j).budget.tripped = false ∧
      (t.span j).budget.committed ≤ (t.span j).budget.effective ∧
      (t.span j).budget.effective = (s.span j).budget.effective

/-- CLOSE_STREAM by the owner from STOPPED, PLAYING or SCRUBBING: the stream becomes CLOSING without anchor, settle timer
or scrub list, the answer OK is written, and then every frame of the stream that can be is withdrawn CANCELLED in
record order. In CLOSING the answer is WRONG_STATE and nothing else changes. At its orphan timer's expiry an ORPHANED
stream becomes CLOSING with prior state and timer absent, CLOSED is written to every ATTACHED node with the
outstanding count, and with nothing outstanding the record returns to FREE in the same event. The same is what a grace
of 0 does. At a drain's end a CLOSING stream whose outstanding count is 0 returns to FREE. Rests also on the model's
own readings (notes/assumptions 9, 10 and 20). (R15, R16, R17, R28, R32, R80, R159.) -/
def Obligations.StreamsCloseDrainAndAreFreed : Prop :=
  (∀ (n : NodeId) (s : State) (rec : List Byte) (rest : List (List Byte)) (st : Stream), s.issues n 5 rec rest →
      s.named (recStream rec) = some st → st.owner = some n →
      (st.state = .closing → exec (.closeStream n) s = .next ((s.taken n rest).result n 5 .wrongState [])) ∧
      (st.state ≠ .closing → exec (.closeStream n) s = .next
        ((s.frames.numbersOf fun f => decide (f.stream = recStream rec)).foldl (State.withdrawFrame .cancelled)
          (((s.taken n rest).modStream (recStream rec).handle fun st => { st with
            state := .closing, anchor := none, settleExpiry := none, scrubList := [] }).result n 5 .ok [])))) ∧
  (∀ (h : Handle) (s : State) (st : Stream), s.stream h = some st →
      let closed := (s.modStream h fun st => { st with
        state := .closing, prior := none, orphanExpiry := none }).notifyAll (.streamNotice .closed)
          [fNat (h.toNat + 256 * (s.gen h).toNat), fNat st.outstanding]
      let expired := if st.outstanding = 0 then closed.freeStream h else closed
      s.orphanExpires h = expired ∧
      (∀ t, st.state = .orphaned → st.orphanExpiry = some t → 0 ≤ timeDiff s.time t →
        exec (.orphanTimerExpiry h) s = .next expired) ∧
      (st.state = .closing → st.outstanding = 0 → exec (.drainEnd h) s = .next (s.freeStream h)))

/-- ADOPT of an ORPHANED stream sets the owner, puts it in STOPPED without orphan timer and prior state, answers OK with
the stream id, the prior state, the time left, the outstanding count, the degraded flag and the span list, and writes
ADOPTED to every ATTACHED node, the adopter included. Of a stream in another state it is answered NOT_ORPHANED.
QUERY_STREAM from any ATTACHED node answers OK with every field of the record, absent ones absent. Rests also on the
model's own readings (notes/assumptions 15 and 21). (R5, R23, R160, R162.) -/
def Obligations.AdoptTakesAnOrphanAndQueryReportsAStream : Prop :=
  ∀ (n : NodeId) (s : State) (rec : List Byte) (rest : List (List Byte)) (st : Stream),
    let i := recStream rec
    let id := fNat (i.handle.toNat + 256 * i.gen.toNat)
    let left := fOpt (fun t => fNat ((timeDiff t s.time).toNat / 1000)) st.orphanExpiry
    let prior := fOpt (fun k => fNat (StreamState.code k)) st.prior
    let list := fNat st.spans.length ::
      (st.spans.flatMap (fun e => [fNat e.span.val, fNat e.u, fBool e.reserved]) ++
        List.replicate (24 - st.spans.length * 3) none)
    s.named i = some st →
    (s.issues n 10 rec rest → st.state = .orphaned → exec (.adopt n) s = .next
      ((((s.taken n rest).modStream i.handle fun st => { st with
        owner := some n, state := .stopped, orphanExpiry := none, prior := none }).result n 10 .ok
          ([id, prior, left, fNat st.outstanding, fBool st.degraded] ++ list)).notifyAll
        (.streamNotice .adopted) [id, fNat n.val, prior])) ∧
    (s.issues n 10 rec rest → st.state ≠ .orphaned →
      exec (.adopt n) s = .next ((s.taken n rest).result n 10 .notOrphaned [])) ∧
    (s.issues n 11 rec rest → exec (.queryStream n) s = .next ((s.taken n rest).result n 11 .ok
      ([id, fNat st.state.code, fOpt (fun n => fNat n.val) st.owner, prior, fNat st.period, fNat st.frameBlocks,
        fNat st.spans.length, fNat st.share] ++ list ++
       [fNat st.depth, fNat st.lead, fNat st.settle, fNat st.scrub.code, fNat st.late.code,
        fOpt (fun a => fTime (Anchor.time a)) st.anchor, fOpt (fun a => fNat (Anchor.frame a)) st.anchor,
        fOpt (fun a => fInt (Anchor.speed a)) st.anchor, fNat st.outstanding, fBool st.degraded, fNat st.framesOk,
        fNat st.framesLate, fNat st.framesSkipped, fNat st.framesFailed, left])))

/-- When a stream record returns to FREE, its span list is taken in order: each reserved entry's U is subtracted from its
span's committed figure, and where that changes whether committed exceeds the ceiling, the overcommit flag follows and
OVERCOMMIT_ON or OVERCOMMIT_OFF is written to every ATTACHED node with span, committed and ceiling. The record's
generation advances by one, wrapping, and the record is no longer in use. So committed falls on each span by what the
stream had reserved there, the overcommit flag of every span with a reserved entry says whether committed exceeds the
ceiling, that of every other span stays; no other stream, frame, piece or report changes, and of a node port nothing
but events, vectors, messages and what the loss of a notice sets. (R4, R12, R13, R17, R18.) -/
def Obligations.ReturnToFreeGivesBackEveryReservation : Prop :=
  ∀ (s : State) (h : Handle) (st : Stream), s.stream h = some st → s.streams.sorted →
    let t := s.freeStream h
    let givenBack (u : State) (e : SpanEntry) : State :=
      if e.reserved then
        let v := u.modBudget e.span fun b => { b with committed := b.committed - e.u }
        let b := (v.span e.span).budget
        let exceeds := decide (b.effective < b.committed)
        if exceeds = b.overcommit then v
        else (v.modBudget e.span fun b => { b with overcommit := exceeds }).notifyAll
          (.spanNotice (if exceeds then .overcommitOn else .overcommitOff))
          [fNat e.span.val, fNat b.committed, fNat b.effective]
      else u
    t = { st.spans.foldl givenBack s with
      gens := s.gens.set h.toNat (s.gen h + 1), streams := s.streams.free h.toNat } ∧
    t.stream h = none ∧ (∀ i, i ≠ h.toNat → t.streams.get i = s.streams.get i) ∧
    (∀ j, (t.span j).budget.committed = (s.span j).budget.committed -
        ((st.spans.filter fun e => decide (e.span = j) && e.reserved).map SpanEntry.u).sum) ∧
    (∀ j, (∃ e ∈ st.spans, e.span = j ∧ e.reserved = true) →
      ((t.span j).budget.overcommit = true ↔ (t.span j).budget.effective < (t.span j).budget.committed)) ∧
    (∀ j, (¬ ∃ e ∈ st.spans, e.span = j ∧ e.reserved = true) → t.span j = s.span j) ∧
    (∀ j, (t.span j).queue = (s.span j).queue ∧ (t.span j).arbiter = (s.span j).arbiter ∧
      (t.span j).service = (s.span j).service ∧ (t.span j).monitor = (s.span j).monitor ∧
      (t.span j).budget.effective = (s.span j).budget.effective) ∧
    (t.frames = s.frames ∧ t.pieces = s.pieces ∧ t.reports = s.reports ∧ t.config = s.config ∧ t.time = s.time ∧
      t.pending = s.pending ∧ t.arrival = s.arrival ∧ t.defaultSettle = s.defaultSettle ∧
      t.orphanGrace = s.orphanGrace ∧ t.deadlineUnit = s.deadlineUnit) ∧
    (∀ n, { t.node n with
        events := (s.node n).events, vectors := (s.node n).vectors, messages := (s.node n).messages,
        noticeLost := (s.node n).noticeLost, lostCount := (s.node n).lostCount,
        lossPending := (s.node n).lossPending } = s.node n)

/-- LINK_STATE_REPORT keeps the link state and brings the degraded flag of every stream naming the span to: some listed
span not UP or not reserved. ABSENT_RELEASE keeps ABSENT, subtracts what streams have reserved on the span from its
committed, clears those reserved flags, sets degraded in every stream naming the span, and recomputes overcommit.
CEILING_REPORT keeps the ceiling and trip and recomputes overcommit. A recomputation that changes the flag sets it to
whether committed exceeds the ceiling and writes OVERCOMMIT_ON or OVERCOMMIT_OFF to every ATTACHED node with span,
committed and ceiling; one that does not writes nothing. (R13, R19, R21, R114, R137.) -/
def Obligations.AdmissionUnitTakesLinkAndCeilingReports : Prop :=
  ∀ (s : State) (j : SpanId) (before after : List Report),
    let u : State := { s with reports := before ++ after }
    let recomputed (v : State) : State :=
      let b := (v.span j).budget
      let exceeds := decide (b.effective < b.committed)
      if exceeds = b.overcommit then v
      else (v.modBudget j fun b => { b with overcommit := exceeds }).notifyAll
        (.spanNotice (if exceeds then .overcommitOn else .overcommitOff)) [fNat j.val, fNat b.committed, fNat b.effective]
    (∀ k, s.offers (toAdmission j) (.linkState j k) before after →
      let v := u.modBudget j fun b => { b with link := k }
      exec (.linkStateReport j) s = .next { v with
        streams := v.streams.map fun kv => (kv.1, if ∃ e ∈ kv.2.spans, e.span = j then { kv.2 with
          degraded := decide (∃ e ∈ kv.2.spans, (v.span e.span).budget.link ≠ .up ∨ e.reserved = false) }
        else kv.2) }) ∧
    (s.offers (toAdmission j) (.absent j) before after →
      let v := u.modBudget j fun b => { b with link := .absent, committed := b.committed - s.reservedU j }
      exec (.absentRelease j) s = .next (recomputed { v with
        streams := v.streams.map fun kv => (kv.1, if ∃ e ∈ kv.2.spans, e.span = j then { kv.2 with
          degraded := true,
          spans := kv.2.spans.map fun e => if e.span = j then { e with reserved := false } else e }
        else kv.2) })) ∧
    (∀ c t, s.offers (fun | .ceiling k _ _ => decide (k = j) | _ => false) (.ceiling j c t) before after →
      exec (.ceilingReport j) s = .next (recomputed
        (u.modBudget j fun b => { b with effective := c, tripped := t })))

/-- An owner's PLAY of speed other than 0 on a stream not CLOSING, frame number in range: the anchor is the time base plus
the preroll (at most 10,000,000), the frame and the rounded speed; the stream is PLAYING with settle timer stopped and
scrub list empty; the answer OK carries anchor time, frame, speed taken, preroll taken and the number of frames
cancelled; then the cancellations follow. In CLOSING it is answered WRONG_STATE, with a frame number above
2,147,483,647 BAD_ARGS, and nothing else changes. A speed other than 0 is rounded down in magnitude to 1, 2, 4 or 8
with its sign kept. Rests also on the model's own readings (notes/assumptions 9 and 10). (R28, R29, R30, R31, R80.) -/
def Obligations.PlayAnchorsTheStream : Prop :=
  (∀ (n : NodeId) (s : State) (rec : List Byte) (rest : List (List Byte)) (st : Stream), s.issues n 6 rec rest →
      s.named (recStream rec) = some st → st.owner = some n → recArgSigned rec 1 ≠ 0 →
      let preroll := min (recArg rec 2) 10000000
      let anchor : Anchor := {
        time := s.time + BitVec.ofNat 48 preroll, frame := recArg rec 0, speed := roundSpeed (recArgSigned rec 1) }
      (st.state = .closing → exec (.play n) s = .next ((s.taken n rest).result n 6 .wrongState [])) ∧
      (st.state ≠ .closing → 2147483647 < recArg rec 0 →
        exec (.play n) s = .next ((s.taken n rest).result n 6 .badArgs [])) ∧
      (st.state ≠ .closing → recArg rec 0 ≤ 2147483647 → exec (.play n) s = .next
        ((((s.taken n rest).modStream (recStream rec).handle fun st => { st with
          state := .playing, anchor := some anchor, settleExpiry := none, scrubList := [] }).result n 6 .ok
            [fTime anchor.time, fNat anchor.frame, fInt anchor.speed, fNat preroll,
             fNat (s.cancelCount (recStream rec))]).cancelStream (recStream rec)))) ∧
  (∀ v : Int, v ≠ 0 → (roundSpeed v).natAbs ∈ [1, 2, 4, 8] ∧ (0 < roundSpeed v ↔ 0 < v) ∧
      (roundSpeed v).natAbs ≤ v.natAbs ∧ ((roundSpeed v).natAbs = 8 ∨ v.natAbs < 2 * (roundSpeed v).natAbs))

/-- STOP, or PLAY of speed 0, from PLAYING or SCRUBBING puts the stream in STOPPED; SCRUB from STOPPED or PLAYING puts it
in SCRUBBING; each removes the anchor, stops the settle timer, empties the scrub list, answers OK with the number of
frames cancelled (and a PLAY the indicator that its speed was taken as 0) and then cancels them. From any other state
the answer is WRONG_STATE, a PLAY's with the indicator too, and nothing else changes. Rests also on the model's own
readings (notes/assumptions 9, 10 and 15). (R30, R33, R34, R28, R80.) -/
def Obligations.StopAndScrubLeavePlay : Prop :=
  ∀ (n : NodeId) (s : State) (rec : List Byte) (rest : List (List Byte)) (st : Stream),
    s.named (recStream rec) = some st → st.owner = some n →
    let count := fNat (s.cancelCount (recStream rec))
    let moved (code : Nat) (k : StreamState) (body : List Field) :=
      (((s.taken n rest).modStream (recStream rec).handle fun st => { st with
        state := k, anchor := none, settleExpiry := none, scrubList := [] }).result n code .ok body).cancelStream
          (recStream rec)
    (s.issues n 7 rec rest →
      (st.state = .playing ∨ st.state = .scrubbing → exec (.stop n) s = .next (moved 7 .stopped [count])) ∧
      (st.state ≠ .playing → st.state ≠ .scrubbing →
        exec (.stop n) s = .next ((s.taken n rest).result n 7 .wrongState []))) ∧
    (s.issues n 6 rec rest → recArgSigned rec 1 = 0 →
      (st.state = .playing ∨ st.state = .scrubbing → exec (.play n) s = .next (moved 6 .stopped [count, fNat 1])) ∧
      (st.state ≠ .playing → st.state ≠ .scrubbing →
        exec (.play n) s = .next ((s.taken n rest).result n 6 .wrongState [none, fNat 1]))) ∧
    (s.issues n 8 rec rest →
      (st.state = .stopped ∨ st.state = .playing → exec (.scrub n) s = .next (moved 8 .scrubbing [count])) ∧
      (st.state ≠ .stopped → st.state ≠ .playing →
        exec (.scrub n) s = .next ((s.taken n rest).result n 8 .wrongState [])))

/-- Under an anchor (A, F0, s) with s not 0, frame n has deadline d exactly when there is a whole k with n − F0 = k × s
and k × P at most 2^40 µs, and d is then A + k × P − L modulo 2^48. A stream PLAYING gives such a frame kind PLAY with
that deadline and any other kind PARK without one; STOPPED gives PARK, SCRUBBING gives SCRUB, neither with a deadline.
With urgent threshold ≤ due window ≤ lookahead, a deadline is LATE below slack 0, URGENT from 0 to the threshold, DUE
above it to the due window, AHEAD above it to the lookahead, FUTURE beyond; and of two deadlines at one moment the one
of the earlier class has the smaller slack. (R36, R37, R38, R39.) -/
def Obligations.DeadlinesOfFramesAndTheirUrgency : Prop :=
  (∀ (st : Stream) (a : Anchor) (n : Nat) (d : Time), a.speed ≠ 0 →
      (st.playDeadline a n = some d ↔ ∃ k : Nat, (n : Int) - a.frame = k * a.speed ∧ k * st.period ≤ 2 ^ 40 ∧
        d = a.time + BitVec.ofNat 48 (k * st.period) - BitVec.ofNat 48 st.lead)) ∧
  (∀ (st : Stream) (n : Nat),
      (∀ a, st.state = .playing → st.anchor = some a →
        st.timing n = (match st.playDeadline a n with
          | some d => (.play, some d)
          | none => (.park, none))) ∧
      (st.state = .stopped → st.timing n = (.park, none)) ∧ (st.state = .scrubbing → st.timing n = (.scrub, none))) ∧
  (∀ (a : Arbiter) (now d e : Time), a.urgent ≤ a.due → a.due ≤ a.lookahead →
      let k := (d - now).toInt
      (a.classOf now d = .late ↔ k < 0) ∧
      (a.classOf now d = .urgent ↔ 0 ≤ k ∧ k ≤ a.urgent) ∧
      (a.classOf now d = .due ↔ a.urgent < k ∧ k ≤ a.due) ∧
      (a.classOf now d = .ahead ↔ a.due < k ∧ k ≤ a.lookahead) ∧
      (a.classOf now d = .future ↔ a.lookahead < k) ∧
      (a.classOf now d ≠ a.classOf now e → (d - now).toInt < (e - now).toInt →
        [Urgency.late, .urgent, .due, .ahead, .future].idxOf (a.classOf now d) <
          [Urgency.late, .urgent, .due, .ahead, .future].idxOf (a.classOf now e)))

/-- The checks are made in order: REFUSED_STREAM for a stream not named, a node not ATTACHED or not the owner;
REFUSED_STATE in CLOSING; REFUSED_ARGS for a frame number above 2,147,483,647 or extents that do not match the span
list; REFUSED_DUPLICATE for a number outstanding; REFUSED_DEPTH at full depth, under EVERY in SCRUBBING only when the
scrub list is empty; REFUSED_POOL without a frame record or W piece records, where at full depth under EVERY those of
the oldest frame of the scrub list, its record and its waiting pieces, count as free. The FRAME_DONE carries stream
id, cookie and number, the late indicator clear and no outcomes, and nothing else changes. A read past every check
whose PLAY deadline has slack below 0 under SKIP is answered LATE_SKIPPED with the lateness and W outcomes SKIPPED,
and frames_skipped advances. Rests also on the model's own reading (notes/assumptions 19). (R41, R52, R53, R65, R75,
R167.) -/
def Obligations.FrameReadRefusedOrSkippedOnArrival : Prop :=
  ∀ (n : NodeId) (s : State) (rec : List Byte) (rest : List (List Byte)), s.heads n 9 rec rest →
    let i := recStream rec
    let h := i.handle
    let named := [fNat (i.handle.toNat + 256 * i.gen.toNat), fNat (recCookie rec).toNat, fNat (recArg rec 1)]
    let refused (status : FrameStatus) := exec (.frameRead n) s = .next ((s.taken n rest).frameDone n status
      (named ++ [none, fNat 0, none] ++ (fNat 0 :: List.replicate 8 none)))
    (s.named i = none ∨ (s.node n).state ≠ .attached → refused .refusedStream) ∧
    (∀ st, s.named i = some st → st.owner ≠ some n → refused .refusedStream) ∧
    (∀ st, s.named i = some st → (s.node n).state = .attached → st.owner = some n →
      let exts := recExtents rec (recExtentCount rec)
      let argsOk := recArg rec 1 ≤ 2147483647 ∧ recExtentCount rec = st.spans.length ∧
        exts.map Extent.span = (st.spans.map fun e => e.span.val) ∧ ∀ x ∈ exts, 1 ≤ x.count ∧ x.count ≤ st.share
      (st.state = .closing → refused .refusedState) ∧
      (st.state ≠ .closing → ¬ argsOk → refused .refusedArgs) ∧
      (st.state ≠ .closing → argsOk → (∃ kv ∈ s.frames, kv.2.stream = i ∧ kv.2.number = recArg rec 1) →
        refused .refusedDuplicate)) ∧
    (∀ st, s.readOk n rec st →
      (st.depth ≤ st.outstanding →
        ¬ (st.state = .scrubbing ∧ st.scrub = .every ∧ st.scrubList ≠ []) →
        refused .refusedDepth) ∧
      (∀ later v f, st.depth ≤ st.outstanding → st.state = .scrubbing → st.scrub = .every →
        st.scrubList = v :: later → s.frames.get v = some f →
        513 ≤ s.frames.length ∨ 2048 + (f.pieceRefs.filter s.waits).length < s.pieces.length + st.spans.length →
        refused .refusedPool) ∧
      (st.outstanding < st.depth → 512 ≤ s.frames.length ∨ 2048 < s.pieces.length + st.spans.length →
        refused .refusedPool) ∧
      (∀ a d, st.outstanding < st.depth → s.frames.length < 512 → s.pieces.length + st.spans.length ≤ 2048 →
        st.state = .playing → st.anchor = some a → st.playDeadline a (recArg rec 1) = some d → st.late = .skip →
        (d - s.time).toInt < 0 →
        exec (.frameRead n) s = .next (((s.taken n rest).modStream h fun st => { st with
            framesSkipped := if st.framesSkipped < 4294967295 then st.framesSkipped + 1 else st.framesSkipped }).frameDone
          n .lateSkipped (named ++ [fNat 0, fNat 1, fInt (s.time - d).toInt] ++
            (fNat st.spans.length :: (List.replicate st.spans.length (fNat 5) ++
              List.replicate (8 - st.spans.length) none))))))

/-- A read within depth and pools, not skipped on arrival, is accepted with the kind and deadline that the stream's state
and anchor give its number. At full depth in SCRUBBING under EVERY, where the oldest frame of the scrub list frees the
records needed, that frame is first withdrawn SUPERSEDED and the read is then accepted, if a span of it is UP and
reserved. If none is, it supersedes nothing: it is answered FAILED at once with W outcomes SPAN_LOST, frames_failed
advances and nothing else changes. What an acceptance does is said by the two statements that follow. Rests also on
the model's own reading (notes/assumptions 36). (R36, R42, R51, R52, R55, R72, R75, R81.) -/
def Obligations.FrameReadAcceptedWithItsKindAndDeadline : Prop :=
  ∀ (n : NodeId) (s : State) (rec : List Byte) (rest : List (List Byte)) (st : Stream), s.heads n 9 rec rest →
    s.readOk n rec st →
    (st.outstanding < st.depth → s.frames.length < 512 → s.pieces.length + st.spans.length ≤ 2048 →
      (∀ d, st.timing (recArg rec 1) = (.play, some d) → 0 ≤ (d - s.time).toInt ∨ st.late = .serve →
        exec (.frameRead n) s = .next ((s.taken n rest).acceptRead n rec st .play (some d))) ∧
      (∀ kind, st.timing (recArg rec 1) = (kind, none) →
        exec (.frameRead n) s = .next ((s.taken n rest).acceptRead n rec st kind none))) ∧
    (∀ (later : List Nat) (v : Nat) (f : Frame), st.depth ≤ st.outstanding → st.state = .scrubbing →
      st.scrub = .every → st.scrubList = v :: later → s.frames.get v = some f → s.frames.length < 513 →
      s.pieces.length + st.spans.length ≤ 2048 + (f.pieceRefs.filter s.waits).length →
      let h := (recStream rec).handle
      let ok (e : SpanEntry) : Bool := decide ((s.span e.span).service.link = .up) &&
        st.spans.any fun x => decide (x.span = e.span) && x.reserved
      ((∃ e ∈ st.spans, ok e = true) → exec (.frameRead n) s = .next
        (((s.taken n rest).withdrawFrame .superseded v).acceptRead n rec st .scrub none)) ∧
      ((∀ e ∈ st.spans, ok e = false) → exec (.frameRead n) s = .next (((s.taken n rest).modStream h fun st => { st with
          framesFailed := if st.framesFailed < 4294967295 then st.framesFailed + 1 else st.framesFailed }).frameDone n .failed
        ([fNat (h.toNat + 256 * (recStream rec).gen.toNat), fNat (recCookie rec).toNat, fNat (recArg rec 1), fNat 2, fNat 0,
          none] ++ (fNat st.spans.length :: (List.replicate st.spans.length (fNat 3) ++
            List.replicate (8 - st.spans.length) none))))))

/-- For a PLAY or PARK read the lowest free frame record and the W lowest free piece records are taken. Each position
whose span is UP and reserved becomes a QUEUED piece of the next arrival sequence, in stripe order, in its span's
deadline list (with a deadline) or background list (without) before the first piece there that stands after it, and
starts a selection; both timers of a queue whose deadline list it entered are armed anew, and no other; each other
position is finished SPAN_LOST and its piece record is free again. Outstanding rises by one and nothing else of the
part changes. When no position can be placed a frame of any kind finishes at once FAILED: no record stays in use,
frames_failed advances, the FRAME_DONE is written, and of the scrub list no number but that of the record it had
taken, free before and after, is removed. (The premise that a listed piece is a record in use is part of an invariant
that every step keeps.) Rests also on the model's own readings (notes/assumptions 29, 40 and 43). (R43, R47, R49, R51,
R55, R56, R57, R58, R62, R84, R85, R96.) -/
def Obligations.AcceptedFrameIsSplitIntoItsQueues : Prop :=
  ∀ (n : NodeId) (s : State) (rec : List Byte) (st cur : Stream) (kind : FrameKind) (deadline : Option Time),
    s.frames.sorted → s.pieces.sorted → s.stream (recStream rec).handle = some cur →
    cur.spans = st.spans → st.spans ≠ [] → recExtentCount rec = st.spans.length → (s.node n).state = .attached →
    (∀ j, ∀ q ∈ s.queued j, s.pieces.get q ≠ none) →
    let h := (recStream rec).handle
    let t := s.acceptRead n rec st kind deadline
    let exts := recExtents rec (recExtentCount rec)
    let ok (e : SpanEntry) : Bool := decide ((s.span e.span).service.link = .up) &&
      st.spans.any fun x => decide (x.span = e.span) && x.reserved
    ((t.pending = s.pending ∧ t.time = s.time ∧ t.gens = s.gens ∧ t.config = s.config ∧
        t.defaultSettle = s.defaultSettle ∧ t.orphanGrace = s.orphanGrace ∧ t.deadlineUnit = s.deadlineUnit) ∧
      ∀ j, (t.span j).arbiter = (s.span j).arbiter ∧ (t.span j).service = (s.span j).service ∧
        (t.span j).monitor = (s.span j).monitor ∧ (t.span j).budget = (s.span j).budget) ∧
    (kind ≠ .scrub → (∃ e ∈ st.spans, ok e = true) → ∃ (i : Nat) (ps : List Nat),
      s.frames.lowestIs i ∧ s.pieces.lowestAre ps ∧ ps.length = st.spans.length ∧
      (let placed := ((ps.zip st.spans).filter fun x => ok x.2)
       t.frames = s.frames.put i {
          stream := recStream rec, node := n, epoch := (s.node n).epoch, cookie := recCookie rec,
          number := recArg rec 1, kind := kind, deadline := deadline, cancel := none, accepted := s.time,
          positions := (ps.zip st.spans).map fun x => if ok x.2 then .piece x.1 else .finished .spanLost } ∧
       (∀ q, q ∉ ps → t.pieces.get q = s.pieces.get q) ∧
       (∀ k p e x, ps[k]? = some p → st.spans[k]? = some e → exts[k]? = some x →
          t.pieces.get p = if ok e then some {
              frame := i, position := k, span := e.span, start := x.start, count := x.count, token := x.token,
              state := .queued, seq := some (s.arrival + BitVec.ofNat 32 ((st.spans.take k).filter ok).length) }
            else none) ∧
       t.arrival = s.arrival + BitVec.ofNat 32 (st.spans.filter ok).length ∧
       t.streams = s.streams.modify h.toNat (fun st => { st with outstanding := st.outstanding + 1 }) ∧
       t.nodes = s.nodes ∧ t.reports = s.reports ++ placed.map (fun x => .select x.2.span) ∧
       (∀ j, let mine := (placed.zipIdx.filter fun x => decide (x.1.2.span = j)).map fun x =>
            (x.1.1, s.arrival + BitVec.ofNat 32 x.2)
          (∀ d, deadline = some d →
            (t.span j).queue.deadlines = mine.foldl (fun l x => insertBefore (t.standsAfter d x.2) x.1 l)
              (s.span j).queue.deadlines ∧
            (t.span j).queue.background = (s.span j).queue.background ∧
            (mine ≠ [] → (t.span j).queue.deadlineTimer = t.deadlineArm j ∧
              (t.span j).queue.windowTimer = t.windowRearmed j (s.span j).queue.windowTimer) ∧
            (mine = [] → (t.span j).queue = (s.span j).queue)) ∧
          (deadline = none → (t.span j).queue = { (s.span j).queue with
            background := mine.foldl (fun l x => insertBefore (t.newerThan x.2) x.1 l) (s.span j).queue.background })))) ∧
    ((∀ e ∈ st.spans, ok e = false) →
      let lateness := deadline.map fun d => (s.time - d).toInt
      let late := match lateness with
        | none => false
        | some l => decide (0 < l)
      (t.frames = s.frames ∧ t.pieces = s.pieces ∧ t.arrival = s.arrival ∧ t.reports = s.reports ∧
        ∀ j, (t.span j).queue = (s.span j).queue) ∧
      (∃ gone, s.frames.lowestIs gone ∧ t.streams = s.streams.modify h.toNat (fun st => { st with
        framesFailed := if st.framesFailed < 4294967295 then st.framesFailed + 1 else st.framesFailed,
        scrubList := st.scrubList.erase gone })) ∧
      t.nodes = (s.frameDone n .failed
        ([fNat (h.toNat + 256 * (recStream rec).gen.toNat), fNat (recCookie rec).toNat, fNat (recArg rec 1),
          fNat kind.code, fBool late, fOpt fInt lateness] ++ (fNat st.spans.length ::
          (List.replicate st.spans.length (fNat 3) ++ List.replicate (8 - st.spans.length) none)))).nodes)

/-- With at least one position whose span is UP and reserved, the accepted SCRUB frame has no deadline; those positions'
pieces are HELD without arrival sequence and enter no queue, the others are finished SPAN_LOST; outstanding rises by
one and the frame is appended to the scrub list. Under LAST_WINS every older frame of the list is then withdrawn
SUPERSEDED, oldest first. With a settle interval above 0 the timer is restarted for that interval; with 0 the frame is
released at once. (R55, R57, R71, R72, R74, R77.) -/
def Obligations.ScrubFrameEntersTheSettleHold : Prop :=
  ∀ (n : NodeId) (s : State) (rec : List Byte) (st cur : Stream), s.frames.sorted → s.pieces.sorted →
    s.stream (recStream rec).handle = some cur → cur.spans = st.spans → recExtentCount rec = st.spans.length →
    let h := (recStream rec).handle
    let exts := recExtents rec (recExtentCount rec)
    let ok (e : SpanEntry) : Bool := decide ((s.span e.span).service.link = .up) &&
      st.spans.any fun x => decide (x.span = e.span) && x.reserved
    (∃ e ∈ st.spans, ok e = true) → ∃ (i : Nat) (ps : List Nat) (pool : Pool Piece),
      s.frames.lowestIs i ∧ s.pieces.lowestAre ps ∧ ps.length = st.spans.length ∧
      (∀ q, q ∉ ps → pool.get q = s.pieces.get q) ∧
      (∀ k p e x, ps[k]? = some p → st.spans[k]? = some e → exts[k]? = some x →
        pool.get p = if ok e then some {
            frame := i, position := k, span := e.span, start := x.start, count := x.count, token := x.token,
            state := .held, seq := none }
          else none) ∧
      (let held : State := { s with
          frames := s.frames.put i {
            stream := recStream rec, node := n, epoch := (s.node n).epoch, cookie := recCookie rec,
            number := recArg rec 1, kind := .scrub, deadline := none, cancel := none, accepted := s.time,
            positions := (ps.zip st.spans).map fun x => if ok x.2 then .piece x.1 else .finished .spanLost },
          pieces := pool,
          streams := s.streams.modify h.toNat fun st => { st with
            outstanding := st.outstanding + 1, scrubList := st.scrubList ++ [i] } }
       let entered := if st.scrub = .lastWins then cur.scrubList.foldl (State.withdrawFrame .superseded) held else held
       s.acceptRead n rec st .scrub none =
         if st.settle = 0 then entered.releaseFrame i
         else entered.modStream h fun x => { x with
           settleExpiry := some (s.time + BitVec.ofNat 48 (st.settle * 1000)) })

/-- PIECE_OUTCOME consumes its report, and the Frame Table takes the outcome: it stands at the piece's position and the
piece record is free. With another piece unfinished nothing else changes. Otherwise the frame finishes: its record is
free, outstanding falls by one, it leaves the scrub list, the counter of its status advances, and the FRAME_DONE with
status, late indicator, lateness and outcomes is written to its node if that is ATTACHED with the frame's epoch, and
dropped otherwise. The status is that of the cancel reason; else OK when every outcome is OK, FAILED when none is,
PARTIAL otherwise. An outcome of a piece no longer in use changes nothing. The same finish and the same taking serve
acceptance, release and the loss of a queue. (R46, R60, R62, R63, R64, R65, R66, R67, R73.) -/
def Obligations.PieceOutcomeIsRecordedAndFinishesItsFrame : Prop :=
  let finished (u : State) (i : Nat) (g : Frame) : State :=
      let lateness := g.deadline.map fun d => (u.time - d).toInt
      let late := match lateness with
        | none => false
        | some l => decide (0 < l)
      let status : FrameStatus := match g.cancel with
        | some .cancelled => .cancelled
        | some .superseded => .superseded
        | some .skipped => .lateSkipped
        | none => if ∀ x ∈ g.outcomes, x = .ok then .ok else if ∀ x ∈ g.outcomes, x ≠ .ok then .failed else .partialOk
      let body := [fNat (g.stream.handle.toNat + 256 * g.stream.gen.toNat), fNat g.cookie.toNat, fNat g.number,
          fNat g.kind.code, fBool late, fOpt fInt lateness] ++ eightFields (g.outcomes.map PieceOutcome.code)
      let up (c : Bool) (v : Nat) := if c = true ∧ v < 4294967295 then v + 1 else v
      let told := if (u.node g.node).state = .attached ∧ (u.node g.node).epoch = g.epoch then u.frameDone g.node status body
        else u
      { told with
        frames := u.frames.free i,
        streams := u.streams.modify g.stream.handle.toNat fun st => { st with
          outstanding := st.outstanding - 1, scrubList := st.scrubList.erase i,
          framesOk := up (decide (status = .ok)) st.framesOk,
          framesLate := up (decide (status = .ok) && late) st.framesLate,
          framesSkipped := up (decide (status = .lateSkipped)) st.framesSkipped,
          framesFailed := up (decide (status = .failed) || decide (status = .partialOk)) st.framesFailed } }
  (∀ (u : State) (i : Nat) (g : Frame), u.finishFrame i g = finished u i g) ∧
  (∀ (u : State) (p : Nat) (o : PieceOutcome),
    (u.pieces.get p = none → u.takeOutcome p o = u) ∧
    (∀ pc f, u.pieces.get p = some pc → u.refersBack pc.frame f → f.positions[pc.position]? = some (.piece p) →
      let g : Frame := { f with positions := f.positions.set pc.position (.finished o) }
      (g.pieceRefs ≠ [] → u.takeOutcome p o = { u with
        pieces := u.pieces.free p, frames := u.frames.modify pc.frame fun _ => g }) ∧
      (g.pieceRefs = [] →
        u.takeOutcome p o = finished { u with pieces := u.pieces.free p } pc.frame g))) ∧
  (∀ (s : State) (p : Nat) (o : PieceOutcome) (before after : List Report),
    s.offers (fun | .outcome q _ => decide (q = p) | _ => false) (.outcome p o) before after →
    exec (.pieceOutcome p) s = .next ({ s with reports := before ++ after }.takeOutcome p o))

/-- The status of a frame whose every position is finished is CANCELLED, SUPERSEDED or LATE_SKIPPED by its cancel reason,
whatever its outcomes; without one it is OK when every outcome is OK, otherwise FAILED when no outcome is OK,
otherwise PARTIAL. The deadline and the time do not enter into it. It is the status that an accepted frame's
FRAME_DONE carries. (R63.) -/
def Obligations.FrameStatusIsTheFirstThatApplies : Prop :=
  (∀ (f : Frame) (outcomes : List PieceOutcome), f.positions = outcomes.map Position.finished →
      (f.cancel = some .cancelled → f.status = .cancelled) ∧
      (f.cancel = some .superseded → f.status = .superseded) ∧
      (f.cancel = some .skipped → f.status = .lateSkipped) ∧
      (f.cancel = none →
        ((∀ o ∈ outcomes, o = .ok) → f.status = .ok) ∧
        ((∃ o ∈ outcomes, o ≠ .ok) → (∀ o ∈ outcomes, o ≠ .ok) → f.status = .failed) ∧
        ((∃ o ∈ outcomes, o ≠ .ok) → (∃ o ∈ outcomes, o = .ok) → f.status = .partialOk)) ∧
      ∀ (d : Option Time) (a : Time), { f with deadline := d, accepted := a }.status = f.status) ∧
  (∀ (s : State) (i : Nat) (f : Frame), (s.node f.node).state = .attached → (s.node f.node).epoch = f.epoch →
      ∃ body, ((s.finishFrame i f).node f.node).events = (s.node f.node).events ++ [{
        tag := .frameDone f.status, command := 9, epoch := f.epoch, time := s.time, body := body }])

/-- CANCEL_UNDISPATCHED withdraws CANCELLED, in record order, every frame of the stream id, node and epoch of the report.
LATE_REPORT of a frame still in use: under late policy SKIP the frame is withdrawn SKIPPED, under SERVE nothing
changes; of a record that no longer holds that frame nothing changes. The report is consumed in each case. What a
withdrawal does is said by the next statement. Rests also on the model's own readings (notes/assumptions 9, 10 and
13). (R32, R43, R44, R45, R148, R158.) -/
def Obligations.OwedCancellationsAndLateReports : Prop :=
  (∀ (s : State) (i : StreamId) (n : NodeId) (e : Epoch) (before after : List Report),
      s.offers (fun | .cancel k _ _ => decide (k.handle = i.handle) | _ => false) (.cancel i n e) before after →
      exec (.cancelUndispatched i.handle) s = .next
        ((s.frames.numbersOf fun f => decide (f.stream = i) && decide (f.node = n) && decide (f.epoch = e)).foldl
          (State.withdrawFrame .cancelled) { s with reports := before ++ after })) ∧
  (∀ (s : State) (j : SpanId) (l : LateFrame) (before after : List Report),
      s.offers (fun | .late k _ => decide (k = j) | _ => false) (.late j l) before after →
      let u : State := { s with reports := before ++ after }
      (∀ f st, s.frames.get l.record = some f →
        f.stream = l.stream ∧ f.number = l.number ∧ f.accepted = l.accepted → s.stream f.stream.handle = some st →
        (st.late = .skip → exec (.lateReport j) s = .next (u.withdrawFrame .skipped l.record)) ∧
        (st.late = .serve → exec (.lateReport j) s = .next u)) ∧
      ((∀ f, s.frames.get l.record = some f →
          ¬ (f.stream = l.stream ∧ f.number = l.number ∧ f.accepted = l.accepted)) →
        exec (.lateReport j) s = .next u))

/-- A frame with a cancel reason, or without a waiting piece, is left as it is. Otherwise it leaves its stream's scrub
list and every waiting piece's record is free. With a piece still in service, the frame keeps its record with the
reason and, at each position whose piece waited, the matching outcome; nothing is answered or counted. With none it
finishes at once: its record is free, outstanding falls by one, frames_skipped advances for SKIPPED and no counter
otherwise, and the FRAME_DONE of the reason's status, with its late indicator, its lateness against its deadline where
it has one and its outcomes, is written to its node if that is ATTACHED with the frame's epoch and dropped otherwise.
Each QUEUED piece removed starts a selection at its span, in stripe order. Where every piece has its place (an
invariant that every step keeps) each span's lists lose the frame's pieces and keep the rest in order, and both timers
are armed anew where the deadline list lost one and stay where it lost none. Nothing else changes. The number of
frames that a cancellation of a stream counts is the number of its frames without a reason and with a waiting piece.
Rests also on the model's own readings (notes/assumptions 40 and 43). (R32, R43, R46, R61, R62, R63, R65, R66, R73,
R78, R86, R96.) -/
def Obligations.WithdrawalTakesEveryWaitingPieceOfAFrame : Prop :=
  (∀ (reason : CancelReason) (s : State) (i : Nat) (f : Frame), s.refersBack i f →
      let t := s.withdrawFrame reason i
      let outcomes : List Position := f.positions.map fun x => match x with
        | .piece p => if s.waits p then .finished reason.outcome else .piece p
        | .finished o => .finished o
      let removed := f.pieceRefs.filter s.waits
      (f.cancel ≠ none ∨ (∀ p ∈ f.pieceRefs, s.waits p = false) → t = s) ∧
      (f.cancel = none → (∃ p ∈ f.pieceRefs, s.waits p = true) →
        ((∃ p ∈ f.pieceRefs, s.waits p = false) →
          t.frames.get i = some { f with cancel := some reason, positions := outcomes } ∧ t.nodes = s.nodes ∧
          t.streams = s.streams.modify f.stream.handle.toNat fun st => { st with
            scrubList := st.scrubList.erase i }) ∧
        ((∀ p ∈ f.pieceRefs, s.waits p = true) →
          let lateness := f.deadline.map fun d => (s.time - d).toInt
          let late := match lateness with
            | none => false
            | some l => decide (0 < l)
          let status : FrameStatus := match reason with
            | .cancelled => .cancelled
            | .superseded => .superseded
            | .skipped => .lateSkipped
          t.frames.get i = none ∧
          ((s.node f.node).state = .attached → (s.node f.node).epoch = f.epoch →
            t.nodes = (s.frameDone f.node status
              ([fNat (f.stream.handle.toNat + 256 * f.stream.gen.toNat), fNat f.cookie.toNat, fNat f.number,
                fNat f.kind.code, fBool late, fOpt fInt lateness] ++ eightFields (outcomes.filterMap fun x => match x with
                  | .finished o => some o.code
                  | .piece _ => none))).nodes) ∧
          ((s.node f.node).state ≠ .attached ∨ (s.node f.node).epoch ≠ f.epoch → t.nodes = s.nodes) ∧
          t.streams = s.streams.modify f.stream.handle.toNat fun st => { st with
            outstanding := st.outstanding - 1, scrubList := (st.scrubList.erase i).erase i,
            framesSkipped := if reason = .skipped ∧ st.framesSkipped < 4294967295 then st.framesSkipped + 1
              else st.framesSkipped }) ∧
        (∀ p ∈ f.pieceRefs, t.pieces.get p = if s.waits p then none else s.pieces.get p) ∧
        (∀ q, q ∉ f.pieceRefs → t.pieces.get q = s.pieces.get q) ∧
        (∀ k, k ≠ i → t.frames.get k = s.frames.get k) ∧
        t.reports = s.reports ++ removed.filterMap (fun p => match s.pieces.get p with
          | none => none
          | some pc => if pc.state = .queued then some (.select pc.span) else none) ∧
        (t.pending = s.pending ∧ t.time = s.time ∧ t.gens = s.gens ∧ t.arrival = s.arrival ∧ t.config = s.config ∧
          t.defaultSettle = s.defaultSettle ∧ t.orphanGrace = s.orphanGrace ∧ t.deadlineUnit = s.deadlineUnit) ∧
        ∀ j, ((t.span j).arbiter = (s.span j).arbiter ∧ (t.span j).service = (s.span j).service ∧
            (t.span j).monitor = (s.span j).monitor ∧ (t.span j).budget = (s.span j).budget) ∧
          (s.piecesOk →
            (t.span j).queue.deadlines = (s.span j).queue.deadlines.filter (fun q => decide (q ∉ removed)) ∧
            (t.span j).queue.background = (s.span j).queue.background.filter (fun q => decide (q ∉ removed)) ∧
            ((∃ q ∈ (s.span j).queue.deadlines, q ∈ removed) →
              (t.span j).queue.deadlineTimer = t.deadlineArm j ∧
              (t.span j).queue.windowTimer = t.windowRearmed j (s.span j).queue.windowTimer) ∧
            ((∀ q ∈ (s.span j).queue.deadlines, q ∉ removed) →
              (t.span j).queue.deadlineTimer = (s.span j).queue.deadlineTimer ∧
              (t.span j).queue.windowTimer = (s.span j).queue.windowTimer)))) ∧
  (∀ (s : State) (i : StreamId), s.frames.sorted → s.cancelCount i =
      (s.frames.filter fun kv => decide (kv.2.stream = i) && kv.2.cancel.isNone && kv.2.pieceRefs.any s.waits).length)

/-- At its expiry the timer is idle and the frames of the scrub list are released in its order, and the list is kept. A
frame with no HELD piece is left as it is. A release of any other gives it the deadline of the time base plus the
scrub target, modulo 2^48. In stripe order each HELD piece whose span is UP and reserved enters its span's deadline
list with the next arrival sequence, before the first piece there that stands after it, starts a selection and arms
both timers anew; each other is finished SPAN_LOST at its position and its record is free. A frame with a piece left
keeps its record, and no stream or node port changes; one with none left finishes at once. Nothing else changes. (The
premise that a listed piece is not HELD is part of an invariant that every step keeps.) Rests also on the model's own
readings (notes/assumptions 29, 40 and 43). (R38, R43, R57, R58, R62, R76, R77, R84, R85, R96.) -/
def Obligations.SettleExpiryReleasesHeldFrames : Prop :=
  (∀ (h : Handle) (s : State) (st : Stream) (t : Time), s.stream h = some st → st.settleExpiry = some t →
      0 ≤ timeDiff s.time t →
      exec (.settleTimerExpiry h) s = .next (st.scrubList.foldl State.releaseFrame
        (s.modStream h fun st => { st with settleExpiry := none }))) ∧
  (∀ (s : State) (i : Nat) (f : Frame), s.refersBack i f →
      (∀ j, ∀ q ∈ s.queued j, s.pieceState q ≠ some .held) →
      let t := s.releaseFrame i
      let held := f.pieceRefs.filter fun p => decide (s.pieceState p = some .held)
      let spanOk (p : Nat) : Bool := match s.pieces.get p with
        | none => false
        | some pc => decide ((s.span pc.span).service.link = .up) && (match s.stream f.stream.handle with
          | none => false
          | some st => st.spans.any fun e => decide (e.span = pc.span) && e.reserved)
      let placed := (held.filter spanOk).zipIdx
      let d := s.time + BitVec.ofNat 48 s.deadlineUnit.scrubTarget
      let g : Frame := { f with
        deadline := some d,
        positions := f.positions.map fun x => match x with
          | .piece p => if p ∈ held ∧ spanOk p = false then .finished .spanLost else .piece p
          | .finished o => .finished o }
      (held = [] → t = s) ∧
      (held ≠ [] →
        (g.pieceRefs ≠ [] → t.frames.get i = some g ∧ t.streams = s.streams ∧ t.nodes = s.nodes) ∧
        (g.pieceRefs = [] → t.frames.get i = none ∧ t.streams = (s.finishFrame i g).streams ∧
          t.nodes = (s.finishFrame i g).nodes) ∧
        (∀ p ∈ held, spanOk p = false → t.pieces.get p = none) ∧
        (∀ x ∈ placed, ∀ pc, s.pieces.get x.1 = some pc →
          t.pieces.get x.1 = some { pc with state := .queued, seq := some (s.arrival + BitVec.ofNat 32 x.2) }) ∧
        (∀ q, q ∉ held → t.pieces.get q = s.pieces.get q) ∧ (∀ k, k ≠ i → t.frames.get k = s.frames.get k) ∧
        t.arrival = s.arrival + BitVec.ofNat 32 placed.length ∧
        t.reports = s.reports ++ placed.filterMap (fun x => (s.pieces.get x.1).map fun pc => .select pc.span) ∧
        (t.pending = s.pending ∧ t.time = s.time ∧ t.gens = s.gens ∧ t.config = s.config ∧
          t.defaultSettle = s.defaultSettle ∧ t.orphanGrace = s.orphanGrace ∧ t.deadlineUnit = s.deadlineUnit) ∧
        ∀ j, let mine := placed.filter fun x => match s.pieces.get x.1 with
            | none => false
            | some pc => decide (pc.span = j)
          ((t.span j).arbiter = (s.span j).arbiter ∧ (t.span j).service = (s.span j).service ∧
            (t.span j).monitor = (s.span j).monitor ∧ (t.span j).budget = (s.span j).budget) ∧
          (t.span j).queue.deadlines = mine.foldl (fun l x =>
            insertBefore (t.standsAfter d (s.arrival + BitVec.ofNat 32 x.2)) x.1 l) (s.span j).queue.deadlines ∧
          (t.span j).queue.background = (s.span j).queue.background ∧
          (mine ≠ [] → (t.span j).queue.deadlineTimer = t.deadlineArm j ∧
            (t.span j).queue.windowTimer = t.windowRearmed j (s.span j).queue.windowTimer) ∧
          (mine = [] → (t.span j).queue = (s.span j).queue)))

/-- The deadline-expiry timer is armed for a deadline of the list with slack 0 or more that no other such is earlier than,
and is idle when there is none; the window-opening timer for a future time at which a piece of the list enters AHEAD
or DUE that no other such precedes, and is idle when there is none. DEADLINE_EXPIRY, when the time base passes the
deadline, reports the frame of each piece of the list at or before it, in list order, and re-arms.
WINDOW_OPENING_EXPIRY re-arms and starts a selection. Neither changes a piece or a list. When the list or the bounds
change, a window-opening timer whose time has been reached and is still a crossing of a piece of the list keeps it,
and any other is armed anew; so the expiry, taken after a piece's entry, or after the leaving of a piece that leaves
one crossing at that time, starts its own selection. Rests also on the model's own readings (notes/assumptions 13, 40,
43 and 44). (R43, R84, R96, R97, R103.) -/
def Obligations.QueueTimersArmForTheEarliestAndExpire : Prop :=
  (∀ (s : State) (j : SpanId),
      let ds := s.listDeadlines j
      let a := (s.span j).arbiter
      let ts := ds.flatMap fun d => [d - BitVec.ofNat 48 a.lookahead, d - BitVec.ofNat 48 a.due]
      (∀ d, s.deadlineArm j = some d → d ∈ ds ∧ 0 ≤ timeDiff d s.time ∧
        ∀ e ∈ ds, 0 ≤ timeDiff e s.time → timeDiff d s.time ≤ timeDiff e s.time) ∧
      (s.deadlineArm j = none ↔ ∀ e ∈ ds, timeDiff e s.time < 0) ∧
      (∀ d, s.windowArm j = some d → d ∈ ts ∧ 0 < timeDiff d s.time ∧
        ∀ e ∈ ts, 0 < timeDiff e s.time → timeDiff d s.time ≤ timeDiff e s.time) ∧
      (s.windowArm j = none ↔ ∀ e ∈ ts, timeDiff e s.time ≤ 0) ∧
      (∀ t, 0 ≤ timeDiff s.time t → t ∈ ts → s.windowRearmed j (some t) = some t) ∧
      (∀ r, (∀ t, r = some t → timeDiff s.time t < 0 ∨ t ∉ ts) → s.windowRearmed j r = s.windowArm j)) ∧
  (∀ (s : State) (j : SpanId) (d : Time), (s.span j).queue.deadlineTimer = some d → 0 < timeDiff s.time d →
      exec (.deadlineExpiry j) s = .next { s.modQueue j fun q => { q with deadlineTimer := s.deadlineArm j } with
        reports := s.reports ++ (s.span j).queue.deadlines.filterMap fun p =>
          match s.pieces.get p with
          | none => none
          | some pc => match s.frames.get pc.frame with
            | none => none
            | some f => match f.deadline with
              | none => none
              | some e => if timeDiff e d ≤ 0 then some (.late j {
                  record := pc.frame, stream := f.stream, number := f.number, accepted := f.accepted }) else none }) ∧
  (∀ (s : State) (j : SpanId) (t : Time), (s.span j).queue.windowTimer = some t → 0 ≤ timeDiff s.time t →
      exec (.windowOpeningExpiry j) s = .next { s.modQueue j fun q => { q with windowTimer := s.windowArm j } with
        reports := s.reports ++ [.select j] }) ∧
  (∀ (s : State) (j : SpanId) (p : Nat) (pc : Piece) (t : Time), (s.span j).queue.windowTimer = some t →
      0 ≤ timeDiff s.time t →
      let crosses (l : List Nat) : Prop := ∃ q ∈ l, ∃ d, s.deadlineOf q = some d ∧
        (t = d - BitVec.ofNat 48 (s.span j).arbiter.lookahead ∨ t = d - BitVec.ofNat 48 (s.span j).arbiter.due)
      (s.pieces.get p = some pc → pc.span = j → crosses (s.span j).queue.deadlines →
        ∃ u, exec (.windowOpeningExpiry j) (s.enqueue p pc) = .next u ∧
          u.reports = s.reports ++ [.select j, .select j]) ∧
      (crosses ((s.span j).queue.deadlines.erase p) →
        ∃ u, exec (.windowOpeningExpiry j) (s.unlist j p) = .next u ∧ u.reports = s.reports ++ [.select j]))

/-- SELECTION begins one selection while the link is UP and none otherwise. MASK_WRITE that changes the mask writes it and
begins a selection likewise; one that leaves it changes nothing. QUEUE_SPAN_LOSS empties both lists, idles both
timers, and in the same event has the Frame Table take SPAN_LOST for every piece, deadline list first, each list in
its order; where there was a piece it starts a selection. What the taking of an outcome does is said by the statement
of PIECE_OUTCOME. The report is consumed in each case. Rests also on the model's own readings (notes/assumptions 11,
14 and 25). (R50, R60, R86, R89, R98, R99.) -/
def Obligations.ArbiterAndQueueTakeTheirReports : Prop :=
  ∀ (s : State) (j : SpanId) (before after : List Report),
    let u : State := { s with reports := before ++ after }
    let begun (v : State) := if (s.span j).service.link = .up then
        v.modArbiter j fun a => { a with selections := a.selections + 1 } else v
    let lost := (s.span j).queue.deadlines ++ (s.span j).queue.background
    (s.offers (fun | .select k => decide (k = j) | _ => false) (.select j) before after →
      exec (.selection j) s = .next (begun u)) ∧
    (∀ m, s.offers (fun | .mask k _ => decide (k = j) | _ => false) (.mask j m) before after →
      exec (.maskWrite j) s = .next (if (s.span j).arbiter.masked = m then u
        else begun (u.modArbiter j fun a => { a with masked := m }))) ∧
    (s.offers (fun | .queueLoss k => decide (k = j) | _ => false) (.queueLoss j) before after →
      let taken := lost.foldl (fun w p => w.takeOutcome p .spanLost) (u.modQueue j fun _ =>
        { deadlines := [], background := [], deadlineTimer := none, windowTimer := none })
      exec (.queueSpanLoss j) s = .next { taken with
        reports := before ++ after ++ (if lost = [] then [] else [.select j]) })

/-- With a selection in progress and the link UP: the piece chosen leaves its list, the pointer of its kind moves as the
choice says, the piece is IN_SERVICE, the lowest-numbered FREE slot is BUSY with it, the time base as dispatch time
and the expiry at the command timeout, READ_EXTENT goes out with the slot's tag and the piece's extent, and the
piece's frame leaves its stream's scrub list. When nothing is eligible, or the link is not UP, the selection ends.
Rests also on the model's own reading (notes/assumptions 14). (R58, R73, R86, R90, R93, R94, R105, R106, R107.) -/
def Obligations.DispatchMovesTheChosenPieceIntoASlot : Prop :=
  ∀ (s : State) (j : SpanId), (s.span j).arbiter.selections ≠ 0 →
    let ended := s.modArbiter j fun a => { a with selections := a.selections - 1 }
    ((s.span j).service.link ≠ .up ∨ s.choose j = none → exec (.dispatch j) s = .next ended) ∧
    (∀ (c : Choice) (k : SlotId) (pc : Piece) (f : Frame), (s.span j).service.link = .up → s.choose j = some c →
      (s.span j).service.slots[k].state = .free → (∀ i < k, (s.span j).service.slots[i].state ≠ .free) →
      s.pieces.get c.piece = some pc → s.frames.get pc.frame = some f →
      let w := (s.span j).service.slots[k]
      let off := s.unlist j c.piece
      exec (.dispatch j) s = .next { off with
        pieces := s.pieces.modify c.piece fun pc => { pc with state := .inService },
        streams := s.streams.modify f.stream.handle.toNat fun st => { st with
          scrubList := st.scrubList.erase pc.frame },
        spans := off.spans.set j { off.span j with
          arbiter := (match c with
            | .deadline _ r => { (s.span j).arbiter with rotation := r }
            | .background _ h => { (s.span j).arbiter with backgroundPtr := h }),
          service := { (s.span j).service with
            slots := (s.span j).service.slots.set k { w with
              state := .busy c.piece s.time
                (s.time + BitVec.ofNat 48 ((s.span j).service.commandTimeout * 1000)) },
            sent := (s.span j).service.sent ++ [.readExtent k w.gen pc.count pc.start pc.token] } } })

/-- The pieces unmasked are those of the deadline list, in its order, with their frame's deadline, the class of it now and
their frame's node, without the AHEAD ones while the mask is set; occ is the number of slots not FREE. A deadline
piece chosen is unmasked, of class LATE, URGENT or DUE with occ < D, or AHEAD with occ + 1 < D (or D = 1 and occ = 0),
and has the deadline of the first unmasked piece. With ties, its node is the first after the rotation pointer that has
a tied piece, it is that node's first, and the pointer moves to that node; alone, the pointer stays. Whenever the
first unmasked piece is of such a class and its gate is open, a deadline piece is chosen. A background piece is chosen
only when the mask is clear, occ < B (or B = 0 and occ = 0), and there is no unmasked piece or the first is FUTURE;
its stream's handle is the first after the background pointer that has one, and it is that stream's first in the list.
Whenever that holds and the background list has a piece of a frame, one is chosen. (R90, R91, R92, R93, R94, R98,
R105.) -/
def Obligations.DispatchChoiceFollowsGatesAndTurns : Prop :=
  ∀ (s : State) (j : SpanId),
    let a := (s.span j).arbiter
    let occ := (allSpans.filter fun k => decide ((s.span j).service.slots[k].state ≠ .free)).length
    let unmasked : List Waiting := ((s.span j).queue.deadlines.filterMap fun p => match s.pieces.get p with
      | none => none
      | some pc => match s.frames.get pc.frame with
        | none => none
        | some f => f.deadline.map fun d =>
            { piece := p, deadline := d, cls := a.classOf s.time d, node := f.node }).filter fun w =>
      !(a.masked && decide (w.cls = .ahead))
    let handleOf (p : Nat) : Option Handle := match s.pieces.get p with
      | none => none
      | some pc => (s.frames.get pc.frame).map fun f => f.stream.handle
    let opens (k : Urgency) : Prop :=
      ((k = .late ∨ k = .urgent ∨ k = .due) ∧ occ < a.depth) ∨
      (k = .ahead ∧ (occ + 1 < a.depth ∨ (a.depth = 1 ∧ occ = 0)))
    let turn : Prop := a.masked = false ∧ (occ < a.backgroundShare ∨ (a.backgroundShare = 0 ∧ occ = 0)) ∧
      ∀ first rest, unmasked = first :: rest → first.cls = .future
    (∀ p r, s.choose j = some (.deadline p r) → ∃ (w : Waiting) (first : Waiting) (rest : List Waiting),
      unmasked = first :: rest ∧ w ∈ unmasked ∧ w.piece = p ∧ p ∈ (s.span j).queue.deadlines ∧
      w.deadline = first.deadline ∧ ¬ (a.masked = true ∧ w.cls = .ahead) ∧ opens w.cls ∧
      (let ties := unmasked.filter fun x => decide (x.deadline = first.deadline)
       (ties.length = 1 → r = a.rotation) ∧
       (2 ≤ ties.length → r = w.node ∧
         (∀ x ∈ ties, ((w.node - a.rotation - 1 : NodeId) : Nat) ≤ ((x.node - a.rotation - 1 : NodeId) : Nat)) ∧
         (ties.filter fun x => decide (x.node = w.node)).head? = some w))) ∧
    (∀ first rest, unmasked = first :: rest → opens first.cls → ∃ p r, s.choose j = some (.deadline p r)) ∧
    (∀ p h, s.choose j = some (.background p h) → p ∈ (s.span j).queue.background ∧ handleOf p = some h ∧ turn ∧
      (∀ q g, q ∈ (s.span j).queue.background → handleOf q = some g →
        (h - a.backgroundPtr - 1).toNat ≤ (g - a.backgroundPtr - 1).toNat) ∧
      ((s.span j).queue.background.filter fun q => decide (handleOf q = some h)).head? = some p) ∧
    (turn → (∃ q ∈ (s.span j).queue.background, handleOf q ≠ none) → ∃ p h, s.choose j = some (.background p h))

/-- Entering, a piece becomes QUEUED with the next arrival sequence and a selection starts at its span. In the deadline
list, where its frame has a deadline, it stands before the first piece of a later deadline or of an equal one and a
newer sequence, and both timers are armed anew; in the background list, where it has none, before the first piece of a
newer sequence, and the timers stay. Where the deadlines concerned lie within 2^46 µs of the time base and the
deadline list stands earliest first, it still does afterwards; the pieces already there keep their order; and every
piece of an equal deadline and not newer sequence stands before it. Leaving, a piece is taken from the deadline list,
and both timers are armed anew, or else from the background list, and the timers stay. A waiting piece withdrawn
leaves so where it is QUEUED, starts a selection at its span, and is finished at its position, its record free.
Nothing else changes. Rests also on the model's own readings (notes/assumptions 29, 40 and 43). (R43, R58, R84, R85,
R86, R87, R96.) -/
def Obligations.PiecesEnterAndLeaveTheirQueueInOrder : Prop :=
  (∀ (s : State) (p : Nat) (pc : Piece), s.pieces.get p = some pc → p ∉ s.queued pc.span →
      let t := s.enqueue p pc
      let q := (s.span pc.span).queue
      t = { s with
        pieces := s.pieces.modify p fun pc => { pc with state := .queued, seq := some s.arrival },
        arrival := s.arrival + 1, reports := s.reports ++ [.select pc.span],
        spans := s.spans.set pc.span { s.span pc.span with queue := (t.span pc.span).queue } } ∧
      (∀ d, s.deadlineOf p = some d → (t.span pc.span).queue = {
        deadlines := insertBefore (s.standsAfter d s.arrival) p q.deadlines, background := q.background,
        deadlineTimer := t.deadlineArm pc.span, windowTimer := t.windowRearmed pc.span q.windowTimer }) ∧
      (s.deadlineOf p = none → (t.span pc.span).queue = { q with
        background := insertBefore (s.newerThan s.arrival) p q.background })) ∧
  (∀ (s : State) (p : Nat) (d : Time) (a : ArrivalSeq) (q : Nat),
      (s.standsAfter d a q = true ↔ ∃ e, s.deadlineOf q = some e ∧
        (0 < timeDiff e d ∨ (e = d ∧ s.newerThan a q = true))) ∧
      (s.newerThan a q = true ↔ ∃ pc b, s.pieces.get q = some pc ∧ pc.seq = some b ∧ (a - b).toInt < 0) ∧
      (s.deadlineOf p = some d ↔ ∃ pc f, s.pieces.get p = some pc ∧ s.frames.get pc.frame = some f ∧
        f.deadline = some d)) ∧
  (∀ (s : State) (j : SpanId) (p : Nat) (d : Time) (a : ArrivalSeq),
      let l := (s.span j).queue.deadlines
      let near (x : Time) := -(2 ^ 46 : Int) < timeDiff x s.time ∧ timeDiff x s.time < 2 ^ 46
      s.deadlineOf p = some d → near d → (∀ q ∈ l, ∃ e, s.deadlineOf q = some e ∧ near e) →
      let ordered (l : List Nat) := l.Pairwise fun q r => ∀ e g, s.deadlineOf q = some e → s.deadlineOf r = some g →
        timeDiff e s.time ≤ timeDiff g s.time
      ordered l →
      ordered (insertBefore (s.standsAfter d a) p l) ∧ (insertBefore (s.standsAfter d a) p l).Perm (p :: l) ∧
      l.Sublist (insertBefore (s.standsAfter d a) p l) ∧
      ((∀ q ∈ l, s.deadlineOf q = some d → s.newerThan a q = false) →
        ∃ before after, insertBefore (s.standsAfter d a) p l = before ++ p :: after ∧
          ∀ q ∈ l, s.deadlineOf q = some d → q ∈ before)) ∧
  (∀ (s : State) (j : SpanId) (p : Nat),
      let t := s.unlist j p
      let q := (s.span j).queue
      t = { s with spans := s.spans.set j { s.span j with queue := (t.span j).queue } } ∧
      (p ∈ q.deadlines → (t.span j).queue = {
        deadlines := q.deadlines.erase p, background := q.background, deadlineTimer := t.deadlineArm j,
        windowTimer := t.windowRearmed j q.windowTimer }) ∧
      (p ∉ q.deadlines → (t.span j).queue = { q with background := q.background.erase p })) ∧
  (∀ (s : State) (o : PieceOutcome) (p : Nat) (pc : Piece), s.pieces.get p = some pc →
      let gone (u : State) : State := { u with
        pieces := u.pieces.free p,
        frames := u.frames.modify pc.frame fun f => { f with positions := f.positions.set pc.position (.finished o) } }
      (pc.state = .held → s.withdrawPiece o p = gone s) ∧
      (pc.state = .queued → s.withdrawPiece o p = gone { s.unlist pc.span p with
        reports := s.reports ++ [.select pc.span] }) ∧
      (pc.state = .inService → s.withdrawPiece o p = s))

/-- A completion whose slot is BUSY with the tag's generation frees the slot with its generation advanced, hands on the
outcome OK for result 0 and MEDIA_ERROR for every other, reports the latency and starts a selection. One for a ZOMBIE
slot frees it so, is counted stale and starts a selection. Any other is counted stale and changes nothing else. A BUSY
slot's expiry makes it ZOMBIE with generation and dispatch time kept, hands on TIMED_OUT, reports a trip-class event
and advances the timeout count. The counts hold at 4,294,967,295. (R105, R108, R109, R110, R111, R114, R124.) -/
def Obligations.CompletionsAndTimeoutsAtASlot : Prop :=
  ∀ (s : State) (j : SpanId),
    let v := (s.span j).service
    let up (c : Nat) := if c < 4294967295 then c + 1 else c
    (∀ (k : SlotId) (slot gen result : Byte) (p : Nat) (d x : Time), slot.toNat = k.val → v.slots[k].gen = gen →
      v.slots[k].state = .busy p d x →
      exec (.extentDone j slot gen result) s = .next {
        s.modService j (fun v => { v with slots := v.slots.set k { gen := gen + 1, state := .free } }) with
        reports := s.reports ++ [.outcome p (if result = 0 then .ok else .mediaError), .latency j (s.time - d).toInt,
          .select j] }) ∧
    (∀ (k : SlotId) (slot gen result : Byte) (d : Time), slot.toNat = k.val → v.slots[k].gen = gen →
      v.slots[k].state = .zombie d →
      exec (.extentDone j slot gen result) s = .next {
        s.modService j (fun v => { v with
          slots := v.slots.set k { gen := gen + 1, state := .free }, staleCount := up v.staleCount }) with
        reports := s.reports ++ [.select j] }) ∧
    (∀ (slot gen result : Byte),
      (∀ k : SlotId, slot.toNat = k.val → v.slots[k].gen ≠ gen ∨ v.slots[k].state = .free) →
      exec (.extentDone j slot gen result) s = .next
        (s.modService j fun v => { v with staleCount := up v.staleCount })) ∧
    (∀ (k : SlotId) (p : Nat) (d x : Time), v.slots[k].state = .busy p d x → 0 ≤ timeDiff s.time x →
      exec (.slotExpiry j k) s = .next {
        s.modService j (fun v => { v with
          slots := v.slots.set k { gen := v.slots[k].gen, state := .zombie d },
          timeoutCount := up v.timeoutCount }) with
        reports := s.reports ++ [.outcome p .timedOut, .tripClass j] })

/-- READY with the present attempt makes the link UP, stops the relink hold, reports the change, starts a selection and
writes LINK_UP; any other READY is dropped. An attempt's expiry begins the next attempt with its TRAIN, or after the
fourth makes the link FAILED with LINK_FAILED and a report. Presence deasserted outside ABSENT finishes the slots'
pieces SPAN_LOST, frees the slots, stops the timers, makes the link ABSENT, reports it to queue, Admission Unit and
monitor and writes SPAN_ABSENT with the number of pieces lost in slots and queue. Presence asserted in ABSENT begins
attempt 1, writes SPAN_PRESENT and reports the change. Rests also on the model's own readings (notes/assumptions 11,
14, 32 and 50). (R115, R116, R119, R120, R121, R123.) -/
def Obligations.LinkTrainsAndFollowsItsPresenceLine : Prop :=
  ∀ (s : State) (j : SpanId),
    let v := (s.span j).service
    let q := (s.span j).queue
    let note (u : State) (kind : SpanNotice) (k : LinkState) (more : List Field) :=
      u.notifyAll (.spanNotice kind) ([fNat j.val, fNat k.code] ++ more)
    let attempt (u : State) (a : Nat) := u.modService j fun v => { v with
      link := .training a (s.time + 50000), sent := v.sent ++ [.train a] }
    (∀ (a : Nat) (x : Time) (b : Byte), v.link = .training a x →
      (b.toNat = a → exec (.ready j b) s = .next (note
        { s.modService j (fun v => { v with link := .up, relinkExpiry := none }) with
          reports := s.reports ++ [.linkState j .up, .select j] } .linkUp .up [fBool v.relinkExpiry.isSome])) ∧
      (b.toNat ≠ a → exec (.ready j b) s = .next s) ∧
      (0 ≤ timeDiff s.time x →
        (a < 4 → exec (.trainingAttemptExpiry j) s = .next (attempt s (a + 1))) ∧
        (4 ≤ a → exec (.trainingAttemptExpiry j) s = .next (note
          { s.modService j (fun v => { v with link := .failed }) with
            reports := s.reports ++ [.linkState j .failed] } .linkFailed .failed [])))) ∧
    (∀ b, v.link.state ≠ .training → exec (.ready j b) s = .next s) ∧
    (v.link ≠ .absent → exec (.presenceDeasserted j) s = .next (note
      { (s.modService j fun v => { v with
          presence := false, link := .absent, relinkExpiry := none,
          slots := bank8 fun k => if v.slots[k].state = .free then v.slots[k]
            else { gen := v.slots[k].gen + 1, state := .free } }).modArbiter j fun a => { a with selections := 0 } with
        reports := s.reports ++ v.busyPieces.map (fun p => .outcome p .spanLost) ++
          [.queueLoss j, .absent j, .monitorAbsent j] }
      .spanAbsent .absent [fNat (v.busyPieces.length + q.deadlines.length + q.background.length)])) ∧
    (v.link = .absent → exec (.presenceDeasserted j) s = .next (s.modService j fun v => { v with presence := false })) ∧
    (v.link = .absent → exec (.presenceAsserted j) s = .next (note
      { (attempt s 1).modService j (fun v => { v with presence := true }) with
        reports := s.reports ++ [.linkState j .training] } .spanPresent .training []))

/-- The link's leaving UP finishes the pieces of its BUSY slots SPAN_LOST, frees every occupied slot with its generation
advanced, starts the relink hold, begins attempt 1 with its TRAIN, ends selections, reports the change and writes
LINK_DOWN with the cause, the number of pieces and the hold's expiry; with a hold of 0 the hold expires in the same
event. A loss indication does so in UP, advancing the link-loss count, and nothing elsewhere. LINK_RESET from the
claim holder answers OK with the link state before and after, then does so from UP, begins attempt 1 again in TRAINING
and begins training from FAILED; BAD_ARGS above span 7 and WRONG_STATE in ABSENT change nothing. The hold's expiry
empties the queue, has the Frame Table take SPAN_LOST for every piece in the same event, deadline list first, starts a
selection where there was one, and writes HOLD_EXPIRED with their number. Rests also on the model's own readings
(notes/assumptions 11, 14 and 25). (R99, R117, R118, R119, R122, R123, R124.) -/
def Obligations.LinkLeavesUpAndItsHoldExpires : Prop :=
  ∀ (s : State) (j : SpanId),
    let held (u : State) : State :=
      let q := (u.span j).queue
      let lost := q.deadlines ++ q.background
      let taken := lost.foldl (fun w p => w.takeOutcome p .spanLost)
        ((u.modService j fun v => { v with relinkExpiry := none }).modQueue j fun _ =>
          { deadlines := [], background := [], deadlineTimer := none, windowTimer := none })
      State.notifyAll { taken with reports := u.reports ++ (if lost = [] then [] else [.select j]) }
        (.spanNotice .holdExpired) [fNat j.val, fNat (u.span j).service.link.state.code, fNat lost.length]
    let down (u : State) (cause : LinkDownCause) : State :=
      let v := (u.span j).service
      let expiry := s.time + BitVec.ofNat 48 (v.relinkHold * 1000)
      let left := State.notifyAll
        { (u.modService j fun v => { v with
            slots := bank8 fun k => if v.slots[k].state = .free then v.slots[k]
              else { gen := v.slots[k].gen + 1, state := .free },
            relinkExpiry := some expiry, link := .training 1 (s.time + 50000),
            sent := v.sent ++ [.train 1] }).modArbiter j fun a => { a with selections := 0 } with
          reports := u.reports ++ v.busyPieces.map (fun p => .outcome p .spanLost) ++ [.linkState j .training] }
        (.spanNotice .linkDown) [fNat j.val, fNat 1, fNat cause.code, fNat v.busyPieces.length, fTime expiry]
      if v.relinkHold = 0 then held left else left
    let v := (s.span j).service
    (v.link = .up → exec (.linkLossIndication j) s = .next (down (s.modService j fun v => { v with
      linkLossCount := if v.linkLossCount < 4294967295 then v.linkLossCount + 1 else v.linkLossCount }) .loss)) ∧
    (v.link ≠ .up → exec (.linkLossIndication j) s = .next s) ∧
    (∀ t, v.relinkExpiry = some t → 0 ≤ timeDiff s.time t → exec (.relinkHoldExpiry j) s = .next (held s)) ∧
    (∀ (n : NodeId) (rec : List Byte) (rest : List (List Byte)), s.claims n 20 rec rest →
      let answered (st : ResultStatus) (body : List Field) := (s.taken n rest).result n 20 st body
      let ok := answered .ok [fNat j.val, fNat v.link.state.code, fNat 1]
      (8 ≤ recArg rec 0 → exec (.linkReset n) s = .next (answered .badArgs [])) ∧
      (recArg rec 0 = j.val →
        (v.link = .absent → exec (.linkReset n) s = .next (answered .wrongState [])) ∧
        (v.link = .up → exec (.linkReset n) s = .next (down ok .reset)) ∧
        (v.link.state = .training → exec (.linkReset n) s = .next (ok.modService j fun v => { v with
          link := .training 1 (s.time + 50000), sent := v.sent ++ [.train 1] })) ∧
        (v.link = .failed → exec (.linkReset n) s = .next {
          ok.modService j (fun v => { v with
            link := .training 1 (s.time + 50000), sent := v.sent ++ [.train 1] }) with
          reports := s.reports ++ [.linkState j .training] })))

/-- An event record is 512 bytes: kind, status or notice kind, command code, epoch, records left, time base, presence
mask, then 61 body slots of 8 bytes, little-endian, an absent slot zero; bit k + 1 of the mask is set exactly when
body slot k is present. Kinds, statuses, notice kinds, outcomes and named values have the codes of the tables. Of a
command record, bytes 0 and 1 are the code, byte 2 the extent count, byte 3 the two flags, bytes 4 and 5 the stream
id, byte 16 on argument slots of 8 bytes, unsigned or signed; a FRAME_READ has its cookie in the low 4 bytes of the
first and its extents of 24 bytes from byte 32; bytes not examined do not matter. An OPEN_STREAM has its arguments in
their order. READ_EXTENT is 24 bytes of type 1 and TRAIN 8 of type 3. Bytes that begin 2 with a slot, generation and
result are EXTENT_DONE, bytes that begin 4 with an attempt are READY; every other message, a shorter one of those
types too, is of another type, and one that begins otherwise changes nothing. Rests also on the model's own readings
(notes/assumptions 15, 17, 26 and 42). (R59, R107, R178, R179, R180.) -/
def Obligations.RecordAndMessageLayouts : Prop :=
  (∀ (e : EventRec) (left : Nat), e.body.length ≤ 61 →
      (e.bytes left).length = 512 ∧
      (e.bytes left).take 8 = [BitVec.ofNat 8 e.tag.kindCode, BitVec.ofNat 8 e.tag.statusCode,
        BitVec.ofNat 8 e.command, BitVec.ofNat 8 (e.command / 256), BitVec.ofNat 8 e.epoch.toNat,
        BitVec.ofNat 8 (e.epoch.toNat / 256), BitVec.ofNat 8 left, BitVec.ofNat 8 (left / 256)] ∧
      leNat (((e.bytes left).drop 8).take 8) = e.time.toNat ∧
      (∀ k < 61, (leNat (((e.bytes left).drop 16).take 8)).testBit (k + 1) = (e.body[k]?.join).isSome) ∧
      ∀ k < 61, leNat (((e.bytes left).drop (24 + 8 * k)).take 8) = match e.body[k]?.join with
        | none => 0
        | some v => v.toNat) ∧
  (∀ (slot : SlotId) (gen : Gen) (count : Nat) (start : StartBlock) (token : Token), count < 65536 →
      let b := (SpanMessage.readExtent slot gen count start token).bytes
      b.length = 24 ∧ b.take 4 = [1, BitVec.ofNat 8 slot.val, gen, 0] ∧ leNat ((b.drop 4).take 2) = count ∧
      leNat ((b.drop 6).take 6) = start.toNat ∧ (b.drop 12).take 4 = [0, 0, 0, 0] ∧
      leNat ((b.drop 16).take 8) = token.toNat) ∧
  (∀ a : Nat, (SpanMessage.train a).bytes = [3, BitVec.ofNat 8 a, 0, 0, 0, 0, 0, 0]) ∧
  (∀ (j : SpanId) (b c d : Byte) (r : List Byte) (s : State),
      Instr.ofSpanMessage j (2 :: b :: c :: d :: r) = .extentDone j b c d ∧
      Instr.ofSpanMessage j (4 :: b :: r) = .ready j b ∧
      (r.length < 3 → Instr.ofSpanMessage j (2 :: r) = .spanMessageOther j (2 :: r)) ∧
      Instr.ofSpanMessage j [4] = .spanMessageOther j [4] ∧ Instr.ofSpanMessage j [] = .spanMessageOther j [] ∧
      (b ≠ 2 → b ≠ 4 → Instr.ofSpanMessage j (b :: r) = .spanMessageOther j (b :: r) ∧
        exec (.spanMessageOther j (b :: r)) s = .next s)) ∧
  (∀ (r : ResultStatus) (f : FrameStatus) (k : StreamNotice) (p : SpanNotice) (c : NodeNotice),
      [EventTag.empty, .result r, .frameDone f, .streamNotice k, .spanNotice p, .nodeNotice c].map EventTag.kindCode =
        [0, 1, 2, 3, 4, 5]) ∧
  (([ResultStatus.ok, .badArgs, .notAttached, .notOwner, .noStream, .noRecord, .overBudget, .unservable, .spanDown,
      .wrongState, .notOrphaned, .busy, .notHolder, .active, .early].map fun k => EventTag.statusCode (.result k)) =
        List.range 15 ∧
    ([FrameStatus.ok, .partialOk, .failed, .cancelled, .superseded, .lateSkipped, .refusedStream, .refusedState,
      .refusedArgs, .refusedDuplicate, .refusedDepth, .refusedPool].map fun k => EventTag.statusCode (.frameDone k)) =
        List.range 12 ∧
    ([StreamNotice.orphaned, .adopted, .closed].map fun k => EventTag.statusCode (.streamNotice k)) = [0, 1, 2] ∧
    ([SpanNotice.linkDown, .linkUp, .holdExpired, .linkFailed, .spanAbsent, .spanPresent, .derated, .restored, .tripped,
      .tripCleared, .overcommitOn, .overcommitOff].map fun k => EventTag.statusCode (.spanNotice k)) = List.range 12 ∧
    ([NodeNotice.peerAttached, .peerDetached, .peerLost, .claimReleased, .noticeLost].map fun k =>
      EventTag.statusCode (.nodeNotice k)) = [0, 1, 2, 3, 4]) ∧
  ([PieceOutcome.ok, .mediaError, .timedOut, .spanLost, .cancelled, .skipped, .superseded].map PieceOutcome.code =
      List.range 7 ∧
    [StreamState.free, .stopped, .playing, .scrubbing, .closing, .orphaned].map StreamState.code = List.range 6 ∧
    [NodeState.detached, .attached, .lost].map NodeState.code = [0, 1, 2] ∧
    [LinkState.absent, .training, .up, .failed].map LinkState.code = [0, 1, 2, 3] ∧
    [Health.normal, .derated, .tripped].map Health.code = [0, 1, 2] ∧
    [FrameKind.play, .park, .scrub].map FrameKind.code = [0, 1, 2] ∧
    [ScrubPolicy.lastWins, .every].map ScrubPolicy.code = [0, 1] ∧ [LatePolicy.skip, .serve].map LatePolicy.code = [0, 1] ∧
    [LinkDownCause.loss, .reset].map LinkDownCause.code = [0, 1] ∧
    [LossCause.heartbeat, .linkDown].map LossCause.code = [0, 1] ∧
    [ResetKind.powerOn, .pin, .command].map ResetKind.code = [0, 1, 2] ∧
    [StartFlag.cold, .warm].map StartFlag.code = [0, 1] ∧ fBool false = fNat 0 ∧ fBool true = fNat 1) ∧
  (∀ (code : BitVec 16) (b2 b3 h g : Byte) (ignored : List Byte) (args : List (BitVec 64)) (more : List Byte),
      ignored.length = 10 →
      let bytes := leBytes 2 code.toNat ++ [b2, b3, h, g] ++ ignored ++ args.flatMap (fun v => leBytes 8 v.toNat) ++ more
      recCode bytes = code.toNat ∧ recExtentCount bytes = b2.toNat ∧ recHandover bytes = b3.getLsbD 0 ∧
      recStream bytes = { handle := h, gen := g } ∧
      (∀ (k : Nat) (v : BitVec 64), args[k]? = some v → recArg bytes k = v.toNat ∧ recArgSigned bytes k = v.toInt) ∧
      (∀ v, args[0]? = some v → recCookie bytes = v.setWidth 32) ∧
      (args.length = 16 → recOpenArgs bytes =
        let v (k : Nat) := (args.getD k 0).toNat
        { period := v 0, frameBlocks := v 1, width := v 2,
          spans := [v 3, v 4, v 5, v 6, v 7, v 8, v 9, v 10].take (v 2), depth := v 11, lead := v 12, scrub := v 13,
          late := v 14, settle := if b3.getLsbD 1 then some (v 15) else none })) ∧
  (∀ (head : List Byte) (exts : List (Extent × List Byte)) (more : List Byte), head.length = 32 →
      (∀ x ∈ exts, x.1.span < 256 ∧ x.1.count < 65536 ∧ x.2.length = 7) →
      let bytes := head ++ exts.flatMap (fun x => [BitVec.ofNat 8 x.1.span] ++ x.2.take 1 ++ leBytes 2 x.1.count ++
        leBytes 6 x.1.start.toNat ++ x.2.drop 1 ++ leBytes 8 x.1.token.toNat) ++ more
      recExtents bytes exts.length = exts.map Prod.fst)

/-- A latency report advances the completions count, raises the peak latency where it is absent or smaller, and advances
the top count and the trip count where the latency is strictly over the window's top and trip latency. A trip-class
event advances the top and trip counts and touches neither completions nor peak. Each count holds at 65,535. The
report is consumed and nothing else changes; whether the window's expiry is taken before or after is the order of two
steps. (R131, R132.) -/
def Obligations.WindowCountsLatenciesAndTimeouts : Prop :=
  ∀ (s : State) (j : SpanId) (before after : List Report),
    let u : State := { s with reports := before ++ after }
    let up (c : Bool) (v : Nat) := if c = true ∧ v < 65535 then v + 1 else v
    (∀ l, s.offers (fun | .latency k _ => decide (k = j) | _ => false) (.latency j l) before after →
      exec (.latencyReport j) s = .next (u.modMonitor j fun m => { m with
        counts := {
          completions := up true m.counts.completions,
          peak := some (match m.counts.peak with
            | none => l
            | some p => max p l),
          top := up (decide ((m.topLimit : Int) < l)) m.counts.top,
          trip := up (decide ((m.tripLimit : Int) < l)) m.counts.trip } })) ∧
    (s.offers (fun | .tripClass k => decide (k = j) | _ => false) (.tripClass j) before after →
      exec (.tripClassEvent j) s = .next (u.modMonitor j fun m => { m with
        counts := { m.counts with top := up true m.counts.top, trip := up true m.counts.trip } }))

/-- At a window's expiry the windows-since-change count advances. A window with top count above 0 sets TOP_SEEN, clears
the clean count and, with auto-derate on, the delay elapsed and the ceiling above its floor, lowers the ceiling by the
step but not below the floor. Any other advances the clean count and, with the recover windows reached and the ceiling
below the configured one, raises it by the step but not above it and clears the clean count. Either change starts
since-change afresh. A trip count above 0 sets TRIP_SEEN, and trips the span when the previous record's was too. The
window becomes the previous record and the next one starts. A changed ceiling or trip is reported to the Admission
Unit, a trip to the arbiter's mask; DERATED, RESTORED and TRIPPED are written. Rests also on the model's own readings
(notes/assumptions 18 and 50). (R130, R133, R134, R135, R136, R137, R138.) -/
def Obligations.WindowExpiryJudgesDeratesRecoversAndTrips : Prop :=
  ∀ (s : State) (j : SpanId), 0 ≤ timeDiff s.time (s.span j).monitor.expiry →
    let m := (s.span j).monitor
    let p := m.params
    let since := if m.since < 255 then m.since + 1 else m.since
    let clean := if m.clean < 16 then m.clean + 1 else m.clean
    let breach : Bool := decide (0 < m.counts.top)
    let derates : Bool := breach && p.auto && decide (p.delay ≤ since) && decide (p.floor < m.effective)
    let raises : Bool := !breach && decide (p.recover ≤ clean) && decide (m.effective < p.ceiling)
    let e := if derates then max p.floor (m.effective - p.step)
      else if raises then min p.ceiling (m.effective + p.step) else m.effective
    let trips : Bool := decide (0 < m.counts.trip) && decide (0 < m.previous.trip) && !m.tripped
    let health := if m.tripped || trips then 2 else if e < p.ceiling then 1 else 0
    let note (c : Bool) (kind : SpanNotice) (more : List Field) (u : State) :=
      if c then u.notifyAll (.spanNotice kind) ([fNat j.val, fNat health] ++ more) else u
    let judged : State := { s.modMonitor j (fun m => { m with
        effective := e, tripped := m.tripped || trips, since := if derates || raises then 0 else since,
        clean := if breach || raises then 0 else clean, topSeen := m.topSeen || breach,
        tripSeen := m.tripSeen || decide (0 < m.counts.trip), previous := m.counts,
        counts := { top := 0, trip := 0, completions := 0, peak := none }, start := s.time,
        expiry := s.time + BitVec.ofNat 48 (p.window * 1000), topLimit := p.top, tripLimit := p.trip }) with
      reports := s.reports ++ (if e ≠ m.effective ∨ trips = true then [.ceiling j e (m.tripped || trips)] else []) ++
        (if trips then [.mask j true] else []) }
    exec (.monitorWindowExpiry j) s = .next
      (note trips .tripped [fNat m.counts.trip, fNat m.previous.trip, fNat e]
        (note (decide (m.effective < e) && decide (e = p.ceiling)) .restored [fNat e]
          (note (decide (e < m.effective)) .derated
            [fNat m.effective, fNat e, fNat p.floor, fNat m.counts.top, fNat m.counts.trip,
             fOpt fInt m.counts.peak, fBool (decide (e = p.floor))] judged)))

/-- CLEAR_TRIP: BAD_ARGS above span 7; WRONG_STATE for a span not tripped; ACTIVE with the previous window's trip count
and the window's expiry where that count is above 0; otherwise the tripped flag is cleared, reported to the Admission
Unit and the arbiter's mask, the answer OK carries span and health, and TRIP_CLEARED with the clearing node and the
ceiling is written after it. ACK_SPAN_STATUS: BAD_ARGS above span 7; otherwise each sticky flag is cleared where its
count of the present window is 0, and the answer OK carries the flags before and after and the two counts. Nothing
else changes. (R137, R138, R139, R140.) -/
def Obligations.TripClearedAndStatusAcknowledged : Prop :=
  ∀ (n : NodeId) (s : State) (rec : List Byte) (rest : List (List Byte)),
    let t := s.taken n rest
    (s.claims n 18 rec rest →
      (8 ≤ recArg rec 0 → exec (.clearTrip n) s = .next (t.result n 18 .badArgs [])) ∧
      (∀ j : SpanId, recArg rec 0 = j.val →
        let m := (s.span j).monitor
        let health := if m.effective < m.params.ceiling then 1 else 0
        (m.tripped = false → exec (.clearTrip n) s = .next (t.result n 18 .wrongState [])) ∧
        (m.tripped = true → 0 < m.previous.trip →
          exec (.clearTrip n) s = .next (t.result n 18 .active [fNat m.previous.trip, fTime m.expiry])) ∧
        (m.tripped = true → m.previous.trip = 0 → exec (.clearTrip n) s = .next ((State.result
          { t.modMonitor j (fun m => { m with tripped := false }) with
            reports := s.reports ++ [.ceiling j m.effective false, .mask j false] }
          n 18 .ok [fNat j.val, fNat health]).notifyAll (.spanNotice .tripCleared)
            [fNat j.val, fNat health, fNat n.val, fNat m.effective])))) ∧
    (s.issues n 19 rec rest →
      (8 ≤ recArg rec 0 → exec (.ackSpanStatus n) s = .next (t.result n 19 .badArgs [])) ∧
      (∀ j : SpanId, recArg rec 0 = j.val →
        let m := (s.span j).monitor
        let top := if m.counts.top = 0 then false else m.topSeen
        let trip := if m.counts.trip = 0 then false else m.tripSeen
        exec (.ackSpanStatus n) s = .next
          ((t.modMonitor j fun m => { m with topSeen := top, tripSeen := trip }).result n 19 .ok
            [fNat j.val, fBool m.topSeen, fBool m.tripSeen, fBool top, fBool trip, fNat m.counts.top,
             fNat m.counts.trip])))

/-- A configured ceiling becomes the effective one in NORMAL and bounds it from above otherwise, and the floor beside it
bounds it from below. A raised floor lifts a ceiling below it. Either, where the effective ceiling changes, starts
since-change afresh and reports the change; RESTORED is written where a ceiling that stood below the configured one
now equals it. The configured ceiling goes on to the Admission Unit. At ABSENT the ceiling is the configured one, the
trip, counts, previous record and sticky flags are cleared, a window starts, the changes are reported, the mask is
cleared after a trip, and RESTORED is written where the ceiling stood below. Rests also on the model's own readings
(notes/assumptions 12, 18 and 50). (R129, R137, R138, R141, R142, R143, R187.) -/
def Obligations.MonitorTakesCeilingFloorAndAbsence : Prop :=
  ∀ (s : State) (j : SpanId) (before after : List Report),
    let m := (s.span j).monitor
    let note (c : Bool) (tripped : Bool) (e ceiling : Nat) (u : State) := if c then
        u.notifyAll (.spanNotice .restored)
          [fNat j.val, fNat (if tripped then 2 else if e < ceiling then 1 else 0), fNat e] else u
    (∀ c f, s.offers (toMonitor j) (.configuredCeiling j c f) before after →
      let e := max (if m.tripped = false ∧ ¬ m.effective < m.params.ceiling then c else min m.effective c) f
      exec (.configuredCeilingChange j) s = .next (note (decide (m.effective < m.params.ceiling) && decide (e = c))
        m.tripped e c
        { s.modMonitor j (fun m => { m with
            params := { m.params with ceiling := c, floor := f }, effective := e,
            since := if e = m.effective then m.since else 0 }) with
          reports := before ++ after ++ [.param .admission (some j) [(5, c)]] ++
            (if e = m.effective then [] else [.ceiling j e m.tripped]) })) ∧
    (∀ f, s.offers (toMonitor j) (.param (.monitor j) (some j) [(6, f)]) before after →
      let e := max m.effective f
      exec (.parameterReport (.monitor j)) s = .next (note
        (decide (m.effective < m.params.ceiling) && decide (e = m.params.ceiling)) m.tripped e m.params.ceiling
        { s.modMonitor j (fun m => { m with
            params := { m.params with floor := f }, effective := e,
            since := if e = m.effective then m.since else 0 }) with
          reports := before ++ after ++ (if e = m.effective then [] else [.ceiling j e m.tripped]) })) ∧
    (s.offers (fun | .monitorAbsent k => decide (k = j) | _ => false) (.monitorAbsent j) before after →
      exec (.monitorAbsent j) s = .next (note (decide (m.effective < m.params.ceiling)) false m.params.ceiling
        m.params.ceiling
        { s.modMonitor j (fun m => { m with
            effective := m.params.ceiling, tripped := false, since := 0, clean := 0, topSeen := false,
            tripSeen := false, previous := { top := 0, trip := 0, completions := 0, peak := none },
            counts := { top := 0, trip := 0, completions := 0, peak := none }, start := s.time,
            expiry := s.time + BitVec.ofNat 48 (m.params.window * 1000), topLimit := m.params.top,
            tripLimit := m.params.trip }) with
          reports := before ++ after ++
            (if m.effective = m.params.ceiling ∧ m.tripped = false then [] else [.ceiling j m.params.ceiling false]) ++
            (if m.tripped then [.mask j false] else []) }))

/-- QUERY_SPAN from any ATTACHED node: BAD_ARGS above span 7; otherwise OK with the Admission Unit's committed, overcommit
and counts of streams reserved and unreserved on the span, the Span Service Unit's presence, link, attempt, hold,
slots and counters, the queue's lengths, class counts, earliest deadline, pointers, mask, timers, D and B, the
monitor's state and parameters, C and T, and the earliest expiry of a BUSY slot. Nothing but the answer changes. Rests
also on the model's own readings (notes/assumptions 12, 15 and 47). (R102, R124, R144, R189.) -/
def Obligations.QuerySpanReportsOneView : Prop :=
  ∀ (n : NodeId) (s : State) (rec : List Byte) (rest : List (List Byte)), s.issues n 12 rec rest →
    (8 ≤ recArg rec 0 → exec (.querySpan n) s = .next ((s.taken n rest).result n 12 .badArgs [])) ∧
    (∀ j : SpanId, recArg rec 0 = j.val →
      let b := (s.span j).budget
      let v := (s.span j).service
      let q := (s.span j).queue
      let a := (s.span j).arbiter
      let m := (s.span j).monitor
      let ds := q.deadlines.filterMap s.deadlineOf
      let inClass (c : Urgency) := fNat (ds.filter fun d => decide (a.classOf s.time d = c)).length
      let slots (t : SlotState → Bool) := fNat (([0, 1, 2, 3, 4, 5, 6, 7] : List SlotId).filter fun k => t v.slots[k].state).length
      exec (.querySpan n) s = .next ((s.taken n rest).result n 12 .ok
        [fNat b.committed, fBool b.overcommit,
         fNat (s.streams.filter fun kv => kv.2.spans.any fun e => decide (e.span = j) && e.reserved).length,
         fNat (s.streams.filter fun kv => (kv.2.spans.any fun e => decide (e.span = j)) &&
           !kv.2.spans.any fun e => decide (e.span = j) && e.reserved).length,
         fBool v.presence, fNat v.link.state.code,
         (match v.link with
          | .training a _ => fNat a
          | _ => none),
         fOpt fTime v.relinkExpiry,
         slots (fun | .busy _ _ _ => true | _ => false), slots (fun | .zombie _ => true | _ => false),
         fOpt fTime (earliest (([0, 1, 2, 3, 4, 5, 6, 7] : List SlotId).filterMap fun k => match v.slots[k].state with
           | .free => none
           | .busy _ d _ => some d
           | .zombie d => some d)),
         fNat v.staleCount, fNat v.timeoutCount, fNat v.linkLossCount, fNat v.commandTimeout, fNat v.relinkHold,
         fNat q.deadlines.length, inClass .late, inClass .urgent, inClass .due, inClass .ahead, inClass .future,
         fOpt fTime ds.head?, fNat q.background.length, fNat a.rotation.val, fNat a.backgroundPtr.toNat, fBool a.masked,
         fOpt fTime q.windowTimer, fOpt fTime q.deadlineTimer, fNat a.depth, fNat a.backgroundShare,
         fNat (if m.tripped then 2 else if m.effective < m.params.ceiling then 1 else 0), fNat m.effective,
         fNat m.params.ceiling, fNat m.params.floor, fNat m.params.step, fNat m.params.delay, fNat m.params.recover,
         fBool m.params.auto, fTime m.start, fTime m.expiry, fNat m.topLimit, fNat m.tripLimit, fNat m.counts.top,
         fNat m.counts.trip, fNat m.counts.completions, fOpt fInt m.counts.peak, fNat m.previous.top,
         fNat m.previous.trip, fNat m.previous.completions, fOpt fInt m.previous.peak, fNat m.since, fNat m.clean,
         fBool m.topSeen, fBool m.tripSeen, fNat s.config.spans[j].overhead, fNat s.config.spans[j].transfer,
         fOpt fTime (earliest (([0, 1, 2, 3, 4, 5, 6, 7] : List SlotId).filterMap fun k => match v.slots[k].state with
           | .busy _ _ t => some t
           | _ => none))]))

/-- CONFIG_BEGIN: NOT_ATTACHED from a node not ATTACHED; a free claim gives the issuer the claim with 0 sets and OK; the
issuer's own claim gives OK with the indicator and the count of sets, changing nothing; another's gives BUSY with the
holder. CONFIG_END: NOT_ATTACHED and NOT_HOLDER first; from the holder, configuration-loaded is set when sets accepted
is above 0, the claim is free, and the answer OK carries the count, whether this command set the flag, and the flag.
No notice is written. Configuration-loaded is changed by no row but CONFIG_END and POWER_ON_RESET. Rests also on the
model's own reading (notes/assumptions 15). (R181, R182, R183, R190.) -/
def Obligations.ConfigClaimTakenAndReleased : Prop :=
  (∀ (n : NodeId) (s : State) (rec : List Byte) (rest : List (List Byte)),
    let t := s.taken n rest
    (s.heads n 14 rec rest →
      ((s.node n).state ≠ .attached → exec (.configBegin n) s = .next (t.result n 14 .notAttached [])) ∧
      ((s.node n).state = .attached →
        (s.config.holder = none → exec (.configBegin n) s = .next (State.result
          { t with config := { s.config with holder := some n, setsAccepted := 0 } } n 14 .ok [])) ∧
        (s.config.holder = some n →
          exec (.configBegin n) s = .next (t.result n 14 .ok [fNat 1, fNat s.config.setsAccepted])) ∧
        (∀ m, s.config.holder = some m → m ≠ n →
          exec (.configBegin n) s = .next (t.result n 14 .busy [fNat m.val])))) ∧
    (s.heads n 17 rec rest →
      ((s.node n).state ≠ .attached → exec (.configEnd n) s = .next (t.result n 17 .notAttached [])) ∧
      ((s.node n).state = .attached → s.config.holder ≠ some n →
        exec (.configEnd n) s = .next (t.result n 17 .notHolder [])) ∧
      ((s.node n).state = .attached → s.config.holder = some n →
        let loaded := s.config.loaded || decide (0 < s.config.setsAccepted)
        exec (.configEnd n) s = .next (State.result
          { t with config := { s.config with loaded := loaded, holder := none, setsAccepted := 0 } } n 17 .ok
          [fNat s.config.setsAccepted, fBool (loaded && !s.config.loaded), fBool loaded])))) ∧
  (∀ (c : Instr) (s t : State), exec c s = .next t →
    t.config.loaded = s.config.loaded ∨ (∃ n, c = .configEnd n) ∨ c = .powerOnReset)

/-- An unknown scope, span or parameter is answered BAD_ARGS by CONFIG_SET and CONFIG_GET. An accepted CONFIG_SET stores
the value, counts up to 65,535, answers OK with the values requested, before and taken and each related parameter
moved, and reports value and moved ones to the blocks that read them, changed or not. The value taken is the requested
one in the parameter's present range, the nearest bound outside it (the heartbeat window rounded down to 25, 50, 75 or
100); every parameter neither set nor related stays; every parameter stays within its range. A raised urgent threshold
carries the due window and the lookahead up to it, a raised due window the lookahead, a lowered D pulls B down to D −
1, a lowered ceiling the floor to it, and a raised top latency the trip latency to it. Ranges and defaults are those
of the tables. CONFIG_GET answers OK with scope, span, number, value, range and default and changes nothing. Rests
also on the model's own readings (notes/assumptions 15 and 27). (R181, R184, R185, R186, R187, R188, R189.) -/
def Obligations.ConfigSetClampsStoresAndReports : Prop :=
  (∀ (n : NodeId) (s : State) (rec : List Byte) (rest : List (List Byte)) (code : Nat),
      let t := s.taken n rest
      let scope := recArg rec 0
      let span := recArg rec 1
      let k := recArg rec 2
      let sets := if s.config.setsAccepted < 65535 then s.config.setsAccepted + 1 else s.config.setsAccepted
      (1 < scope ∨ (scope = 0 ∧ ¬ (1 ≤ k ∧ k ≤ 8)) ∨ (scope = 1 ∧ ¬ (span < 8 ∧ 1 ≤ k ∧ k ≤ 15)) →
        (code = 15 ∧ s.claims n 15 rec rest) ∨ (code = 16 ∧ s.issues n 16 rec rest) →
        exec (Instr.ofCode n code) s = .next (t.result n code .badArgs [])) ∧
      (scope = 0 → 1 ≤ k → k ≤ 8 →
        let p := s.config.part
        let q := p.set k (recArg rec 3)
        let moved := movedBy p.value q.value (partRelated k)
        (s.claims n 15 rec rest → exec (.configSet n) s = .next {
          State.result { t with config := { s.config with part := q, setsAccepted := sets } } n 15 .ok
            ([fNat 0, fNat span, fNat k, fNat (recArg rec 3), fOpt fNat (p.value k), fOpt fNat (q.value k)] ++
              (fNat moved.length :: (moved.flatMap (fun i => [fNat i, fOpt fNat (p.value i), fOpt fNat (q.value i)]) ++
                List.replicate (6 - moved.length * 3) none))) with
          reports := s.reports ++ partReports k ((k :: moved).filterMap fun i => (q.value i).map fun v => (i, v)) }) ∧
        (s.issues n 16 rec rest → exec (.configGet n) s = .next (t.result n 16 .ok
          [fNat 0, fNat span, fNat k, fOpt fNat (p.value k), fNat (p.range k).1, fNat (p.range k).2,
           fOpt fNat (PartParams.default.value k)]))) ∧
      (∀ j : SpanId, scope = 1 → span = j.val → 1 ≤ k → k ≤ 15 →
        let p := s.config.spans[j]
        let q := p.set k (recArg rec 3)
        let moved := movedBy p.value q.value (spanRelated k)
        (s.claims n 15 rec rest → exec (.configSet n) s = .next {
          State.result { t with config := { s.config with spans := s.config.spans.set j q, setsAccepted := sets } }
            n 15 .ok
            ([fNat 1, fNat span, fNat k, fNat (recArg rec 3), fOpt fNat (p.value k), fOpt fNat (q.value k)] ++
              (fNat moved.length :: (moved.flatMap (fun i => [fNat i, fOpt fNat (p.value i), fOpt fNat (q.value i)]) ++
                List.replicate (6 - moved.length * 3) none))) with
          reports := s.reports ++
            spanReports j q k ((k :: moved).filterMap fun i => (q.value i).map fun v => (i, v)) }) ∧
        (s.issues n 16 rec rest → exec (.configGet n) s = .next (t.result n 16 .ok
          [fNat 1, fNat span, fNat k, fOpt fNat (p.value k), fNat (p.range k).1, fNat (p.range k).2,
           fOpt fNat (SpanParams.default.value k)])))) ∧
  (∀ (p : PartParams) (k v : Nat), p.ok → 1 ≤ k → k ≤ 8 → (p.set k v).ok ∧
      (k ≠ 7 → (p.set k v).value k = some (min (p.range k).2 (max (p.range k).1 v))) ∧
      (p.set 7 v).value 7 = some (if v < 50 then 25 else if v < 75 then 50 else if v < 100 then 75 else 100) ∧
      ∀ i, i ≠ k → i ∉ partRelated k → (p.set k v).value i = p.value i) ∧
  (∀ (p : SpanParams) (k v : Nat), p.ok → 1 ≤ k → k ≤ 15 → (p.set k v).ok ∧
      (p.set k v).value k = some (min (p.range k).2 (max (p.range k).1 v)) ∧
      ∀ i, i ≠ k → i ∉ spanRelated k → (p.set k v).value i = p.value i) ∧
  (∀ (vs : List (Nat × Nat)) (j : SpanId) (p : SpanParams),
      (∀ k ∈ [1, 2, 3], partReports k vs =
        .param .deadlineUnit none vs :: [0, 1, 2, 3, 4, 5, 6, 7].map fun j => .param (.arbiter j) none vs) ∧
      partReports 4 vs = [.param .deadlineUnit none vs] ∧
      (∀ k ∈ [5, 8], partReports k vs = [.param .admission none vs]) ∧
      (∀ k ∈ [6, 7], partReports k vs = [0, 1, 2, 3].map fun n => .param (.nodePort n) none vs) ∧
      (∀ k ∈ [1, 2], spanReports j p k vs = [.param .admission (some j) vs]) ∧
      (∀ k ∈ [3, 4], spanReports j p k vs = [.param (.arbiter j) (some j) vs]) ∧
      spanReports j p 5 vs = [.configuredCeiling j p.ceiling p.floor] ∧
      (∀ k ∈ [6, 7, 8, 9, 10, 11, 12, 13], spanReports j p k vs = [.param (.monitor j) (some j) vs]) ∧
      ∀ k ∈ [14, 15], spanReports j p k vs = [.param (.service j) (some j) vs]) ∧
  (∀ (p : PartParams) (v : Nat), p.ok →
      let urgent := min 100000 v
      let due := min 1000000 (max p.urgent v)
      (p.set 1 v).due = max p.due urgent ∧ (p.set 1 v).lookahead = max p.lookahead (max p.due urgent) ∧
      (p.set 2 v).lookahead = max p.lookahead due ∧
      [1, 2, 3, 4, 5, 6, 7, 8].map partRelated = [[2, 3], [3], [], [], [], [], [], []] ∧
      [1, 2, 3, 4, 5, 6, 7, 8].map p.range = [(0, 100000), (p.urgent, 1000000), (p.due, 10000000), (10000, 1000000),
        (0, 255), (10, 10000), (25, 100), (0, 60000)] ∧
      [1, 2, 3, 4, 5, 6, 7, 8].map p.value = [p.urgent, p.due, p.lookahead, p.scrubTarget, p.settle, p.heartbeatPeriod,
        p.heartbeatWindow, p.grace].map some ∧
      [1, 2, 3, 4, 5, 6, 7, 8].map PartParams.default.value =
        [8000, 50000, 500000, 80000, 40, 1000, 50, 5000].map some) ∧
  (∀ (p : SpanParams) (v : Nat), p.ok →
      let depth := min 8 (max 1 v)
      let ceiling := min 950000 (max 100000 v)
      let top := min 10000000 (max 1000 v)
      let numbers := [1, 2, 3, 4, 5, 6, 7, 8, 9, 10, 11, 12, 13, 14, 15]
      (p.set 3 v).background = min p.background (depth - 1) ∧ (p.set 5 v).floor = min p.floor ceiling ∧
      (p.set 12 v).trip = max p.trip top ∧
      numbers.map spanRelated = [[], [], [4], [], [6], [], [], [], [], [], [], [13], [], [], []] ∧
      numbers.map p.range = [(1, 65535), (1, 65535), (1, 8), (0, p.depth - 1), (100000, 950000), (100000, p.ceiling),
        (10000, 100000), (1, 4), (1, 16), (0, 1), (10, 1000), (1000, 10000000), (p.top, 10000000), (10, 10000),
        (0, 2000)] ∧
      numbers.map p.value = [p.overhead, p.transfer, p.depth, p.background, p.ceiling, p.floor, p.step, p.delay,
        p.recover, (if p.auto then 1 else 0), p.window, p.top, p.trip, p.timeout, p.relinkHold].map some ∧
      numbers.map SpanParams.default.value = [4000, 4000, 4, 1, 850000, 500000, 50000, 2, 8, 1, 100, 60000, 250000, 1000,
        500].map some) ∧
  ∀ (before after : Nat → Option Nat) (ks : List Nat),
    movedBy before after ks = ks.filter fun i => decide (before i ≠ after i)

/-- Each block takes from the report the parameters it reads and keeps the rest: the Admission Unit default settle and
orphan grace, or a span's C, T and configured ceiling; the Deadline Unit the class bounds and the scrub target; a Node
Port heartbeat period and window; an arbiter the class bounds, with its window-opening timer re-armed and a selection
begun while the link is UP, or D and B with a selection begun; the monitor step, delay, recover windows, auto-derate,
window and latencies; a Span Service Unit command timeout and relink hold. The report is consumed and nothing else
changes. Rests also on the model's own readings (notes/assumptions 12 and 43). (R40, R100, R101, R142, R151, R187,
R188.) -/
def Obligations.ParameterReportReachesItsBlock : Prop :=
  ∀ (s : State) (b : ParamBlock) (scope : Option SpanId) (vs : List (Nat × Nat)) (before after : List Report),
    (vs.map Prod.fst).Nodup → s.offers (toBlock b) (.param b scope vs) before after →
    let u : State := { s with reports := before ++ after }
    let get (k old : Nat) := (vs.lookup k).getD old
    (b = .admission → scope = none → exec (.parameterReport b) s = .next { u with
      defaultSettle := get 5 s.defaultSettle, orphanGrace := get 8 s.orphanGrace }) ∧
    (∀ j, b = .admission → scope = some j → exec (.parameterReport b) s = .next (u.modBudget j fun x => { x with
      overhead := get 1 x.overhead, transfer := get 2 x.transfer, ceiling := get 5 x.ceiling })) ∧
    (b = .deadlineUnit → exec (.parameterReport b) s = .next { u with deadlineUnit := {
      urgent := get 1 s.deadlineUnit.urgent, due := get 2 s.deadlineUnit.due,
      lookahead := get 3 s.deadlineUnit.lookahead, scrubTarget := get 4 s.deadlineUnit.scrubTarget } }) ∧
    (∀ n, b = .nodePort n → exec (.parameterReport b) s = .next (u.modNode n fun x => { x with
      heartbeatPeriod := get 6 x.heartbeatPeriod, heartbeatWindow := get 7 x.heartbeatWindow })) ∧
    (∀ j, b = .arbiter j →
      let begun (v : State) := if (s.span j).service.link = .up then
          v.modArbiter j fun a => { a with selections := a.selections + 1 } else v
      (scope = none →
        let v := u.modArbiter j fun x => { x with
          urgent := get 1 x.urgent, due := get 2 x.due, lookahead := get 3 x.lookahead }
        exec (.parameterReport b) s = .next (begun (v.modQueue j fun q => { q with
          windowTimer := v.windowRearmed j q.windowTimer }))) ∧
      (∀ k, scope = some k → exec (.parameterReport b) s = .next (begun (u.modArbiter j fun x => { x with
        depth := get 3 x.depth, backgroundShare := get 4 x.backgroundShare })))) ∧
    (∀ j, b = .monitor j → vs.lookup 6 = none → exec (.parameterReport b) s = .next (u.modMonitor j fun x => { x with
      params := { x.params with
        step := get 7 x.params.step, delay := get 8 x.params.delay, recover := get 9 x.params.recover,
        auto := (match vs.lookup 10 with
          | none => x.params.auto
          | some v => decide (v ≠ 0)),
        window := get 11 x.params.window, top := get 12 x.params.top, trip := get 13 x.params.trip } })) ∧
    (∀ j, b = .service j → exec (.parameterReport b) s = .next (u.modService j fun x => { x with
      commandTimeout := get 14 x.commandTimeout, relinkHold := get 15 x.relinkHold }))

/-- If the stream table is in its canonical form and on every span committed is the sum of U over the streams' reserved
entries and overcommit says whether it exceeds the effective ceiling last reported, then so after every step. (R12,
R13, R18, R19.) -/
def Obligations.StepKeepsCommittedEqualToReservations : Prop :=
  ∀ s t : State, s.budgetOk → step s = .next t → t.budgetOk

/-- If every stream's outstanding count is the number of frame records in use carrying its id, and every frame record in
use carries the id of a stream record in use (with the two tables in canonical form), then so after every step. (R4,
R17, R67.) -/
def Obligations.StepKeepsOutstandingEqualToFramesInUse : Prop :=
  ∀ s t : State, s.outstandingOk → step s = .next t → t.outstandingOk

/-- If every owner and the claim holder are ATTACHED, a free claim counts no sets, every stream in STOPPED, PLAYING or
SCRUBBING has an owner and an ORPHANED one none, and anchor, prior state, orphan timer, settle timer and scrub list
stand exactly in the states that carry them, then so after every step. (R1, R3, R28, R80, R158, R181.) -/
def Obligations.StepKeepsOwnersAttachedAndFieldsByState : Prop :=
  ∀ s t : State, s.ownersOk → step s = .next t → t.ownersOk

/-- If on every span the link is ABSENT exactly when its presence line is deasserted, an attempt number is 1 to 4, every
slot is FREE and no selection is in progress while the link is not UP, and the relink hold runs only in TRAINING and
FAILED, then so after every step. (R89, R110, R115, R118, R119, R120.) -/
def Obligations.StepKeepsSlotsFreeOffAnUpLink : Prop :=
  ∀ s t : State, s.linksOk → step s = .next t → t.linksOk

/-- If every parameter of the Configuration Block stands within its range and at every monitor derate floor ≤ effective
ceiling ≤ configured ceiling ≤ 950,000 ppm, with reports in flight that lead its floor and ceiling to the
Configuration Block's, then so after every step. (R129, R134, R135, R141, R142, R143, R185, R186.) -/
def Obligations.StepKeepsCeilingsAndParametersInBounds : Prop :=
  ∀ s t : State, s.ceilingsOk → step s = .next t → t.ceilingsOk

/-- If every node port holds at most 16 commands, at most 64 records and reserved places together, and exactly one
reserved place for each command stored and, while ATTACHED, for each accepted read still unanswered, then so after
every step, as long as no frame record carries the epoch its node's next ATTACH would give (R149 says none stays
outstanding across 65,536 attachments). (R66, R147, R149, R157, R166, R168.) -/
def Obligations.StepKeepsAPlaceForEveryAnswer : Prop :=
  ∀ s t : State, s.exchangeOk → s.epochsFresh → step s = .next t → t.exchangeOk

/-- If frames and pieces refer to each other, each span's lists hold exactly its QUEUED pieces, each once and by its
frame's deadline, each HELD piece belongs to a frame without deadline whose unfinished pieces are all HELD, each
IN_SERVICE piece is in one BUSY slot of its span or has its one outcome in flight, and no slot and no outcome names
another record, then so after every step. (R47, R48, R49, R50, R84, R86, R105.) -/
def Obligations.StepKeepsEveryPieceInItsPlace : Prop :=
  ∀ s t : State, s.piecesOk → step s = .next t → t.piecesOk

/-- If every piece has its place, no stream has more frames outstanding than its prefetch depth of 1 or more, and every
frame of a scrub list, which holds each once, is a frame of that stream without cancel reason whose unfinished pieces
all wait, then the same of depths and scrub lists after every step. (R67, R71, R73, R74, R75, R78.) -/
def Obligations.StepKeepsOutstandingWithinPrefetchDepth : Prop :=
  ∀ s t : State, s.piecesOk → s.depthOk → step s = .next t → t.depthOk

/-- Right after power-on reset, whatever the levels of the presence lines and the states of the PCIe links, every
parameter is within its range, committed is what is reserved, outstanding counts are the frames in use and within
their depths, owners are ATTACHED, slots are FREE off an UP link, the ceilings stand within their bounds, every answer
owed has its place and every piece its own. State.reset is the case of every line asserted and every link up
(notes/assumptions 6). (R24, R69, R125, R145, R163, R191.) -/
def Obligations.EveryInvariantHoldsAtPowerOnReset : Prop :=
  ∀ (presence : Vector Bool 8) (linkUp : Vector Bool 4),
    let s := State.cold presence linkUp
    s.configOk ∧ s.budgetOk ∧ s.outstandingOk ∧ s.ownersOk ∧ s.linksOk ∧ s.ceilingsOk ∧ s.exchangeOk ∧ s.epochsFresh ∧
    s.piecesOk ∧ s.depthOk

end
end

