-- ==== Sys2Proof/Laws/State.lean ====
section
/-! SUPPORT. One lemma per field per update of the state: what an update of one part leaves as it was, and what a reading
of the updated part gives. -/

namespace Sys2Proof.Machine

set_option Elab.async false

/-! ## Fields that an update does not touch -/

@[simp] theorem State.modNode_pending (s : State) (n : NodeId) (f : Node → Node) : (s.modNode n f).pending = s.pending := rfl
@[simp] theorem State.modNode_time (s : State) (n : NodeId) (f : Node → Node) : (s.modNode n f).time = s.time := rfl
@[simp] theorem State.modNode_gens (s : State) (n : NodeId) (f : Node → Node) : (s.modNode n f).gens = s.gens := rfl
@[simp] theorem State.modNode_streams (s : State) (n : NodeId) (f : Node → Node) : (s.modNode n f).streams = s.streams := rfl
@[simp] theorem State.modNode_defaultSettle (s : State) (n : NodeId) (f : Node → Node) : (s.modNode n f).defaultSettle = s.defaultSettle := rfl
@[simp] theorem State.modNode_orphanGrace (s : State) (n : NodeId) (f : Node → Node) : (s.modNode n f).orphanGrace = s.orphanGrace := rfl
@[simp] theorem State.modNode_deadlineUnit (s : State) (n : NodeId) (f : Node → Node) : (s.modNode n f).deadlineUnit = s.deadlineUnit := rfl
@[simp] theorem State.modNode_frames (s : State) (n : NodeId) (f : Node → Node) : (s.modNode n f).frames = s.frames := rfl
@[simp] theorem State.modNode_pieces (s : State) (n : NodeId) (f : Node → Node) : (s.modNode n f).pieces = s.pieces := rfl
@[simp] theorem State.modNode_arrival (s : State) (n : NodeId) (f : Node → Node) : (s.modNode n f).arrival = s.arrival := rfl
@[simp] theorem State.modNode_spans (s : State) (n : NodeId) (f : Node → Node) : (s.modNode n f).spans = s.spans := rfl
@[simp] theorem State.modNode_config (s : State) (n : NodeId) (f : Node → Node) : (s.modNode n f).config = s.config := rfl
@[simp] theorem State.modNode_reports (s : State) (n : NodeId) (f : Node → Node) : (s.modNode n f).reports = s.reports := rfl

@[simp] theorem State.modSpan_pending (s : State) (j : SpanId) (f : SpanState → SpanState) : (s.modSpan j f).pending = s.pending := rfl
@[simp] theorem State.modSpan_time (s : State) (j : SpanId) (f : SpanState → SpanState) : (s.modSpan j f).time = s.time := rfl
@[simp] theorem State.modSpan_gens (s : State) (j : SpanId) (f : SpanState → SpanState) : (s.modSpan j f).gens = s.gens := rfl
@[simp] theorem State.modSpan_streams (s : State) (j : SpanId) (f : SpanState → SpanState) : (s.modSpan j f).streams = s.streams := rfl
@[simp] theorem State.modSpan_defaultSettle (s : State) (j : SpanId) (f : SpanState → SpanState) : (s.modSpan j f).defaultSettle = s.defaultSettle := rfl
@[simp] theorem State.modSpan_orphanGrace (s : State) (j : SpanId) (f : SpanState → SpanState) : (s.modSpan j f).orphanGrace = s.orphanGrace := rfl
@[simp] theorem State.modSpan_deadlineUnit (s : State) (j : SpanId) (f : SpanState → SpanState) : (s.modSpan j f).deadlineUnit = s.deadlineUnit := rfl
@[simp] theorem State.modSpan_frames (s : State) (j : SpanId) (f : SpanState → SpanState) : (s.modSpan j f).frames = s.frames := rfl
@[simp] theorem State.modSpan_pieces (s : State) (j : SpanId) (f : SpanState → SpanState) : (s.modSpan j f).pieces = s.pieces := rfl
@[simp] theorem State.modSpan_arrival (s : State) (j : SpanId) (f : SpanState → SpanState) : (s.modSpan j f).arrival = s.arrival := rfl
@[simp] theorem State.modSpan_nodes (s : State) (j : SpanId) (f : SpanState → SpanState) : (s.modSpan j f).nodes = s.nodes := rfl
@[simp] theorem State.modSpan_config (s : State) (j : SpanId) (f : SpanState → SpanState) : (s.modSpan j f).config = s.config := rfl
@[simp] theorem State.modSpan_reports (s : State) (j : SpanId) (f : SpanState → SpanState) : (s.modSpan j f).reports = s.reports := rfl

@[simp] theorem State.modQueue_pending (s : State) (j : SpanId) (f : SpanQueue → SpanQueue) : (s.modQueue j f).pending = s.pending := rfl
@[simp] theorem State.modQueue_time (s : State) (j : SpanId) (f : SpanQueue → SpanQueue) : (s.modQueue j f).time = s.time := rfl
@[simp] theorem State.modQueue_gens (s : State) (j : SpanId) (f : SpanQueue → SpanQueue) : (s.modQueue j f).gens = s.gens := rfl
@[simp] theorem State.modQueue_streams (s : State) (j : SpanId) (f : SpanQueue → SpanQueue) : (s.modQueue j f).streams = s.streams := rfl
@[simp] theorem State.modQueue_defaultSettle (s : State) (j : SpanId) (f : SpanQueue → SpanQueue) : (s.modQueue j f).defaultSettle = s.defaultSettle := rfl
@[simp] theorem State.modQueue_orphanGrace (s : State) (j : SpanId) (f : SpanQueue → SpanQueue) : (s.modQueue j f).orphanGrace = s.orphanGrace := rfl
@[simp] theorem State.modQueue_deadlineUnit (s : State) (j : SpanId) (f : SpanQueue → SpanQueue) : (s.modQueue j f).deadlineUnit = s.deadlineUnit := rfl
@[simp] theorem State.modQueue_frames (s : State) (j : SpanId) (f : SpanQueue → SpanQueue) : (s.modQueue j f).frames = s.frames := rfl
@[simp] theorem State.modQueue_pieces (s : State) (j : SpanId) (f : SpanQueue → SpanQueue) : (s.modQueue j f).pieces = s.pieces := rfl
@[simp] theorem State.modQueue_arrival (s : State) (j : SpanId) (f : SpanQueue → SpanQueue) : (s.modQueue j f).arrival = s.arrival := rfl
@[simp] theorem State.modQueue_nodes (s : State) (j : SpanId) (f : SpanQueue → SpanQueue) : (s.modQueue j f).nodes = s.nodes := rfl
@[simp] theorem State.modQueue_config (s : State) (j : SpanId) (f : SpanQueue → SpanQueue) : (s.modQueue j f).config = s.config := rfl
@[simp] theorem State.modQueue_reports (s : State) (j : SpanId) (f : SpanQueue → SpanQueue) : (s.modQueue j f).reports = s.reports := rfl

@[simp] theorem State.modArbiter_pending (s : State) (j : SpanId) (f : Arbiter → Arbiter) : (s.modArbiter j f).pending = s.pending := rfl
@[simp] theorem State.modArbiter_time (s : State) (j : SpanId) (f : Arbiter → Arbiter) : (s.modArbiter j f).time = s.time := rfl
@[simp] theorem State.modArbiter_gens (s : State) (j : SpanId) (f : Arbiter → Arbiter) : (s.modArbiter j f).gens = s.gens := rfl
@[simp] theorem State.modArbiter_streams (s : State) (j : SpanId) (f : Arbiter → Arbiter) : (s.modArbiter j f).streams = s.streams := rfl
@[simp] theorem State.modArbiter_defaultSettle (s : State) (j : SpanId) (f : Arbiter → Arbiter) : (s.modArbiter j f).defaultSettle = s.defaultSettle := rfl
@[simp] theorem State.modArbiter_orphanGrace (s : State) (j : SpanId) (f : Arbiter → Arbiter) : (s.modArbiter j f).orphanGrace = s.orphanGrace := rfl
@[simp] theorem State.modArbiter_deadlineUnit (s : State) (j : SpanId) (f : Arbiter → Arbiter) : (s.modArbiter j f).deadlineUnit = s.deadlineUnit := rfl
@[simp] theorem State.modArbiter_frames (s : State) (j : SpanId) (f : Arbiter → Arbiter) : (s.modArbiter j f).frames = s.frames := rfl
@[simp] theorem State.modArbiter_pieces (s : State) (j : SpanId) (f : Arbiter → Arbiter) : (s.modArbiter j f).pieces = s.pieces := rfl
@[simp] theorem State.modArbiter_arrival (s : State) (j : SpanId) (f : Arbiter → Arbiter) : (s.modArbiter j f).arrival = s.arrival := rfl
@[simp] theorem State.modArbiter_nodes (s : State) (j : SpanId) (f : Arbiter → Arbiter) : (s.modArbiter j f).nodes = s.nodes := rfl
@[simp] theorem State.modArbiter_config (s : State) (j : SpanId) (f : Arbiter → Arbiter) : (s.modArbiter j f).config = s.config := rfl
@[simp] theorem State.modArbiter_reports (s : State) (j : SpanId) (f : Arbiter → Arbiter) : (s.modArbiter j f).reports = s.reports := rfl

@[simp] theorem State.modService_pending (s : State) (j : SpanId) (f : SpanService → SpanService) : (s.modService j f).pending = s.pending := rfl
@[simp] theorem State.modService_time (s : State) (j : SpanId) (f : SpanService → SpanService) : (s.modService j f).time = s.time := rfl
@[simp] theorem State.modService_gens (s : State) (j : SpanId) (f : SpanService → SpanService) : (s.modService j f).gens = s.gens := rfl
@[simp] theorem State.modService_streams (s : State) (j : SpanId) (f : SpanService → SpanService) : (s.modService j f).streams = s.streams := rfl
@[simp] theorem State.modService_defaultSettle (s : State) (j : SpanId) (f : SpanService → SpanService) : (s.modService j f).defaultSettle = s.defaultSettle := rfl
@[simp] theorem State.modService_orphanGrace (s : State) (j : SpanId) (f : SpanService → SpanService) : (s.modService j f).orphanGrace = s.orphanGrace := rfl
@[simp] theorem State.modService_deadlineUnit (s : State) (j : SpanId) (f : SpanService → SpanService) : (s.modService j f).deadlineUnit = s.deadlineUnit := rfl
@[simp] theorem State.modService_frames (s : State) (j : SpanId) (f : SpanService → SpanService) : (s.modService j f).frames = s.frames := rfl
@[simp] theorem State.modService_pieces (s : State) (j : SpanId) (f : SpanService → SpanService) : (s.modService j f).pieces = s.pieces := rfl
@[simp] theorem State.modService_arrival (s : State) (j : SpanId) (f : SpanService → SpanService) : (s.modService j f).arrival = s.arrival := rfl
@[simp] theorem State.modService_nodes (s : State) (j : SpanId) (f : SpanService → SpanService) : (s.modService j f).nodes = s.nodes := rfl
@[simp] theorem State.modService_config (s : State) (j : SpanId) (f : SpanService → SpanService) : (s.modService j f).config = s.config := rfl
@[simp] theorem State.modService_reports (s : State) (j : SpanId) (f : SpanService → SpanService) : (s.modService j f).reports = s.reports := rfl

@[simp] theorem State.modMonitor_pending (s : State) (j : SpanId) (f : Monitor → Monitor) : (s.modMonitor j f).pending = s.pending := rfl
@[simp] theorem State.modMonitor_time (s : State) (j : SpanId) (f : Monitor → Monitor) : (s.modMonitor j f).time = s.time := rfl
@[simp] theorem State.modMonitor_gens (s : State) (j : SpanId) (f : Monitor → Monitor) : (s.modMonitor j f).gens = s.gens := rfl
@[simp] theorem State.modMonitor_streams (s : State) (j : SpanId) (f : Monitor → Monitor) : (s.modMonitor j f).streams = s.streams := rfl
@[simp] theorem State.modMonitor_defaultSettle (s : State) (j : SpanId) (f : Monitor → Monitor) : (s.modMonitor j f).defaultSettle = s.defaultSettle := rfl
@[simp] theorem State.modMonitor_orphanGrace (s : State) (j : SpanId) (f : Monitor → Monitor) : (s.modMonitor j f).orphanGrace = s.orphanGrace := rfl
@[simp] theorem State.modMonitor_deadlineUnit (s : State) (j : SpanId) (f : Monitor → Monitor) : (s.modMonitor j f).deadlineUnit = s.deadlineUnit := rfl
@[simp] theorem State.modMonitor_frames (s : State) (j : SpanId) (f : Monitor → Monitor) : (s.modMonitor j f).frames = s.frames := rfl
@[simp] theorem State.modMonitor_pieces (s : State) (j : SpanId) (f : Monitor → Monitor) : (s.modMonitor j f).pieces = s.pieces := rfl
@[simp] theorem State.modMonitor_arrival (s : State) (j : SpanId) (f : Monitor → Monitor) : (s.modMonitor j f).arrival = s.arrival := rfl
@[simp] theorem State.modMonitor_nodes (s : State) (j : SpanId) (f : Monitor → Monitor) : (s.modMonitor j f).nodes = s.nodes := rfl
@[simp] theorem State.modMonitor_config (s : State) (j : SpanId) (f : Monitor → Monitor) : (s.modMonitor j f).config = s.config := rfl
@[simp] theorem State.modMonitor_reports (s : State) (j : SpanId) (f : Monitor → Monitor) : (s.modMonitor j f).reports = s.reports := rfl

@[simp] theorem State.modBudget_pending (s : State) (j : SpanId) (f : Budget → Budget) : (s.modBudget j f).pending = s.pending := rfl
@[simp] theorem State.modBudget_time (s : State) (j : SpanId) (f : Budget → Budget) : (s.modBudget j f).time = s.time := rfl
@[simp] theorem State.modBudget_gens (s : State) (j : SpanId) (f : Budget → Budget) : (s.modBudget j f).gens = s.gens := rfl
@[simp] theorem State.modBudget_streams (s : State) (j : SpanId) (f : Budget → Budget) : (s.modBudget j f).streams = s.streams := rfl
@[simp] theorem State.modBudget_defaultSettle (s : State) (j : SpanId) (f : Budget → Budget) : (s.modBudget j f).defaultSettle = s.defaultSettle := rfl
@[simp] theorem State.modBudget_orphanGrace (s : State) (j : SpanId) (f : Budget → Budget) : (s.modBudget j f).orphanGrace = s.orphanGrace := rfl
@[simp] theorem State.modBudget_deadlineUnit (s : State) (j : SpanId) (f : Budget → Budget) : (s.modBudget j f).deadlineUnit = s.deadlineUnit := rfl
@[simp] theorem State.modBudget_frames (s : State) (j : SpanId) (f : Budget → Budget) : (s.modBudget j f).frames = s.frames := rfl
@[simp] theorem State.modBudget_pieces (s : State) (j : SpanId) (f : Budget → Budget) : (s.modBudget j f).pieces = s.pieces := rfl
@[simp] theorem State.modBudget_arrival (s : State) (j : SpanId) (f : Budget → Budget) : (s.modBudget j f).arrival = s.arrival := rfl
@[simp] theorem State.modBudget_nodes (s : State) (j : SpanId) (f : Budget → Budget) : (s.modBudget j f).nodes = s.nodes := rfl
@[simp] theorem State.modBudget_config (s : State) (j : SpanId) (f : Budget → Budget) : (s.modBudget j f).config = s.config := rfl
@[simp] theorem State.modBudget_reports (s : State) (j : SpanId) (f : Budget → Budget) : (s.modBudget j f).reports = s.reports := rfl

@[simp] theorem State.modConfig_pending (s : State) (f : ConfigBlock → ConfigBlock) : (s.modConfig f).pending = s.pending := rfl
@[simp] theorem State.modConfig_time (s : State) (f : ConfigBlock → ConfigBlock) : (s.modConfig f).time = s.time := rfl
@[simp] theorem State.modConfig_gens (s : State) (f : ConfigBlock → ConfigBlock) : (s.modConfig f).gens = s.gens := rfl
@[simp] theorem State.modConfig_streams (s : State) (f : ConfigBlock → ConfigBlock) : (s.modConfig f).streams = s.streams := rfl
@[simp] theorem State.modConfig_defaultSettle (s : State) (f : ConfigBlock → ConfigBlock) : (s.modConfig f).defaultSettle = s.defaultSettle := rfl
@[simp] theorem State.modConfig_orphanGrace (s : State) (f : ConfigBlock → ConfigBlock) : (s.modConfig f).orphanGrace = s.orphanGrace := rfl
@[simp] theorem State.modConfig_deadlineUnit (s : State) (f : ConfigBlock → ConfigBlock) : (s.modConfig f).deadlineUnit = s.deadlineUnit := rfl
@[simp] theorem State.modConfig_frames (s : State) (f : ConfigBlock → ConfigBlock) : (s.modConfig f).frames = s.frames := rfl
@[simp] theorem State.modConfig_pieces (s : State) (f : ConfigBlock → ConfigBlock) : (s.modConfig f).pieces = s.pieces := rfl
@[simp] theorem State.modConfig_arrival (s : State) (f : ConfigBlock → ConfigBlock) : (s.modConfig f).arrival = s.arrival := rfl
@[simp] theorem State.modConfig_nodes (s : State) (f : ConfigBlock → ConfigBlock) : (s.modConfig f).nodes = s.nodes := rfl
@[simp] theorem State.modConfig_spans (s : State) (f : ConfigBlock → ConfigBlock) : (s.modConfig f).spans = s.spans := rfl
@[simp] theorem State.modConfig_reports (s : State) (f : ConfigBlock → ConfigBlock) : (s.modConfig f).reports = s.reports := rfl

@[simp] theorem State.modStream_pending (s : State) (h : Handle) (f : Stream → Stream) : (s.modStream h f).pending = s.pending := rfl
@[simp] theorem State.modStream_time (s : State) (h : Handle) (f : Stream → Stream) : (s.modStream h f).time = s.time := rfl
@[simp] theorem State.modStream_gens (s : State) (h : Handle) (f : Stream → Stream) : (s.modStream h f).gens = s.gens := rfl
@[simp] theorem State.modStream_defaultSettle (s : State) (h : Handle) (f : Stream → Stream) : (s.modStream h f).defaultSettle = s.defaultSettle := rfl
@[simp] theorem State.modStream_orphanGrace (s : State) (h : Handle) (f : Stream → Stream) : (s.modStream h f).orphanGrace = s.orphanGrace := rfl
@[simp] theorem State.modStream_deadlineUnit (s : State) (h : Handle) (f : Stream → Stream) : (s.modStream h f).deadlineUnit = s.deadlineUnit := rfl
@[simp] theorem State.modStream_frames (s : State) (h : Handle) (f : Stream → Stream) : (s.modStream h f).frames = s.frames := rfl
@[simp] theorem State.modStream_pieces (s : State) (h : Handle) (f : Stream → Stream) : (s.modStream h f).pieces = s.pieces := rfl
@[simp] theorem State.modStream_arrival (s : State) (h : Handle) (f : Stream → Stream) : (s.modStream h f).arrival = s.arrival := rfl
@[simp] theorem State.modStream_nodes (s : State) (h : Handle) (f : Stream → Stream) : (s.modStream h f).nodes = s.nodes := rfl
@[simp] theorem State.modStream_spans (s : State) (h : Handle) (f : Stream → Stream) : (s.modStream h f).spans = s.spans := rfl
@[simp] theorem State.modStream_config (s : State) (h : Handle) (f : Stream → Stream) : (s.modStream h f).config = s.config := rfl
@[simp] theorem State.modStream_reports (s : State) (h : Handle) (f : Stream → Stream) : (s.modStream h f).reports = s.reports := rfl

@[simp] theorem State.modFrame_pending (s : State) (i : Nat) (f : Frame → Frame) : (s.modFrame i f).pending = s.pending := rfl
@[simp] theorem State.modFrame_time (s : State) (i : Nat) (f : Frame → Frame) : (s.modFrame i f).time = s.time := rfl
@[simp] theorem State.modFrame_gens (s : State) (i : Nat) (f : Frame → Frame) : (s.modFrame i f).gens = s.gens := rfl
@[simp] theorem State.modFrame_streams (s : State) (i : Nat) (f : Frame → Frame) : (s.modFrame i f).streams = s.streams := rfl
@[simp] theorem State.modFrame_defaultSettle (s : State) (i : Nat) (f : Frame → Frame) : (s.modFrame i f).defaultSettle = s.defaultSettle := rfl
@[simp] theorem State.modFrame_orphanGrace (s : State) (i : Nat) (f : Frame → Frame) : (s.modFrame i f).orphanGrace = s.orphanGrace := rfl
@[simp] theorem State.modFrame_deadlineUnit (s : State) (i : Nat) (f : Frame → Frame) : (s.modFrame i f).deadlineUnit = s.deadlineUnit := rfl
@[simp] theorem State.modFrame_pieces (s : State) (i : Nat) (f : Frame → Frame) : (s.modFrame i f).pieces = s.pieces := rfl
@[simp] theorem State.modFrame_arrival (s : State) (i : Nat) (f : Frame → Frame) : (s.modFrame i f).arrival = s.arrival := rfl
@[simp] theorem State.modFrame_nodes (s : State) (i : Nat) (f : Frame → Frame) : (s.modFrame i f).nodes = s.nodes := rfl
@[simp] theorem State.modFrame_spans (s : State) (i : Nat) (f : Frame → Frame) : (s.modFrame i f).spans = s.spans := rfl
@[simp] theorem State.modFrame_config (s : State) (i : Nat) (f : Frame → Frame) : (s.modFrame i f).config = s.config := rfl
@[simp] theorem State.modFrame_reports (s : State) (i : Nat) (f : Frame → Frame) : (s.modFrame i f).reports = s.reports := rfl

@[simp] theorem State.modPiece_pending (s : State) (p : Nat) (f : Piece → Piece) : (s.modPiece p f).pending = s.pending := rfl
@[simp] theorem State.modPiece_time (s : State) (p : Nat) (f : Piece → Piece) : (s.modPiece p f).time = s.time := rfl
@[simp] theorem State.modPiece_gens (s : State) (p : Nat) (f : Piece → Piece) : (s.modPiece p f).gens = s.gens := rfl
@[simp] theorem State.modPiece_streams (s : State) (p : Nat) (f : Piece → Piece) : (s.modPiece p f).streams = s.streams := rfl
@[simp] theorem State.modPiece_defaultSettle (s : State) (p : Nat) (f : Piece → Piece) : (s.modPiece p f).defaultSettle = s.defaultSettle := rfl
@[simp] theorem State.modPiece_orphanGrace (s : State) (p : Nat) (f : Piece → Piece) : (s.modPiece p f).orphanGrace = s.orphanGrace := rfl
@[simp] theorem State.modPiece_deadlineUnit (s : State) (p : Nat) (f : Piece → Piece) : (s.modPiece p f).deadlineUnit = s.deadlineUnit := rfl
@[simp] theorem State.modPiece_frames (s : State) (p : Nat) (f : Piece → Piece) : (s.modPiece p f).frames = s.frames := rfl
@[simp] theorem State.modPiece_arrival (s : State) (p : Nat) (f : Piece → Piece) : (s.modPiece p f).arrival = s.arrival := rfl
@[simp] theorem State.modPiece_nodes (s : State) (p : Nat) (f : Piece → Piece) : (s.modPiece p f).nodes = s.nodes := rfl
@[simp] theorem State.modPiece_spans (s : State) (p : Nat) (f : Piece → Piece) : (s.modPiece p f).spans = s.spans := rfl
@[simp] theorem State.modPiece_config (s : State) (p : Nat) (f : Piece → Piece) : (s.modPiece p f).config = s.config := rfl
@[simp] theorem State.modPiece_reports (s : State) (p : Nat) (f : Piece → Piece) : (s.modPiece p f).reports = s.reports := rfl

@[simp] theorem State.post_pending (s : State) (r : Report) : (s.post r).pending = s.pending := rfl
@[simp] theorem State.post_time (s : State) (r : Report) : (s.post r).time = s.time := rfl
@[simp] theorem State.post_gens (s : State) (r : Report) : (s.post r).gens = s.gens := rfl
@[simp] theorem State.post_streams (s : State) (r : Report) : (s.post r).streams = s.streams := rfl
@[simp] theorem State.post_defaultSettle (s : State) (r : Report) : (s.post r).defaultSettle = s.defaultSettle := rfl
@[simp] theorem State.post_orphanGrace (s : State) (r : Report) : (s.post r).orphanGrace = s.orphanGrace := rfl
@[simp] theorem State.post_deadlineUnit (s : State) (r : Report) : (s.post r).deadlineUnit = s.deadlineUnit := rfl
@[simp] theorem State.post_frames (s : State) (r : Report) : (s.post r).frames = s.frames := rfl
@[simp] theorem State.post_pieces (s : State) (r : Report) : (s.post r).pieces = s.pieces := rfl
@[simp] theorem State.post_arrival (s : State) (r : Report) : (s.post r).arrival = s.arrival := rfl
@[simp] theorem State.post_nodes (s : State) (r : Report) : (s.post r).nodes = s.nodes := rfl
@[simp] theorem State.post_spans (s : State) (r : Report) : (s.post r).spans = s.spans := rfl
@[simp] theorem State.post_config (s : State) (r : Report) : (s.post r).config = s.config := rfl

@[simp] theorem State.postAll_pending (s : State) (rs : List Report) : (s.postAll rs).pending = s.pending := rfl
@[simp] theorem State.postAll_time (s : State) (rs : List Report) : (s.postAll rs).time = s.time := rfl
@[simp] theorem State.postAll_gens (s : State) (rs : List Report) : (s.postAll rs).gens = s.gens := rfl
@[simp] theorem State.postAll_streams (s : State) (rs : List Report) : (s.postAll rs).streams = s.streams := rfl
@[simp] theorem State.postAll_defaultSettle (s : State) (rs : List Report) : (s.postAll rs).defaultSettle = s.defaultSettle := rfl
@[simp] theorem State.postAll_orphanGrace (s : State) (rs : List Report) : (s.postAll rs).orphanGrace = s.orphanGrace := rfl
@[simp] theorem State.postAll_deadlineUnit (s : State) (rs : List Report) : (s.postAll rs).deadlineUnit = s.deadlineUnit := rfl
@[simp] theorem State.postAll_frames (s : State) (rs : List Report) : (s.postAll rs).frames = s.frames := rfl
@[simp] theorem State.postAll_pieces (s : State) (rs : List Report) : (s.postAll rs).pieces = s.pieces := rfl
@[simp] theorem State.postAll_arrival (s : State) (rs : List Report) : (s.postAll rs).arrival = s.arrival := rfl
@[simp] theorem State.postAll_nodes (s : State) (rs : List Report) : (s.postAll rs).nodes = s.nodes := rfl
@[simp] theorem State.postAll_spans (s : State) (rs : List Report) : (s.postAll rs).spans = s.spans := rfl
@[simp] theorem State.postAll_config (s : State) (rs : List Report) : (s.postAll rs).config = s.config := rfl

@[simp] theorem State.bumpGen_pending (s : State) (h : Handle) : (s.bumpGen h).pending = s.pending := rfl
@[simp] theorem State.bumpGen_time (s : State) (h : Handle) : (s.bumpGen h).time = s.time := rfl
@[simp] theorem State.bumpGen_streams (s : State) (h : Handle) : (s.bumpGen h).streams = s.streams := rfl
@[simp] theorem State.bumpGen_defaultSettle (s : State) (h : Handle) : (s.bumpGen h).defaultSettle = s.defaultSettle := rfl
@[simp] theorem State.bumpGen_orphanGrace (s : State) (h : Handle) : (s.bumpGen h).orphanGrace = s.orphanGrace := rfl
@[simp] theorem State.bumpGen_deadlineUnit (s : State) (h : Handle) : (s.bumpGen h).deadlineUnit = s.deadlineUnit := rfl
@[simp] theorem State.bumpGen_frames (s : State) (h : Handle) : (s.bumpGen h).frames = s.frames := rfl
@[simp] theorem State.bumpGen_pieces (s : State) (h : Handle) : (s.bumpGen h).pieces = s.pieces := rfl
@[simp] theorem State.bumpGen_arrival (s : State) (h : Handle) : (s.bumpGen h).arrival = s.arrival := rfl
@[simp] theorem State.bumpGen_nodes (s : State) (h : Handle) : (s.bumpGen h).nodes = s.nodes := rfl
@[simp] theorem State.bumpGen_spans (s : State) (h : Handle) : (s.bumpGen h).spans = s.spans := rfl
@[simp] theorem State.bumpGen_config (s : State) (h : Handle) : (s.bumpGen h).config = s.config := rfl
@[simp] theorem State.bumpGen_reports (s : State) (h : Handle) : (s.bumpGen h).reports = s.reports := rfl

@[simp] theorem State.tick_pending (s : State) : s.tick.pending = s.pending := rfl
@[simp] theorem State.tick_gens (s : State) : s.tick.gens = s.gens := rfl
@[simp] theorem State.tick_streams (s : State) : s.tick.streams = s.streams := rfl
@[simp] theorem State.tick_defaultSettle (s : State) : s.tick.defaultSettle = s.defaultSettle := rfl
@[simp] theorem State.tick_orphanGrace (s : State) : s.tick.orphanGrace = s.orphanGrace := rfl
@[simp] theorem State.tick_deadlineUnit (s : State) : s.tick.deadlineUnit = s.deadlineUnit := rfl
@[simp] theorem State.tick_frames (s : State) : s.tick.frames = s.frames := rfl
@[simp] theorem State.tick_pieces (s : State) : s.tick.pieces = s.pieces := rfl
@[simp] theorem State.tick_arrival (s : State) : s.tick.arrival = s.arrival := rfl
@[simp] theorem State.tick_nodes (s : State) : s.tick.nodes = s.nodes := rfl
@[simp] theorem State.tick_spans (s : State) : s.tick.spans = s.spans := rfl
@[simp] theorem State.tick_config (s : State) : s.tick.config = s.config := rfl
@[simp] theorem State.tick_reports (s : State) : s.tick.reports = s.reports := rfl

@[simp] theorem State.taken_pending (s : State) (n : NodeId) (rest : List (List Byte)) : (s.taken n rest).pending = s.pending := rfl
@[simp] theorem State.taken_time (s : State) (n : NodeId) (rest : List (List Byte)) : (s.taken n rest).time = s.time := rfl
@[simp] theorem State.taken_gens (s : State) (n : NodeId) (rest : List (List Byte)) : (s.taken n rest).gens = s.gens := rfl
@[simp] theorem State.taken_streams (s : State) (n : NodeId) (rest : List (List Byte)) : (s.taken n rest).streams = s.streams := rfl
@[simp] theorem State.taken_defaultSettle (s : State) (n : NodeId) (rest : List (List Byte)) : (s.taken n rest).defaultSettle = s.defaultSettle := rfl
@[simp] theorem State.taken_orphanGrace (s : State) (n : NodeId) (rest : List (List Byte)) : (s.taken n rest).orphanGrace = s.orphanGrace := rfl
@[simp] theorem State.taken_deadlineUnit (s : State) (n : NodeId) (rest : List (List Byte)) : (s.taken n rest).deadlineUnit = s.deadlineUnit := rfl
@[simp] theorem State.taken_frames (s : State) (n : NodeId) (rest : List (List Byte)) : (s.taken n rest).frames = s.frames := rfl
@[simp] theorem State.taken_pieces (s : State) (n : NodeId) (rest : List (List Byte)) : (s.taken n rest).pieces = s.pieces := rfl
@[simp] theorem State.taken_arrival (s : State) (n : NodeId) (rest : List (List Byte)) : (s.taken n rest).arrival = s.arrival := rfl
@[simp] theorem State.taken_spans (s : State) (n : NodeId) (rest : List (List Byte)) : (s.taken n rest).spans = s.spans := rfl
@[simp] theorem State.taken_config (s : State) (n : NodeId) (rest : List (List Byte)) : (s.taken n rest).config = s.config := rfl
@[simp] theorem State.taken_reports (s : State) (n : NodeId) (rest : List (List Byte)) : (s.taken n rest).reports = s.reports := rfl

/-! ## The part that an update changes -/

@[simp] theorem State.modConfig_config (s : State) (f : ConfigBlock → ConfigBlock) :
    (s.modConfig f).config = f s.config := rfl
@[simp] theorem State.modStream_streams (s : State) (h : Handle) (f : Stream → Stream) :
    (s.modStream h f).streams = s.streams.modify h.toNat f := rfl
@[simp] theorem State.modFrame_frames (s : State) (i : Nat) (f : Frame → Frame) :
    (s.modFrame i f).frames = s.frames.modify i f := rfl
@[simp] theorem State.modPiece_pieces (s : State) (p : Nat) (f : Piece → Piece) :
    (s.modPiece p f).pieces = s.pieces.modify p f := rfl
@[simp] theorem State.post_reports (s : State) (r : Report) : (s.post r).reports = s.reports ++ [r] := rfl
@[simp] theorem State.postAll_reports (s : State) (rs : List Report) : (s.postAll rs).reports = s.reports ++ rs := rfl
@[simp] theorem State.tick_time (s : State) : s.tick.time = s.time + 1 := rfl

/-! ## Banks -/

theorem bank4_get {α : Type} (f : NodeId → α) (n : NodeId) : (bank4 f)[n] = f n := by
  match n with
  | 0 => rfl
  | 1 => rfl
  | 2 => rfl
  | 3 => rfl

theorem bank8_get {α : Type} (f : Fin 8 → α) (j : Fin 8) : (bank8 f)[j] = f j := by
  match j with
  | 0 => rfl
  | 1 => rfl
  | 2 => rfl
  | 3 => rfl
  | 4 => rfl
  | 5 => rfl
  | 6 => rfl
  | 7 => rfl

/-! ## Reading a node or a span after an update -/

theorem State.node_modNode (s : State) (n m : NodeId) (f : Node → Node) :
    (s.modNode n f).node m = if m = n then f (s.node n) else s.node m := by
  simp only [State.node, State.modNode, Fin.getElem_fin, Vector.getElem_set]
  by_cases h : m = n
  · subst h; simp
  · simp [h, Fin.val_ne_of_ne (Ne.symm h)]

@[simp] theorem State.node_modNode_self (s : State) (n : NodeId) (f : Node → Node) :
    (s.modNode n f).node n = f (s.node n) := by simp [State.node_modNode]

theorem State.node_modNode_ne (s : State) {n m : NodeId} (h : m ≠ n) (f : Node → Node) :
    (s.modNode n f).node m = s.node m := by simp [State.node_modNode, h]

theorem State.span_modSpan (s : State) (j k : SpanId) (f : SpanState → SpanState) :
    (s.modSpan j f).span k = if k = j then f (s.span j) else s.span k := by
  simp only [State.span, State.modSpan, Fin.getElem_fin, Vector.getElem_set]
  by_cases h : k = j
  · subst h; simp
  · simp [h, Fin.val_ne_of_ne (Ne.symm h)]

@[simp] theorem State.span_modSpan_self (s : State) (j : SpanId) (f : SpanState → SpanState) :
    (s.modSpan j f).span j = f (s.span j) := by simp [State.span_modSpan]

theorem State.span_modSpan_ne (s : State) {j k : SpanId} (h : k ≠ j) (f : SpanState → SpanState) :
    (s.modSpan j f).span k = s.span k := by simp [State.span_modSpan, h]

theorem State.span_modQueue (s : State) (j k : SpanId) (f : SpanQueue → SpanQueue) :
    (s.modQueue j f).span k = if k = j then { s.span j with queue := f (s.span j).queue } else s.span k :=
  State.span_modSpan ..
theorem State.span_modArbiter (s : State) (j k : SpanId) (f : Arbiter → Arbiter) :
    (s.modArbiter j f).span k = if k = j then { s.span j with arbiter := f (s.span j).arbiter } else s.span k :=
  State.span_modSpan ..
theorem State.span_modService (s : State) (j k : SpanId) (f : SpanService → SpanService) :
    (s.modService j f).span k = if k = j then { s.span j with service := f (s.span j).service } else s.span k :=
  State.span_modSpan ..
theorem State.span_modMonitor (s : State) (j k : SpanId) (f : Monitor → Monitor) :
    (s.modMonitor j f).span k = if k = j then { s.span j with monitor := f (s.span j).monitor } else s.span k :=
  State.span_modSpan ..
theorem State.span_modBudget (s : State) (j k : SpanId) (f : Budget → Budget) :
    (s.modBudget j f).span k = if k = j then { s.span j with budget := f (s.span j).budget } else s.span k :=
  State.span_modSpan ..

@[simp] theorem State.span_modNode (s : State) (n : NodeId) (f : Node → Node) (k : SpanId) : (s.modNode n f).span k = s.span k := rfl
@[simp] theorem State.node_modSpan (s : State) (j : SpanId) (f : SpanState → SpanState) (m : NodeId) : (s.modSpan j f).node m = s.node m := rfl
@[simp] theorem State.node_modQueue (s : State) (j : SpanId) (f : SpanQueue → SpanQueue) (m : NodeId) : (s.modQueue j f).node m = s.node m := rfl
@[simp] theorem State.node_modArbiter (s : State) (j : SpanId) (f : Arbiter → Arbiter) (m : NodeId) : (s.modArbiter j f).node m = s.node m := rfl
@[simp] theorem State.node_modService (s : State) (j : SpanId) (f : SpanService → SpanService) (m : NodeId) : (s.modService j f).node m = s.node m := rfl
@[simp] theorem State.node_modMonitor (s : State) (j : SpanId) (f : Monitor → Monitor) (m : NodeId) : (s.modMonitor j f).node m = s.node m := rfl
@[simp] theorem State.node_modBudget (s : State) (j : SpanId) (f : Budget → Budget) (m : NodeId) : (s.modBudget j f).node m = s.node m := rfl
@[simp] theorem State.node_modConfig (s : State) (f : ConfigBlock → ConfigBlock) (m : NodeId) : (s.modConfig f).node m = s.node m := rfl
@[simp] theorem State.span_modConfig (s : State) (f : ConfigBlock → ConfigBlock) (k : SpanId) : (s.modConfig f).span k = s.span k := rfl
@[simp] theorem State.node_modStream (s : State) (h : Handle) (f : Stream → Stream) (m : NodeId) : (s.modStream h f).node m = s.node m := rfl
@[simp] theorem State.span_modStream (s : State) (h : Handle) (f : Stream → Stream) (k : SpanId) : (s.modStream h f).span k = s.span k := rfl
@[simp] theorem State.node_modFrame (s : State) (i : Nat) (f : Frame → Frame) (m : NodeId) : (s.modFrame i f).node m = s.node m := rfl
@[simp] theorem State.span_modFrame (s : State) (i : Nat) (f : Frame → Frame) (k : SpanId) : (s.modFrame i f).span k = s.span k := rfl
@[simp] theorem State.node_modPiece (s : State) (p : Nat) (f : Piece → Piece) (m : NodeId) : (s.modPiece p f).node m = s.node m := rfl
@[simp] theorem State.span_modPiece (s : State) (p : Nat) (f : Piece → Piece) (k : SpanId) : (s.modPiece p f).span k = s.span k := rfl
@[simp] theorem State.node_post (s : State) (r : Report) (m : NodeId) : (s.post r).node m = s.node m := rfl
@[simp] theorem State.span_post (s : State) (r : Report) (k : SpanId) : (s.post r).span k = s.span k := rfl
@[simp] theorem State.node_postAll (s : State) (rs : List Report) (m : NodeId) : (s.postAll rs).node m = s.node m := rfl
@[simp] theorem State.span_postAll (s : State) (rs : List Report) (k : SpanId) : (s.postAll rs).span k = s.span k := rfl
@[simp] theorem State.node_bumpGen (s : State) (h : Handle) (m : NodeId) : (s.bumpGen h).node m = s.node m := rfl
@[simp] theorem State.span_bumpGen (s : State) (h : Handle) (k : SpanId) : (s.bumpGen h).span k = s.span k := rfl
@[simp] theorem State.node_tick (s : State) (m : NodeId) : s.tick.node m = s.node m := rfl
@[simp] theorem State.span_tick (s : State) (k : SpanId) : s.tick.span k = s.span k := rfl
@[simp] theorem State.span_taken (s : State) (n : NodeId) (rest : List (List Byte)) (k : SpanId) : (s.taken n rest).span k = s.span k := rfl

/-! ## Reading one block of a span after an update of another -/

@[simp] theorem State.modQueue_queue_self (s : State) (j : SpanId) (f : SpanQueue → SpanQueue) :
    ((s.modQueue j f).span j).queue = f (s.span j).queue := by simp [State.span_modQueue]
@[simp] theorem State.modQueue_arbiter (s : State) (j k : SpanId) (f : SpanQueue → SpanQueue) :
    ((s.modQueue j f).span k).arbiter = (s.span k).arbiter := by
  by_cases h : k = j <;> simp [State.span_modQueue, h]
@[simp] theorem State.modQueue_service (s : State) (j k : SpanId) (f : SpanQueue → SpanQueue) :
    ((s.modQueue j f).span k).service = (s.span k).service := by
  by_cases h : k = j <;> simp [State.span_modQueue, h]
@[simp] theorem State.modQueue_monitor (s : State) (j k : SpanId) (f : SpanQueue → SpanQueue) :
    ((s.modQueue j f).span k).monitor = (s.span k).monitor := by
  by_cases h : k = j <;> simp [State.span_modQueue, h]
@[simp] theorem State.modQueue_budget (s : State) (j k : SpanId) (f : SpanQueue → SpanQueue) :
    ((s.modQueue j f).span k).budget = (s.span k).budget := by
  by_cases h : k = j <;> simp [State.span_modQueue, h]
@[simp] theorem State.modArbiter_queue (s : State) (j k : SpanId) (f : Arbiter → Arbiter) :
    ((s.modArbiter j f).span k).queue = (s.span k).queue := by
  by_cases h : k = j <;> simp [State.span_modArbiter, h]
@[simp] theorem State.modArbiter_arbiter_self (s : State) (j : SpanId) (f : Arbiter → Arbiter) :
    ((s.modArbiter j f).span j).arbiter = f (s.span j).arbiter := by simp [State.span_modArbiter]
@[simp] theorem State.modArbiter_service (s : State) (j k : SpanId) (f : Arbiter → Arbiter) :
    ((s.modArbiter j f).span k).service = (s.span k).service := by
  by_cases h : k = j <;> simp [State.span_modArbiter, h]
@[simp] theorem State.modArbiter_monitor (s : State) (j k : SpanId) (f : Arbiter → Arbiter) :
    ((s.modArbiter j f).span k).monitor = (s.span k).monitor := by
  by_cases h : k = j <;> simp [State.span_modArbiter, h]
@[simp] theorem State.modArbiter_budget (s : State) (j k : SpanId) (f : Arbiter → Arbiter) :
    ((s.modArbiter j f).span k).budget = (s.span k).budget := by
  by_cases h : k = j <;> simp [State.span_modArbiter, h]
@[simp] theorem State.modService_queue (s : State) (j k : SpanId) (f : SpanService → SpanService) :
    ((s.modService j f).span k).queue = (s.span k).queue := by
  by_cases h : k = j <;> simp [State.span_modService, h]
@[simp] theorem State.modService_arbiter (s : State) (j k : SpanId) (f : SpanService → SpanService) :
    ((s.modService j f).span k).arbiter = (s.span k).arbiter := by
  by_cases h : k = j <;> simp [State.span_modService, h]
@[simp] theorem State.modService_service_self (s : State) (j : SpanId) (f : SpanService → SpanService) :
    ((s.modService j f).span j).service = f (s.span j).service := by simp [State.span_modService]
@[simp] theorem State.modService_monitor (s : State) (j k : SpanId) (f : SpanService → SpanService) :
    ((s.modService j f).span k).monitor = (s.span k).monitor := by
  by_cases h : k = j <;> simp [State.span_modService, h]
@[simp] theorem State.modService_budget (s : State) (j k : SpanId) (f : SpanService → SpanService) :
    ((s.modService j f).span k).budget = (s.span k).budget := by
  by_cases h : k = j <;> simp [State.span_modService, h]
@[simp] theorem State.modMonitor_queue (s : State) (j k : SpanId) (f : Monitor → Monitor) :
    ((s.modMonitor j f).span k).queue = (s.span k).queue := by
  by_cases h : k = j <;> simp [State.span_modMonitor, h]
@[simp] theorem State.modMonitor_arbiter (s : State) (j k : SpanId) (f : Monitor → Monitor) :
    ((s.modMonitor j f).span k).arbiter = (s.span k).arbiter := by
  by_cases h : k = j <;> simp [State.span_modMonitor, h]
@[simp] theorem State.modMonitor_service (s : State) (j k : SpanId) (f : Monitor → Monitor) :
    ((s.modMonitor j f).span k).service = (s.span k).service := by
  by_cases h : k = j <;> simp [State.span_modMonitor, h]
@[simp] theorem State.modMonitor_monitor_self (s : State) (j : SpanId) (f : Monitor → Monitor) :
    ((s.modMonitor j f).span j).monitor = f (s.span j).monitor := by simp [State.span_modMonitor]
@[simp] theorem State.modMonitor_budget (s : State) (j k : SpanId) (f : Monitor → Monitor) :
    ((s.modMonitor j f).span k).budget = (s.span k).budget := by
  by_cases h : k = j <;> simp [State.span_modMonitor, h]
@[simp] theorem State.modBudget_queue (s : State) (j k : SpanId) (f : Budget → Budget) :
    ((s.modBudget j f).span k).queue = (s.span k).queue := by
  by_cases h : k = j <;> simp [State.span_modBudget, h]
@[simp] theorem State.modBudget_arbiter (s : State) (j k : SpanId) (f : Budget → Budget) :
    ((s.modBudget j f).span k).arbiter = (s.span k).arbiter := by
  by_cases h : k = j <;> simp [State.span_modBudget, h]
@[simp] theorem State.modBudget_service (s : State) (j k : SpanId) (f : Budget → Budget) :
    ((s.modBudget j f).span k).service = (s.span k).service := by
  by_cases h : k = j <;> simp [State.span_modBudget, h]
@[simp] theorem State.modBudget_monitor (s : State) (j k : SpanId) (f : Budget → Budget) :
    ((s.modBudget j f).span k).monitor = (s.span k).monitor := by
  by_cases h : k = j <;> simp [State.span_modBudget, h]
@[simp] theorem State.modBudget_budget_self (s : State) (j : SpanId) (f : Budget → Budget) :
    ((s.modBudget j f).span j).budget = f (s.span j).budget := by simp [State.span_modBudget]

/-! ## Equality of states, block by block -/

theorem nodes_ext {a b : Vector Node 4} (h : ∀ n : NodeId, a[n] = b[n]) : a = b := by
  apply Vector.ext; intro i hi; exact h ⟨i, hi⟩

theorem bank8_ext {α : Type} {a b : Vector α 8} (h : ∀ j : Fin 8, a[j] = b[j]) : a = b := by
  apply Vector.ext; intro i hi; exact h ⟨i, hi⟩

/-- Two states are equal when their tables, node ports and spans are. -/
theorem State.eq_of_blocks {s t : State} (hp : s.pending = t.pending) (ht : s.time = t.time) (hg : s.gens = t.gens)
    (hs : s.streams = t.streams) (hd : s.defaultSettle = t.defaultSettle) (ho : s.orphanGrace = t.orphanGrace)
    (hu : s.deadlineUnit = t.deadlineUnit) (hf : s.frames = t.frames) (hpc : s.pieces = t.pieces)
    (ha : s.arrival = t.arrival) (hn : ∀ n, s.node n = t.node n) (hj : ∀ j, s.span j = t.span j)
    (hc : s.config = t.config) (hr : s.reports = t.reports) : s = t := by
  cases s; cases t
  simp only [State.node, State.span] at *
  simp only [State.mk.injEq]
  exact ⟨hp, ht, hg, hs, hd, ho, hu, hf, hpc, ha, nodes_ext hn, bank8_ext hj, hc, hr⟩

theorem State.modNode_modNode (s : State) (n : NodeId) (f g : Node → Node) :
    (s.modNode n f).modNode n g = s.modNode n fun nd => g (f nd) := by
  simp [State.modNode, State.node]

theorem State.modSpan_modSpan (s : State) (j : SpanId) (f g : SpanState → SpanState) :
    (s.modSpan j f).modSpan j g = s.modSpan j fun sp => g (f sp) := by
  simp [State.modSpan, State.span]

theorem State.modNode_congr {s : State} {n : NodeId} {f g : Node → Node} (h : f (s.node n) = g (s.node n)) :
    s.modNode n f = s.modNode n g := by
  simp [State.modNode, h]

theorem State.modSpan_congr {s : State} {j : SpanId} {f g : SpanState → SpanState} (h : f (s.span j) = g (s.span j)) :
    s.modSpan j f = s.modSpan j g := by
  simp [State.modSpan, h]

end Sys2Proof.Machine
end

