-- ==== Sys2Proof/Laws/Pool.lean ====
section
/-! SUPPORT. The laws of a pool of numbered records: what a reading gives after each operation, that each operation keeps
the numbers strictly rising, and how counts move. -/

namespace Sys2Proof.Machine

set_option Elab.async false

variable {α : Type}

/-! ## Reading -/

@[simp] theorem Pool.get_nil (k : Nat) : Pool.get ([] : Pool α) k = none := rfl

theorem Pool.get_put (p : Pool α) (i k : Nat) (v : α) :
    Pool.get (Pool.put p i v) k = if k = i then some v else Pool.get p k := by
  induction p with
  | nil =>
    by_cases h : k = i
    · simp [Pool.put, Pool.get, h]
    · simp [Pool.put, Pool.get, h, Ne.symm h]
  | cons x r ih =>
    obtain ⟨a, w⟩ := x
    simp only [Pool.put]
    split
    · by_cases h : k = i
      · simp [Pool.get, h]
      · simp [Pool.get, h, Ne.symm h]
    · split
      · subst i
        by_cases h : k = a
        · simp [Pool.get, h]
        · simp [Pool.get, h, Ne.symm h]
      · simp only [Pool.get, ih]
        by_cases h : a = k
        · subst h; rename_i h'; simp [Ne.symm h']
        · simp [h]

theorem Pool.get_modify (p : Pool α) (i k : Nat) (f : α → α) :
    Pool.get (Pool.modify p i f) k = if k = i then (Pool.get p i).map f else Pool.get p k := by
  induction p with
  | nil => by_cases h : k = i <;> simp [Pool.modify, Pool.get]
  | cons x r ih =>
    obtain ⟨a, w⟩ := x
    simp only [Pool.modify]
    split
    · subst a
      by_cases h : k = i
      · simp [Pool.get, h]
      · simp [Pool.get, h, Ne.symm h]
    · rename_i ha
      simp only [Pool.get, ih]
      by_cases h : a = k
      · subst h; simp [ha]
      · simp [h, ha]

theorem Pool.get_free_ne (p : Pool α) {i k : Nat} (h : k ≠ i) : Pool.get (Pool.free p i) k = Pool.get p k := by
  induction p with
  | nil => rfl
  | cons x r ih =>
    obtain ⟨a, w⟩ := x
    simp only [Pool.free]
    split
    · subst a; simp [Pool.get, Ne.symm h]
    · simp [Pool.get, ih]

theorem Pool.get_each (p : Pool α) (f : α → α) (k : Nat) : Pool.get (Pool.each p f) k = (Pool.get p k).map f := by
  induction p with
  | nil => rfl
  | cons x r ih =>
    obtain ⟨a, w⟩ := x
    have : Pool.each ((a, w) :: r) f = (a, f w) :: Pool.each r f := rfl
    rw [this]
    simp only [Pool.get, ih]
    split <;> rfl

/-- What a reading finds is listed. -/
theorem Pool.mem_of_get {p : Pool α} {k : Nat} {v : α} (h : Pool.get p k = some v) : (k, v) ∈ p := by
  induction p with
  | nil => simp at h
  | cons x r ih =>
    obtain ⟨a, w⟩ := x
    simp only [Pool.get] at h
    split at h
    · rename_i e; cases h; simp [e]
    · exact List.mem_cons_of_mem _ (ih h)

theorem Pool.get_none_iff {p : Pool α} {k : Nat} : Pool.get p k = none ↔ k ∉ p.keys := by
  induction p with
  | nil => simp [Pool.keys]
  | cons x r ih =>
    obtain ⟨a, w⟩ := x
    simp only [Pool.get, Pool.keys, List.map_cons, List.mem_cons, not_or]
    split
    · rename_i e; simp [e]
    · rename_i e; rw [ih]; simp [Pool.keys, Ne.symm e]

/-- In a pool in order, what is listed is what a reading finds. -/
theorem Pool.get_of_mem {p : Pool α} (hp : p.sorted) {k : Nat} {v : α} (h : (k, v) ∈ p) : Pool.get p k = some v := by
  induction p with
  | nil => simp at h
  | cons x r ih =>
    obtain ⟨a, w⟩ := x
    simp only [Pool.sorted, Pool.keys, List.map_cons, List.pairwise_cons] at hp
    rcases List.mem_cons.1 h with e | e
    · cases e; simp [Pool.get]
    · have : a < k := hp.1 k (List.mem_map.2 ⟨_, e, rfl⟩)
      simp [Pool.get, Nat.ne_of_lt this, ih hp.2 e]

/-! ## Numbers -/

@[simp] theorem Pool.keys_modify (p : Pool α) (i : Nat) (f : α → α) : (Pool.modify p i f).keys = p.keys := by
  induction p with
  | nil => rfl
  | cons x r ih =>
    obtain ⟨a, w⟩ := x
    simp only [Pool.modify]
    split
    · rfl
    · simpa [Pool.keys] using ih

@[simp] theorem Pool.keys_each (p : Pool α) (f : α → α) : (Pool.each p f).keys = p.keys := by
  simp [Pool.keys, Pool.each]

theorem Pool.keys_free_sublist (p : Pool α) (i : Nat) : (Pool.free p i).keys.Sublist p.keys := by
  induction p with
  | nil => simp [Pool.free]
  | cons x r ih =>
    obtain ⟨a, w⟩ := x
    simp only [Pool.free]
    split
    · simp [Pool.keys]
    · simpa [Pool.keys] using ih

theorem Pool.mem_keys_put {p : Pool α} {i k : Nat} {v : α} : k ∈ (Pool.put p i v).keys ↔ k = i ∨ k ∈ p.keys := by
  have := Pool.get_none_iff (p := Pool.put p i v) (k := k)
  rw [Pool.get_put] at this
  by_cases h : k = i
  · simp only [h, if_true, reduceCtorEq, false_iff, not_not] at this
    simp [h, this]
  · simp only [h, if_false, Pool.get_none_iff] at this
    simp [h, not_iff_not.1 this]

theorem Pool.sorted_put {p : Pool α} (hp : p.sorted) (i : Nat) (v : α) : (Pool.put p i v).sorted := by
  induction p with
  | nil => simp [Pool.put, Pool.sorted, Pool.keys]
  | cons x r ih =>
    obtain ⟨a, w⟩ := x
    have hp' := hp
    simp only [Pool.sorted, Pool.keys, List.map_cons, List.pairwise_cons] at hp
    simp only [Pool.put]
    split
    · rename_i h
      simp only [Pool.sorted, Pool.keys, List.map_cons, List.pairwise_cons]
      refine ⟨fun b hb => ?_, hp⟩
      rcases List.mem_cons.1 hb with e | e
      · omega
      · have := hp.1 b e; omega
    · split
      · subst i; simpa [Pool.sorted, Pool.keys] using hp
      · simp only [Pool.sorted, Pool.keys, List.map_cons, List.pairwise_cons]
        refine ⟨fun b hb => ?_, ih hp.2⟩
        rcases Pool.mem_keys_put.1 hb with e | e
        · omega
        · exact hp.1 b e

theorem Pool.sorted_free {p : Pool α} (hp : p.sorted) (i : Nat) : (Pool.free p i).sorted :=
  List.Pairwise.sublist (Pool.keys_free_sublist p i) hp

theorem Pool.get_free_self {p : Pool α} (hp : p.sorted) (i : Nat) : Pool.get (Pool.free p i) i = none := by
  induction p with
  | nil => rfl
  | cons x r ih =>
    obtain ⟨a, w⟩ := x
    simp only [Pool.sorted, Pool.keys, List.map_cons, List.pairwise_cons] at hp
    simp only [Pool.free]
    split
    · subst a
      exact Pool.get_none_iff.2 fun h => Nat.lt_irrefl _ (hp.1 i h)
    · rename_i h; simp [Pool.get, h, ih hp.2]

/-- A record freed after a change of it is a record freed. -/
theorem Pool.free_modify (p : Pool α) (i : Nat) (f : α → α) : Pool.free (Pool.modify p i f) i = Pool.free p i := by
  induction p with
  | nil => rfl
  | cons x r ih =>
    obtain ⟨a, w⟩ := x
    simp only [Pool.modify, Pool.free]
    split <;> rename_i h <;> simp [Pool.free, h, ih]

/-! ## The lowest free number -/

theorem lowestFrom_ge (l : List Nat) (i : Nat) : i ≤ lowestFrom l i := by
  induction l generalizing i with
  | nil => simp [lowestFrom]
  | cons k r ih =>
    simp only [lowestFrom]
    split
    · exact Nat.le_trans (Nat.le_succ i) (ih (i + 1))
    · split
      · exact ih i
      · exact Nat.le_refl i

theorem lowestFrom_not_mem {l : List Nat} (h : l.Pairwise (· < ·)) (i : Nat) : lowestFrom l i ∉ l := by
  induction l generalizing i with
  | nil => simp [lowestFrom]
  | cons k r ih =>
    rw [List.pairwise_cons] at h
    simp only [lowestFrom]
    split
    · rename_i e
      have := lowestFrom_ge r (i + 1)
      exact fun hm => (List.mem_cons.1 hm).elim (fun e' => by omega) (ih h.2 (i + 1))
    · split
      · have := lowestFrom_ge r i
        exact fun hm => (List.mem_cons.1 hm).elim (fun e' => by omega) (ih h.2 i)
      · intro hm
        rcases List.mem_cons.1 hm with e | e
        · omega
        · have := h.1 i e; omega

/-- Every number from `i` up to the lowest free one is in use. -/
theorem mem_of_lt_lowestFrom (l : List Nat) (i m : Nat) (h1 : i ≤ m) (h2 : m < lowestFrom l i) : m ∈ l := by
  induction l generalizing i with
  | nil => simp [lowestFrom] at h2; omega
  | cons k r ih =>
    simp only [lowestFrom] at h2
    split at h2
    · rename_i e
      by_cases hm : m = k
      · simp [hm]
      · exact List.mem_cons_of_mem _ (ih (i + 1) (by omega) h2)
    · split at h2
      · exact List.mem_cons_of_mem _ (ih i h1 h2)
      · omega

/-- The lowest-numbered free record is free (R4, R51). -/
theorem Pool.get_lowestFree {p : Pool α} (hp : p.sorted) : Pool.get p p.lowestFree = none :=
  Pool.get_none_iff.2 (lowestFrom_not_mem hp 0)

/-- Every record below the lowest-numbered free one is in use (R4, R51). -/
theorem Pool.get_below_lowestFree (p : Pool α) {i : Nat} (h : i < p.lowestFree) : Pool.get p i ≠ none :=
  fun e => Pool.get_none_iff.1 e (mem_of_lt_lowestFrom p.keys 0 i (Nat.zero_le _) h)

/-! ## Counts -/

theorem Pool.countOf_put_fresh {p : Pool α} {i : Nat} (h : Pool.get p i = none) (v : α) (t : α → Bool) :
    (Pool.put p i v).countOf t = p.countOf t + (if t v then 1 else 0) := by
  induction p with
  | nil => cases ht : t v <;> simp [Pool.put, Pool.countOf, ht]
  | cons x r ih =>
    obtain ⟨a, w⟩ := x
    simp only [Pool.get] at h
    split at h
    · exact absurd h (by simp)
    · rename_i ha
      simp only [Pool.put]
      split
      · cases ht : t v <;> simp [Pool.countOf, List.filter_cons, ht]
      · split
        · omega
        · have := ih h
          simp only [Pool.countOf, List.filter_cons] at this ⊢
          split <;> simp [this] <;> omega

theorem Pool.countOf_free {p : Pool α} {i : Nat} {v : α} (h : Pool.get p i = some v) (t : α → Bool) :
    (Pool.free p i).countOf t + (if t v then 1 else 0) = p.countOf t := by
  induction p with
  | nil => simp at h
  | cons x r ih =>
    obtain ⟨a, w⟩ := x
    simp only [Pool.get] at h
    split at h
    · rename_i ha
      cases h
      simp only [Pool.free, ha, if_true, Pool.countOf, List.filter_cons]
      cases t v <;> simp
    · rename_i ha
      have := ih h
      simp only [Pool.free, ha, if_false, Pool.countOf, List.filter_cons] at this ⊢
      cases t w <;> simp at this ⊢ <;> omega

/-- A change that no test tells moves no count. -/
theorem Pool.countOf_modify (p : Pool α) (i : Nat) (f : α → α) (t : α → Bool) (h : ∀ v, t (f v) = t v) :
    (Pool.modify p i f).countOf t = p.countOf t := by
  induction p with
  | nil => rfl
  | cons x r ih =>
    obtain ⟨a, w⟩ := x
    simp only [Pool.modify]
    split
    · simp only [Pool.countOf, List.filter_cons, h]; split <;> rfl
    · simp only [Pool.countOf, List.filter_cons] at ih ⊢
      split <;> simp [ih]

end Sys2Proof.Machine
end

