-- ==== Sys2Proof/Laws/Ops.lean ====
section
/-! SUPPORT. The laws of the operations of Machine/Ops.lean: what a record's writing does at a port, what a notice does at
each port, how the oldest report of a channel is taken, and how a command is taken. -/

namespace Sys2Proof.Machine

set_option Elab.async false

open Host (Outcome)

/-! ## A property that every member of a walk keeps -/

theorem foldl_keeps {σ α β : Type} (g : σ → β) (f : σ → α → σ) (h : ∀ s a, g (f s a) = g s) (l : List α) (s : σ) :
    g (l.foldl f s) = g s := by
  induction l generalizing s with
  | nil => rfl
  | cons a r ih => rw [List.foldl_cons, ih, h]

theorem foldl_inv {σ α : Type} (P : σ → Prop) (f : σ → α → σ) (h : ∀ s a, P s → P (f s a)) (l : List α) (s : σ)
    (hs : P s) : P (l.foldl f s) := by
  induction l generalizing s with
  | nil => exact hs
  | cons a r ih => exact ih _ (h s a hs)

/-! ## Writing a record at a port -/

@[simp] theorem Node.fire_state (nd : Node) (v : Nat) : (nd.fire v).state = nd.state := by
  unfold Node.fire; split <;> [rfl; (split <;> [rfl; (split <;> rfl)])]
@[simp] theorem Node.fire_epoch (nd : Node) (v : Nat) : (nd.fire v).epoch = nd.epoch := by
  unfold Node.fire; split <;> [rfl; (split <;> [rfl; (split <;> rfl)])]
@[simp] theorem Node.fire_heartbeat (nd : Node) (v : Nat) : (nd.fire v).heartbeat = nd.heartbeat := by
  unfold Node.fire; split <;> [rfl; (split <;> [rfl; (split <;> rfl)])]
@[simp] theorem Node.fire_overrun (nd : Node) (v : Nat) : (nd.fire v).overrun = nd.overrun := by
  unfold Node.fire; split <;> [rfl; (split <;> [rfl; (split <;> rfl)])]
@[simp] theorem Node.fire_underrun (nd : Node) (v : Nat) : (nd.fire v).underrun = nd.underrun := by
  unfold Node.fire; split <;> [rfl; (split <;> [rfl; (split <;> rfl)])]
@[simp] theorem Node.fire_noticeLost (nd : Node) (v : Nat) : (nd.fire v).noticeLost = nd.noticeLost := by
  unfold Node.fire; split <;> [rfl; (split <;> [rfl; (split <;> rfl)])]
@[simp] theorem Node.fire_earlyBeat (nd : Node) (v : Nat) : (nd.fire v).earlyBeat = nd.earlyBeat := by
  unfold Node.fire; split <;> [rfl; (split <;> [rfl; (split <;> rfl)])]
@[simp] theorem Node.fire_lostCount (nd : Node) (v : Nat) : (nd.fire v).lostCount = nd.lostCount := by
  unfold Node.fire; split <;> [rfl; (split <;> [rfl; (split <;> rfl)])]
@[simp] theorem Node.fire_lossPending (nd : Node) (v : Nat) : (nd.fire v).lossPending = nd.lossPending := by
  unfold Node.fire; split <;> [rfl; (split <;> [rfl; (split <;> rfl)])]
@[simp] theorem Node.fire_reserved (nd : Node) (v : Nat) : (nd.fire v).reserved = nd.reserved := by
  unfold Node.fire; split <;> [rfl; (split <;> [rfl; (split <;> rfl)])]
@[simp] theorem Node.fire_commands (nd : Node) (v : Nat) : (nd.fire v).commands = nd.commands := by
  unfold Node.fire; split <;> [rfl; (split <;> [rfl; (split <;> rfl)])]
@[simp] theorem Node.fire_events (nd : Node) (v : Nat) : (nd.fire v).events = nd.events := by
  unfold Node.fire; split <;> [rfl; (split <;> [rfl; (split <;> rfl)])]
@[simp] theorem Node.fire_linkUp (nd : Node) (v : Nat) : (nd.fire v).linkUp = nd.linkUp := by
  unfold Node.fire; split <;> [rfl; (split <;> [rfl; (split <;> rfl)])]
@[simp] theorem Node.fire_heartbeatPeriod (nd : Node) (v : Nat) : (nd.fire v).heartbeatPeriod = nd.heartbeatPeriod := by
  unfold Node.fire; split <;> [rfl; (split <;> [rfl; (split <;> rfl)])]
@[simp] theorem Node.fire_heartbeatWindow (nd : Node) (v : Nat) : (nd.fire v).heartbeatWindow = nd.heartbeatWindow := by
  unfold Node.fire; split <;> [rfl; (split <;> [rfl; (split <;> rfl)])]
@[simp] theorem Node.fire_readData (nd : Node) (v : Nat) : (nd.fire v).readData = nd.readData := by
  unfold Node.fire; split <;> [rfl; (split <;> [rfl; (split <;> rfl)])]

@[simp] theorem Node.write_state (nd : Node) (now : Time) (tag : EventTag) (c : Nat) (b : List Field) :
    (nd.write now tag c b).state = nd.state := by simp [Node.write]
@[simp] theorem Node.write_epoch (nd : Node) (now : Time) (tag : EventTag) (c : Nat) (b : List Field) :
    (nd.write now tag c b).epoch = nd.epoch := by simp [Node.write]
@[simp] theorem Node.write_heartbeat (nd : Node) (now : Time) (tag : EventTag) (c : Nat) (b : List Field) :
    (nd.write now tag c b).heartbeat = nd.heartbeat := by simp [Node.write]
@[simp] theorem Node.write_overrun (nd : Node) (now : Time) (tag : EventTag) (c : Nat) (b : List Field) :
    (nd.write now tag c b).overrun = nd.overrun := by simp [Node.write]
@[simp] theorem Node.write_underrun (nd : Node) (now : Time) (tag : EventTag) (c : Nat) (b : List Field) :
    (nd.write now tag c b).underrun = nd.underrun := by simp [Node.write]
@[simp] theorem Node.write_noticeLost (nd : Node) (now : Time) (tag : EventTag) (c : Nat) (b : List Field) :
    (nd.write now tag c b).noticeLost = nd.noticeLost := by simp [Node.write]
@[simp] theorem Node.write_earlyBeat (nd : Node) (now : Time) (tag : EventTag) (c : Nat) (b : List Field) :
    (nd.write now tag c b).earlyBeat = nd.earlyBeat := by simp [Node.write]
@[simp] theorem Node.write_lostCount (nd : Node) (now : Time) (tag : EventTag) (c : Nat) (b : List Field) :
    (nd.write now tag c b).lostCount = nd.lostCount := by simp [Node.write]
@[simp] theorem Node.write_lossPending (nd : Node) (now : Time) (tag : EventTag) (c : Nat) (b : List Field) :
    (nd.write now tag c b).lossPending = nd.lossPending := by simp [Node.write]
@[simp] theorem Node.write_reserved (nd : Node) (now : Time) (tag : EventTag) (c : Nat) (b : List Field) :
    (nd.write now tag c b).reserved = nd.reserved := by simp [Node.write]
@[simp] theorem Node.write_commands (nd : Node) (now : Time) (tag : EventTag) (c : Nat) (b : List Field) :
    (nd.write now tag c b).commands = nd.commands := by simp [Node.write]
@[simp] theorem Node.write_linkUp (nd : Node) (now : Time) (tag : EventTag) (c : Nat) (b : List Field) :
    (nd.write now tag c b).linkUp = nd.linkUp := by simp [Node.write]
@[simp] theorem Node.write_heartbeatPeriod (nd : Node) (now : Time) (tag : EventTag) (c : Nat) (b : List Field) :
    (nd.write now tag c b).heartbeatPeriod = nd.heartbeatPeriod := by simp [Node.write]
@[simp] theorem Node.write_heartbeatWindow (nd : Node) (now : Time) (tag : EventTag) (c : Nat) (b : List Field) :
    (nd.write now tag c b).heartbeatWindow = nd.heartbeatWindow := by simp [Node.write]
@[simp] theorem Node.write_readData (nd : Node) (now : Time) (tag : EventTag) (c : Nat) (b : List Field) :
    (nd.write now tag c b).readData = nd.readData := by simp [Node.write]
@[simp] theorem Node.write_events (nd : Node) (now : Time) (tag : EventTag) (c : Nat) (b : List Field) :
    (nd.write now tag c b).events =
      nd.events ++ [{ tag := tag, command := c, epoch := nd.epoch, time := now, body := b }] := by simp [Node.write]

@[simp] theorem Node.answer_state (nd : Node) (now : Time) (tag : EventTag) (c : Nat) (b : List Field) :
    (nd.answer now tag c b).state = nd.state := by simp [Node.answer]
@[simp] theorem Node.answer_epoch (nd : Node) (now : Time) (tag : EventTag) (c : Nat) (b : List Field) :
    (nd.answer now tag c b).epoch = nd.epoch := by simp [Node.answer]
@[simp] theorem Node.answer_heartbeat (nd : Node) (now : Time) (tag : EventTag) (c : Nat) (b : List Field) :
    (nd.answer now tag c b).heartbeat = nd.heartbeat := by simp [Node.answer]
@[simp] theorem Node.answer_overrun (nd : Node) (now : Time) (tag : EventTag) (c : Nat) (b : List Field) :
    (nd.answer now tag c b).overrun = nd.overrun := by simp [Node.answer]
@[simp] theorem Node.answer_underrun (nd : Node) (now : Time) (tag : EventTag) (c : Nat) (b : List Field) :
    (nd.answer now tag c b).underrun = nd.underrun := by simp [Node.answer]
@[simp] theorem Node.answer_noticeLost (nd : Node) (now : Time) (tag : EventTag) (c : Nat) (b : List Field) :
    (nd.answer now tag c b).noticeLost = nd.noticeLost := by simp [Node.answer]
@[simp] theorem Node.answer_earlyBeat (nd : Node) (now : Time) (tag : EventTag) (c : Nat) (b : List Field) :
    (nd.answer now tag c b).earlyBeat = nd.earlyBeat := by simp [Node.answer]
@[simp] theorem Node.answer_lostCount (nd : Node) (now : Time) (tag : EventTag) (c : Nat) (b : List Field) :
    (nd.answer now tag c b).lostCount = nd.lostCount := by simp [Node.answer]
@[simp] theorem Node.answer_lossPending (nd : Node) (now : Time) (tag : EventTag) (c : Nat) (b : List Field) :
    (nd.answer now tag c b).lossPending = nd.lossPending := by simp [Node.answer]
@[simp] theorem Node.answer_commands (nd : Node) (now : Time) (tag : EventTag) (c : Nat) (b : List Field) :
    (nd.answer now tag c b).commands = nd.commands := by simp [Node.answer]
@[simp] theorem Node.answer_linkUp (nd : Node) (now : Time) (tag : EventTag) (c : Nat) (b : List Field) :
    (nd.answer now tag c b).linkUp = nd.linkUp := by simp [Node.answer]
@[simp] theorem Node.answer_heartbeatPeriod (nd : Node) (now : Time) (tag : EventTag) (c : Nat) (b : List Field) :
    (nd.answer now tag c b).heartbeatPeriod = nd.heartbeatPeriod := by simp [Node.answer]
@[simp] theorem Node.answer_heartbeatWindow (nd : Node) (now : Time) (tag : EventTag) (c : Nat) (b : List Field) :
    (nd.answer now tag c b).heartbeatWindow = nd.heartbeatWindow := by simp [Node.answer]
@[simp] theorem Node.answer_readData (nd : Node) (now : Time) (tag : EventTag) (c : Nat) (b : List Field) :
    (nd.answer now tag c b).readData = nd.readData := by simp [Node.answer]
@[simp] theorem Node.answer_reserved (nd : Node) (now : Time) (tag : EventTag) (c : Nat) (b : List Field) :
    (nd.answer now tag c b).reserved = nd.reserved - 1 := by simp [Node.answer]
@[simp] theorem Node.answer_events (nd : Node) (now : Time) (tag : EventTag) (c : Nat) (b : List Field) :
    (nd.answer now tag c b).events =
      nd.events ++ [{ tag := tag, command := c, epoch := nd.epoch, time := now, body := b }] := by simp [Node.answer]

@[simp] theorem Node.notice_state (nd : Node) (now : Time) (tag : EventTag) (b : List Field) :
    (nd.notice now tag b).state = nd.state := by
  unfold Node.notice; split <;> [(split <;> simp [Node.loseNotice]); rfl]
@[simp] theorem Node.notice_epoch (nd : Node) (now : Time) (tag : EventTag) (b : List Field) :
    (nd.notice now tag b).epoch = nd.epoch := by
  unfold Node.notice; split <;> [(split <;> simp [Node.loseNotice]); rfl]
@[simp] theorem Node.notice_heartbeat (nd : Node) (now : Time) (tag : EventTag) (b : List Field) :
    (nd.notice now tag b).heartbeat = nd.heartbeat := by
  unfold Node.notice; split <;> [(split <;> simp [Node.loseNotice]); rfl]
@[simp] theorem Node.notice_overrun (nd : Node) (now : Time) (tag : EventTag) (b : List Field) :
    (nd.notice now tag b).overrun = nd.overrun := by
  unfold Node.notice; split <;> [(split <;> simp [Node.loseNotice]); rfl]
@[simp] theorem Node.notice_underrun (nd : Node) (now : Time) (tag : EventTag) (b : List Field) :
    (nd.notice now tag b).underrun = nd.underrun := by
  unfold Node.notice; split <;> [(split <;> simp [Node.loseNotice]); rfl]
@[simp] theorem Node.notice_earlyBeat (nd : Node) (now : Time) (tag : EventTag) (b : List Field) :
    (nd.notice now tag b).earlyBeat = nd.earlyBeat := by
  unfold Node.notice; split <;> [(split <;> simp [Node.loseNotice]); rfl]
@[simp] theorem Node.notice_reserved (nd : Node) (now : Time) (tag : EventTag) (b : List Field) :
    (nd.notice now tag b).reserved = nd.reserved := by
  unfold Node.notice; split <;> [(split <;> simp [Node.loseNotice]); rfl]
@[simp] theorem Node.notice_commands (nd : Node) (now : Time) (tag : EventTag) (b : List Field) :
    (nd.notice now tag b).commands = nd.commands := by
  unfold Node.notice; split <;> [(split <;> simp [Node.loseNotice]); rfl]
@[simp] theorem Node.notice_linkUp (nd : Node) (now : Time) (tag : EventTag) (b : List Field) :
    (nd.notice now tag b).linkUp = nd.linkUp := by
  unfold Node.notice; split <;> [(split <;> simp [Node.loseNotice]); rfl]
@[simp] theorem Node.notice_heartbeatPeriod (nd : Node) (now : Time) (tag : EventTag) (b : List Field) :
    (nd.notice now tag b).heartbeatPeriod = nd.heartbeatPeriod := by
  unfold Node.notice; split <;> [(split <;> simp [Node.loseNotice]); rfl]
@[simp] theorem Node.notice_heartbeatWindow (nd : Node) (now : Time) (tag : EventTag) (b : List Field) :
    (nd.notice now tag b).heartbeatWindow = nd.heartbeatWindow := by
  unfold Node.notice; split <;> [(split <;> simp [Node.loseNotice]); rfl]
@[simp] theorem Node.notice_readData (nd : Node) (now : Time) (tag : EventTag) (b : List Field) :
    (nd.notice now tag b).readData = nd.readData := by
  unfold Node.notice; split <;> [(split <;> simp [Node.loseNotice]); rfl]

/-- A notice never takes a place that an answer has reserved: it leaves the total at most 64 where it was so (R170). -/
theorem Node.notice_total (nd : Node) (now : Time) (tag : EventTag) (b : List Field) (h : nd.total ≤ Config.eventFifo) :
    (nd.notice now tag b).total ≤ Config.eventFifo := by
  unfold Node.notice
  split
  · split
    · simp only [Node.total, Node.write_events, Node.write_reserved, List.length_append, List.length_singleton] at *; omega
    · simpa [Node.total, Node.loseNotice] using h
  · exact h

/-! ## Notices and answers in the state -/

theorem State.node_notifyAll (s : State) (tag : EventTag) (b : List Field) (m : NodeId) :
    (s.notifyAll tag b).node m = (s.node m).notice s.time tag b := by
  unfold State.notifyAll allNodes
  simp only [List.foldl_cons, List.foldl_nil, State.node_modNode, State.modNode_time]
  match m with
  | 0 => simp
  | 1 => simp
  | 2 => simp
  | 3 => simp

theorem State.node_notifyOthers (s : State) (but : NodeId) (tag : EventTag) (b : List Field) (m : NodeId) :
    (s.notifyOthers but tag b).node m = if m = but then s.node m else (s.node m).notice s.time tag b := by
  unfold State.notifyOthers allNodes
  match but with
  | 0 => match m with
    | 0 => simp [State.node_modNode]
    | 1 => simp [State.node_modNode]
    | 2 => simp [State.node_modNode]
    | 3 => simp [State.node_modNode]
  | 1 => match m with
    | 0 => simp [State.node_modNode]
    | 1 => simp [State.node_modNode]
    | 2 => simp [State.node_modNode]
    | 3 => simp [State.node_modNode]
  | 2 => match m with
    | 0 => simp [State.node_modNode]
    | 1 => simp [State.node_modNode]
    | 2 => simp [State.node_modNode]
    | 3 => simp [State.node_modNode]
  | 3 => match m with
    | 0 => simp [State.node_modNode]
    | 1 => simp [State.node_modNode]
    | 2 => simp [State.node_modNode]
    | 3 => simp [State.node_modNode]

theorem State.node_result (s : State) (n m : NodeId) (c : Nat) (st : ResultStatus) (b : List Field) :
    (s.result n c st b).node m = if m = n then (s.node n).answer s.time (.result st) c b else s.node m :=
  State.node_modNode ..

theorem State.node_frameDone (s : State) (n m : NodeId) (st : FrameStatus) (b : List Field) :
    (s.frameDone n st b).node m = if m = n then (s.node n).answer s.time (.frameDone st) 9 b else s.node m :=
  State.node_modNode ..

@[simp] theorem State.notifyAll_pending (s : State) (tag : EventTag) (b : List Field) : (s.notifyAll tag b).pending = s.pending := rfl
@[simp] theorem State.notifyAll_time (s : State) (tag : EventTag) (b : List Field) : (s.notifyAll tag b).time = s.time := rfl
@[simp] theorem State.notifyAll_gens (s : State) (tag : EventTag) (b : List Field) : (s.notifyAll tag b).gens = s.gens := rfl
@[simp] theorem State.notifyAll_streams (s : State) (tag : EventTag) (b : List Field) : (s.notifyAll tag b).streams = s.streams := rfl
@[simp] theorem State.notifyAll_defaultSettle (s : State) (tag : EventTag) (b : List Field) : (s.notifyAll tag b).defaultSettle = s.defaultSettle := rfl
@[simp] theorem State.notifyAll_orphanGrace (s : State) (tag : EventTag) (b : List Field) : (s.notifyAll tag b).orphanGrace = s.orphanGrace := rfl
@[simp] theorem State.notifyAll_deadlineUnit (s : State) (tag : EventTag) (b : List Field) : (s.notifyAll tag b).deadlineUnit = s.deadlineUnit := rfl
@[simp] theorem State.notifyAll_frames (s : State) (tag : EventTag) (b : List Field) : (s.notifyAll tag b).frames = s.frames := rfl
@[simp] theorem State.notifyAll_pieces (s : State) (tag : EventTag) (b : List Field) : (s.notifyAll tag b).pieces = s.pieces := rfl
@[simp] theorem State.notifyAll_arrival (s : State) (tag : EventTag) (b : List Field) : (s.notifyAll tag b).arrival = s.arrival := rfl
@[simp] theorem State.notifyAll_spans (s : State) (tag : EventTag) (b : List Field) : (s.notifyAll tag b).spans = s.spans := rfl
@[simp] theorem State.notifyAll_config (s : State) (tag : EventTag) (b : List Field) : (s.notifyAll tag b).config = s.config := rfl
@[simp] theorem State.notifyAll_reports (s : State) (tag : EventTag) (b : List Field) : (s.notifyAll tag b).reports = s.reports := rfl
@[simp] theorem State.notifyOthers_pending (s : State) (but : NodeId) (tag : EventTag) (b : List Field) :
    (s.notifyOthers but tag b).pending = s.pending := by
  unfold State.notifyOthers; exact foldl_keeps State.pending _ (by intros; rfl) _ _
@[simp] theorem State.notifyOthers_time (s : State) (but : NodeId) (tag : EventTag) (b : List Field) :
    (s.notifyOthers but tag b).time = s.time := by
  unfold State.notifyOthers; exact foldl_keeps State.time _ (by intros; rfl) _ _
@[simp] theorem State.notifyOthers_gens (s : State) (but : NodeId) (tag : EventTag) (b : List Field) :
    (s.notifyOthers but tag b).gens = s.gens := by
  unfold State.notifyOthers; exact foldl_keeps State.gens _ (by intros; rfl) _ _
@[simp] theorem State.notifyOthers_streams (s : State) (but : NodeId) (tag : EventTag) (b : List Field) :
    (s.notifyOthers but tag b).streams = s.streams := by
  unfold State.notifyOthers; exact foldl_keeps State.streams _ (by intros; rfl) _ _
@[simp] theorem State.notifyOthers_defaultSettle (s : State) (but : NodeId) (tag : EventTag) (b : List Field) :
    (s.notifyOthers but tag b).defaultSettle = s.defaultSettle := by
  unfold State.notifyOthers; exact foldl_keeps State.defaultSettle _ (by intros; rfl) _ _
@[simp] theorem State.notifyOthers_orphanGrace (s : State) (but : NodeId) (tag : EventTag) (b : List Field) :
    (s.notifyOthers but tag b).orphanGrace = s.orphanGrace := by
  unfold State.notifyOthers; exact foldl_keeps State.orphanGrace _ (by intros; rfl) _ _
@[simp] theorem State.notifyOthers_deadlineUnit (s : State) (but : NodeId) (tag : EventTag) (b : List Field) :
    (s.notifyOthers but tag b).deadlineUnit = s.deadlineUnit := by
  unfold State.notifyOthers; exact foldl_keeps State.deadlineUnit _ (by intros; rfl) _ _
@[simp] theorem State.notifyOthers_frames (s : State) (but : NodeId) (tag : EventTag) (b : List Field) :
    (s.notifyOthers but tag b).frames = s.frames := by
  unfold State.notifyOthers; exact foldl_keeps State.frames _ (by intros; rfl) _ _
@[simp] theorem State.notifyOthers_pieces (s : State) (but : NodeId) (tag : EventTag) (b : List Field) :
    (s.notifyOthers but tag b).pieces = s.pieces := by
  unfold State.notifyOthers; exact foldl_keeps State.pieces _ (by intros; rfl) _ _
@[simp] theorem State.notifyOthers_arrival (s : State) (but : NodeId) (tag : EventTag) (b : List Field) :
    (s.notifyOthers but tag b).arrival = s.arrival := by
  unfold State.notifyOthers; exact foldl_keeps State.arrival _ (by intros; rfl) _ _
@[simp] theorem State.notifyOthers_spans (s : State) (but : NodeId) (tag : EventTag) (b : List Field) :
    (s.notifyOthers but tag b).spans = s.spans := by
  unfold State.notifyOthers; exact foldl_keeps State.spans _ (by intros; rfl) _ _
@[simp] theorem State.notifyOthers_config (s : State) (but : NodeId) (tag : EventTag) (b : List Field) :
    (s.notifyOthers but tag b).config = s.config := by
  unfold State.notifyOthers; exact foldl_keeps State.config _ (by intros; rfl) _ _
@[simp] theorem State.notifyOthers_reports (s : State) (but : NodeId) (tag : EventTag) (b : List Field) :
    (s.notifyOthers but tag b).reports = s.reports := by
  unfold State.notifyOthers; exact foldl_keeps State.reports _ (by intros; rfl) _ _
@[simp] theorem State.result_pending (s : State) (n : NodeId) (c : Nat) (st : ResultStatus) (b : List Field) :
    (s.result n c st b).pending = s.pending := rfl
@[simp] theorem State.result_time (s : State) (n : NodeId) (c : Nat) (st : ResultStatus) (b : List Field) :
    (s.result n c st b).time = s.time := rfl
@[simp] theorem State.result_gens (s : State) (n : NodeId) (c : Nat) (st : ResultStatus) (b : List Field) :
    (s.result n c st b).gens = s.gens := rfl
@[simp] theorem State.result_streams (s : State) (n : NodeId) (c : Nat) (st : ResultStatus) (b : List Field) :
    (s.result n c st b).streams = s.streams := rfl
@[simp] theorem State.result_defaultSettle (s : State) (n : NodeId) (c : Nat) (st : ResultStatus) (b : List Field) :
    (s.result n c st b).defaultSettle = s.defaultSettle := rfl
@[simp] theorem State.result_orphanGrace (s : State) (n : NodeId) (c : Nat) (st : ResultStatus) (b : List Field) :
    (s.result n c st b).orphanGrace = s.orphanGrace := rfl
@[simp] theorem State.result_deadlineUnit (s : State) (n : NodeId) (c : Nat) (st : ResultStatus) (b : List Field) :
    (s.result n c st b).deadlineUnit = s.deadlineUnit := rfl
@[simp] theorem State.result_frames (s : State) (n : NodeId) (c : Nat) (st : ResultStatus) (b : List Field) :
    (s.result n c st b).frames = s.frames := rfl
@[simp] theorem State.result_pieces (s : State) (n : NodeId) (c : Nat) (st : ResultStatus) (b : List Field) :
    (s.result n c st b).pieces = s.pieces := rfl
@[simp] theorem State.result_arrival (s : State) (n : NodeId) (c : Nat) (st : ResultStatus) (b : List Field) :
    (s.result n c st b).arrival = s.arrival := rfl
@[simp] theorem State.result_spans (s : State) (n : NodeId) (c : Nat) (st : ResultStatus) (b : List Field) :
    (s.result n c st b).spans = s.spans := rfl
@[simp] theorem State.result_config (s : State) (n : NodeId) (c : Nat) (st : ResultStatus) (b : List Field) :
    (s.result n c st b).config = s.config := rfl
@[simp] theorem State.result_reports (s : State) (n : NodeId) (c : Nat) (st : ResultStatus) (b : List Field) :
    (s.result n c st b).reports = s.reports := rfl
@[simp] theorem State.frameDone_pending (s : State) (n : NodeId) (st : FrameStatus) (b : List Field) :
    (s.frameDone n st b).pending = s.pending := rfl
@[simp] theorem State.frameDone_time (s : State) (n : NodeId) (st : FrameStatus) (b : List Field) :
    (s.frameDone n st b).time = s.time := rfl
@[simp] theorem State.frameDone_gens (s : State) (n : NodeId) (st : FrameStatus) (b : List Field) :
    (s.frameDone n st b).gens = s.gens := rfl
@[simp] theorem State.frameDone_streams (s : State) (n : NodeId) (st : FrameStatus) (b : List Field) :
    (s.frameDone n st b).streams = s.streams := rfl
@[simp] theorem State.frameDone_defaultSettle (s : State) (n : NodeId) (st : FrameStatus) (b : List Field) :
    (s.frameDone n st b).defaultSettle = s.defaultSettle := rfl
@[simp] theorem State.frameDone_orphanGrace (s : State) (n : NodeId) (st : FrameStatus) (b : List Field) :
    (s.frameDone n st b).orphanGrace = s.orphanGrace := rfl
@[simp] theorem State.frameDone_deadlineUnit (s : State) (n : NodeId) (st : FrameStatus) (b : List Field) :
    (s.frameDone n st b).deadlineUnit = s.deadlineUnit := rfl
@[simp] theorem State.frameDone_frames (s : State) (n : NodeId) (st : FrameStatus) (b : List Field) :
    (s.frameDone n st b).frames = s.frames := rfl
@[simp] theorem State.frameDone_pieces (s : State) (n : NodeId) (st : FrameStatus) (b : List Field) :
    (s.frameDone n st b).pieces = s.pieces := rfl
@[simp] theorem State.frameDone_arrival (s : State) (n : NodeId) (st : FrameStatus) (b : List Field) :
    (s.frameDone n st b).arrival = s.arrival := rfl
@[simp] theorem State.frameDone_spans (s : State) (n : NodeId) (st : FrameStatus) (b : List Field) :
    (s.frameDone n st b).spans = s.spans := rfl
@[simp] theorem State.frameDone_config (s : State) (n : NodeId) (st : FrameStatus) (b : List Field) :
    (s.frameDone n st b).config = s.config := rfl
@[simp] theorem State.frameDone_reports (s : State) (n : NodeId) (st : FrameStatus) (b : List Field) :
    (s.frameDone n st b).reports = s.reports := rfl
@[simp] theorem State.notifyAll_node_state (s : State) (tag : EventTag) (b : List Field) (m : NodeId) :
    ((s.notifyAll tag b).node m).state = (s.node m).state := by simp [State.node_notifyAll]
@[simp] theorem State.notifyOthers_node_state (s : State) (n : NodeId) (tag : EventTag) (b : List Field) (m : NodeId) :
    ((s.notifyOthers n tag b).node m).state = (s.node m).state := by rw [State.node_notifyOthers]; split <;> simp
@[simp] theorem State.result_node_state (s : State) (n : NodeId) (c : Nat) (st : ResultStatus) (b : List Field) (m : NodeId) :
    ((s.result n c st b).node m).state = (s.node m).state := by rw [State.node_result]; split <;> simp_all
@[simp] theorem State.frameDone_node_state (s : State) (n : NodeId) (st : FrameStatus) (b : List Field) (m : NodeId) :
    ((s.frameDone n st b).node m).state = (s.node m).state := by rw [State.node_frameDone]; split <;> simp_all
@[simp] theorem State.notifyAll_node_epoch (s : State) (tag : EventTag) (b : List Field) (m : NodeId) :
    ((s.notifyAll tag b).node m).epoch = (s.node m).epoch := by simp [State.node_notifyAll]
@[simp] theorem State.notifyOthers_node_epoch (s : State) (n : NodeId) (tag : EventTag) (b : List Field) (m : NodeId) :
    ((s.notifyOthers n tag b).node m).epoch = (s.node m).epoch := by rw [State.node_notifyOthers]; split <;> simp
@[simp] theorem State.result_node_epoch (s : State) (n : NodeId) (c : Nat) (st : ResultStatus) (b : List Field) (m : NodeId) :
    ((s.result n c st b).node m).epoch = (s.node m).epoch := by rw [State.node_result]; split <;> simp_all
@[simp] theorem State.frameDone_node_epoch (s : State) (n : NodeId) (st : FrameStatus) (b : List Field) (m : NodeId) :
    ((s.frameDone n st b).node m).epoch = (s.node m).epoch := by rw [State.node_frameDone]; split <;> simp_all
@[simp] theorem State.notifyAll_node_commands (s : State) (tag : EventTag) (b : List Field) (m : NodeId) :
    ((s.notifyAll tag b).node m).commands = (s.node m).commands := by simp [State.node_notifyAll]
@[simp] theorem State.notifyOthers_node_commands (s : State) (n : NodeId) (tag : EventTag) (b : List Field) (m : NodeId) :
    ((s.notifyOthers n tag b).node m).commands = (s.node m).commands := by rw [State.node_notifyOthers]; split <;> simp
@[simp] theorem State.result_node_commands (s : State) (n : NodeId) (c : Nat) (st : ResultStatus) (b : List Field) (m : NodeId) :
    ((s.result n c st b).node m).commands = (s.node m).commands := by rw [State.node_result]; split <;> simp_all
@[simp] theorem State.frameDone_node_commands (s : State) (n : NodeId) (st : FrameStatus) (b : List Field) (m : NodeId) :
    ((s.frameDone n st b).node m).commands = (s.node m).commands := by rw [State.node_frameDone]; split <;> simp_all
@[simp] theorem State.notifyAll_node_linkUp (s : State) (tag : EventTag) (b : List Field) (m : NodeId) :
    ((s.notifyAll tag b).node m).linkUp = (s.node m).linkUp := by simp [State.node_notifyAll]
@[simp] theorem State.notifyOthers_node_linkUp (s : State) (n : NodeId) (tag : EventTag) (b : List Field) (m : NodeId) :
    ((s.notifyOthers n tag b).node m).linkUp = (s.node m).linkUp := by rw [State.node_notifyOthers]; split <;> simp
@[simp] theorem State.result_node_linkUp (s : State) (n : NodeId) (c : Nat) (st : ResultStatus) (b : List Field) (m : NodeId) :
    ((s.result n c st b).node m).linkUp = (s.node m).linkUp := by rw [State.node_result]; split <;> simp_all
@[simp] theorem State.frameDone_node_linkUp (s : State) (n : NodeId) (st : FrameStatus) (b : List Field) (m : NodeId) :
    ((s.frameDone n st b).node m).linkUp = (s.node m).linkUp := by rw [State.node_frameDone]; split <;> simp_all
@[simp] theorem State.notifyAll_node_heartbeat (s : State) (tag : EventTag) (b : List Field) (m : NodeId) :
    ((s.notifyAll tag b).node m).heartbeat = (s.node m).heartbeat := by simp [State.node_notifyAll]
@[simp] theorem State.notifyOthers_node_heartbeat (s : State) (n : NodeId) (tag : EventTag) (b : List Field) (m : NodeId) :
    ((s.notifyOthers n tag b).node m).heartbeat = (s.node m).heartbeat := by rw [State.node_notifyOthers]; split <;> simp
@[simp] theorem State.result_node_heartbeat (s : State) (n : NodeId) (c : Nat) (st : ResultStatus) (b : List Field) (m : NodeId) :
    ((s.result n c st b).node m).heartbeat = (s.node m).heartbeat := by rw [State.node_result]; split <;> simp_all
@[simp] theorem State.frameDone_node_heartbeat (s : State) (n : NodeId) (st : FrameStatus) (b : List Field) (m : NodeId) :
    ((s.frameDone n st b).node m).heartbeat = (s.node m).heartbeat := by rw [State.node_frameDone]; split <;> simp_all
@[simp] theorem State.notifyAll_node_reserved (s : State) (tag : EventTag) (b : List Field) (m : NodeId) :
    ((s.notifyAll tag b).node m).reserved = (s.node m).reserved := by simp [State.node_notifyAll]
@[simp] theorem State.notifyOthers_node_reserved (s : State) (n : NodeId) (tag : EventTag) (b : List Field) (m : NodeId) :
    ((s.notifyOthers n tag b).node m).reserved = (s.node m).reserved := by rw [State.node_notifyOthers]; split <;> simp
@[simp] theorem State.notifyAll_node_heartbeatPeriod (s : State) (tag : EventTag) (b : List Field) (m : NodeId) :
    ((s.notifyAll tag b).node m).heartbeatPeriod = (s.node m).heartbeatPeriod := by simp [State.node_notifyAll]
@[simp] theorem State.notifyOthers_node_heartbeatPeriod (s : State) (n : NodeId) (tag : EventTag) (b : List Field) (m : NodeId) :
    ((s.notifyOthers n tag b).node m).heartbeatPeriod = (s.node m).heartbeatPeriod := by rw [State.node_notifyOthers]; split <;> simp
@[simp] theorem State.result_node_heartbeatPeriod (s : State) (n : NodeId) (c : Nat) (st : ResultStatus) (b : List Field) (m : NodeId) :
    ((s.result n c st b).node m).heartbeatPeriod = (s.node m).heartbeatPeriod := by rw [State.node_result]; split <;> simp_all
@[simp] theorem State.frameDone_node_heartbeatPeriod (s : State) (n : NodeId) (st : FrameStatus) (b : List Field) (m : NodeId) :
    ((s.frameDone n st b).node m).heartbeatPeriod = (s.node m).heartbeatPeriod := by rw [State.node_frameDone]; split <;> simp_all
@[simp] theorem State.notifyAll_node_heartbeatWindow (s : State) (tag : EventTag) (b : List Field) (m : NodeId) :
    ((s.notifyAll tag b).node m).heartbeatWindow = (s.node m).heartbeatWindow := by simp [State.node_notifyAll]
@[simp] theorem State.notifyOthers_node_heartbeatWindow (s : State) (n : NodeId) (tag : EventTag) (b : List Field) (m : NodeId) :
    ((s.notifyOthers n tag b).node m).heartbeatWindow = (s.node m).heartbeatWindow := by rw [State.node_notifyOthers]; split <;> simp
@[simp] theorem State.result_node_heartbeatWindow (s : State) (n : NodeId) (c : Nat) (st : ResultStatus) (b : List Field) (m : NodeId) :
    ((s.result n c st b).node m).heartbeatWindow = (s.node m).heartbeatWindow := by rw [State.node_result]; split <;> simp_all
@[simp] theorem State.frameDone_node_heartbeatWindow (s : State) (n : NodeId) (st : FrameStatus) (b : List Field) (m : NodeId) :
    ((s.frameDone n st b).node m).heartbeatWindow = (s.node m).heartbeatWindow := by rw [State.node_frameDone]; split <;> simp_all

@[simp] theorem State.notifyAll_span (s : State) (tag : EventTag) (b : List Field) (k : SpanId) :
    (s.notifyAll tag b).span k = s.span k := rfl
@[simp] theorem State.notifyOthers_span (s : State) (but : NodeId) (tag : EventTag) (b : List Field) (k : SpanId) :
    (s.notifyOthers but tag b).span k = s.span k := by simp [State.span]
@[simp] theorem State.result_span (s : State) (n : NodeId) (c : Nat) (st : ResultStatus) (b : List Field) (k : SpanId) :
    (s.result n c st b).span k = s.span k := rfl
@[simp] theorem State.frameDone_span (s : State) (n : NodeId) (st : FrameStatus) (b : List Field) (k : SpanId) :
    (s.frameDone n st b).span k = s.span k := rfl

/-! ## The oldest report of a channel -/

theorem takeFirst_append {channel : Report → Bool} {before after : List Report} {r : Report}
    (hb : ∀ q ∈ before, channel q = false) (hr : channel r = true) :
    takeFirst channel (before ++ r :: after) = some (r, before ++ after) := by
  induction before with
  | nil => simp [takeFirst, hr]
  | cons q l ih =>
    have hq : channel q = false := hb q (by simp)
    simp [takeFirst, hq, ih fun x hx => hb x (List.mem_cons_of_mem _ hx)]

/-- What is taken from a list of reports is its oldest of the channel, and the rest keep their order. -/
theorem takeFirst_cases {channel : Report → Bool} {l rest : List Report} {r : Report}
    (h : takeFirst channel l = some (r, rest)) :
    ∃ before after, l = before ++ r :: after ∧ rest = before ++ after ∧ channel r = true ∧
      ∀ q ∈ before, channel q = false := by
  induction l generalizing rest with
  | nil => simp [takeFirst] at h
  | cons q l ih =>
    simp only [takeFirst] at h
    split at h
    · rename_i hq; cases h; exact ⟨[], l, rfl, rfl, hq, by simp⟩
    · rename_i hq
      split at h
      · cases h
      · rename_i x left hx
        cases h
        obtain ⟨b, a, h1, h2, h3, h4⟩ := ih hx
        refine ⟨q :: b, a, by simp [h1], by simp [h2], h3, fun y hy => ?_⟩
        rcases List.mem_cons.1 hy with e | e
        · simpa [e] using hq
        · exact h4 y e

theorem State.takeFirst_of_offers {s : State} {channel : Report → Bool} {r : Report} {before after : List Report}
    (h : s.offers channel r before after) : takeFirst channel s.reports = some (r, before ++ after) := by
  rw [h.1]; exact takeFirst_append h.2.2 h.2.1

/-- All that an event by which a report is taken can do: nothing, or its action on the state without the report. -/
theorem withReport_cases {s t : State} {channel : Report → Bool} {act : Report → State → Option State}
    (h : withReport s channel act = .next t) :
    t = s ∨ ∃ r before after, s.offers channel r before after ∧
      act r { s with reports := before ++ after } = some t := by
  unfold withReport at h
  split at h
  · cases h; exact .inl rfl
  · rename_i r rest hr
    split at h
    · cases h; exact .inl rfl
    · rename_i u hu
      cases h
      obtain ⟨b, a, h1, h2, h3, h4⟩ := takeFirst_cases hr
      subst h2
      exact .inr ⟨r, b, a, ⟨h1, h3, h4⟩, hu⟩

theorem withReport_of_offers {s : State} {channel : Report → Bool} {r : Report} {before after : List Report}
    (h : s.offers channel r before after) (act : Report → State → Option State) :
    withReport s channel act =
      (match act r { s with reports := before ++ after } with
        | none => .next s
        | some t => .next t) := by
  simp only [withReport, State.takeFirst_of_offers h] <;>
    cases act r { s with reports := before ++ after } <;> rfl

/-! ## Taking a command -/

theorem withCommand_of_heads {s : State} {n : NodeId} {code : Nat} {rec : List Byte} {rest : List (List Byte)}
    (h : s.heads n code rec rest) (act : List Byte → State → State) :
    withCommand n code s act = .next (act rec (s.taken n rest)) := by
  simp [withCommand, h.1, h.2, State.taken]

/-- All that the taking of a command can do: nothing, or its action on the state without the record. -/
theorem withCommand_cases {s t : State} {n : NodeId} {code : Nat} {act : List Byte → State → State}
    (h : withCommand n code s act = .next t) :
    t = s ∨ ∃ rec rest, s.heads n code rec rest ∧ t = act rec (s.taken n rest) := by
  unfold withCommand at h
  split at h
  · cases h; exact .inl rfl
  · rename_i rec rest hc
    split at h
    · rename_i hr; cases h; exact .inr ⟨rec, rest, ⟨hc, hr⟩, rfl⟩
    · cases h; exact .inl rfl

@[simp] theorem State.taken_node_self (s : State) (n : NodeId) (rest : List (List Byte)) :
    (s.taken n rest).node n = { s.node n with commands := rest } := by simp [State.taken]

theorem State.taken_node_ne (s : State) {n m : NodeId} (h : m ≠ n) (rest : List (List Byte)) :
    (s.taken n rest).node m = s.node m := by simp [State.taken, State.node_modNode, h]

@[simp] theorem State.taken_node_state (s : State) (n m : NodeId) (rest : List (List Byte)) :
    ((s.taken n rest).node m).state = (s.node m).state := by
  unfold State.taken; rw [State.node_modNode]; split <;> simp_all

@[simp] theorem State.taken_node_epoch (s : State) (n m : NodeId) (rest : List (List Byte)) :
    ((s.taken n rest).node m).epoch = (s.node m).epoch := by
  unfold State.taken; rw [State.node_modNode]; split <;> simp_all

theorem withAttached_of_issues {s : State} {n : NodeId} {code : Nat} {rec : List Byte} {rest : List (List Byte)}
    (h : s.issues n code rec rest) (act : List Byte → State → State) :
    withAttached n code s act = .next (act rec (s.taken n rest)) := by
  rw [withAttached, withCommand_of_heads h.1]; simp [h.2]

/-- All that a command of an ATTACHED node can do: nothing, NOT_ATTACHED, or its action. -/
theorem withAttached_cases {s t : State} {n : NodeId} {code : Nat} {act : List Byte → State → State}
    (h : withAttached n code s act = .next t) :
    t = s ∨ (∃ rec rest, s.heads n code rec rest ∧ (s.node n).state ≠ .attached ∧
        t = (s.taken n rest).result n code .notAttached []) ∨
      ∃ rec rest, s.issues n code rec rest ∧ t = act rec (s.taken n rest) := by
  rcases withCommand_cases h with e | ⟨rec, rest, hh, e⟩
  · exact .inl e
  · by_cases ha : (s.node n).state = .attached
    · refine .inr (.inr ⟨rec, rest, ⟨hh, ha⟩, ?_⟩); simpa [ha] using e
    · refine .inr (.inl ⟨rec, rest, hh, ha, ?_⟩); simpa [ha] using e

theorem withClaim_of_claims {s : State} {n : NodeId} {code : Nat} {rec : List Byte} {rest : List (List Byte)}
    (h : s.claims n code rec rest) (act : List Byte → State → State) :
    withClaim n code s act = .next (act rec (s.taken n rest)) := by
  rw [withClaim, withAttached_of_issues h.1]; simp [h.2]

/-- All that a command reserved to the claim holder can do: nothing, NOT_ATTACHED, NOT_HOLDER, or its action. -/
theorem withClaim_cases {s t : State} {n : NodeId} {code : Nat} {act : List Byte → State → State}
    (h : withClaim n code s act = .next t) :
    t = s ∨ (∃ rec rest, s.heads n code rec rest ∧ (s.node n).state ≠ .attached ∧
        t = (s.taken n rest).result n code .notAttached []) ∨
      (∃ rec rest, s.issues n code rec rest ∧ s.config.holder ≠ some n ∧
        t = (s.taken n rest).result n code .notHolder []) ∨
      ∃ rec rest, s.claims n code rec rest ∧ t = act rec (s.taken n rest) := by
  rcases withAttached_cases h with e | e | ⟨rec, rest, hi, e⟩
  · exact .inl e
  · exact .inr (.inl e)
  · by_cases hh : s.config.holder = some n
    · refine .inr (.inr (.inr ⟨rec, rest, ⟨hi, hh⟩, ?_⟩)); simpa [hh] using e
    · refine .inr (.inr (.inl ⟨rec, rest, hi, hh, ?_⟩)); simpa [hh] using e

end Sys2Proof.Machine
end

