-- ==== Sys2Proof/Laws/Blocks.lean ====
section
/-! SUPPORT. What the shared operations of the blocks leave as it was: of the state, of each node port and of each span. -/

namespace Sys2Proof.Machine

set_option Elab.async false

/-! ## recomputeOvercommit -/

@[simp] theorem State.recomputeOvercommit_pending (s : State) (j : SpanId) : (s.recomputeOvercommit j).pending = s.pending := by
  unfold State.recomputeOvercommit; (try dsimp only); split <;> simp
@[simp] theorem State.recomputeOvercommit_time (s : State) (j : SpanId) : (s.recomputeOvercommit j).time = s.time := by
  unfold State.recomputeOvercommit; (try dsimp only); split <;> simp
@[simp] theorem State.recomputeOvercommit_gens (s : State) (j : SpanId) : (s.recomputeOvercommit j).gens = s.gens := by
  unfold State.recomputeOvercommit; (try dsimp only); split <;> simp
@[simp] theorem State.recomputeOvercommit_streams (s : State) (j : SpanId) : (s.recomputeOvercommit j).streams = s.streams := by
  unfold State.recomputeOvercommit; (try dsimp only); split <;> simp
@[simp] theorem State.recomputeOvercommit_defaultSettle (s : State) (j : SpanId) : (s.recomputeOvercommit j).defaultSettle = s.defaultSettle := by
  unfold State.recomputeOvercommit; (try dsimp only); split <;> simp
@[simp] theorem State.recomputeOvercommit_orphanGrace (s : State) (j : SpanId) : (s.recomputeOvercommit j).orphanGrace = s.orphanGrace := by
  unfold State.recomputeOvercommit; (try dsimp only); split <;> simp
@[simp] theorem State.recomputeOvercommit_deadlineUnit (s : State) (j : SpanId) : (s.recomputeOvercommit j).deadlineUnit = s.deadlineUnit := by
  unfold State.recomputeOvercommit; (try dsimp only); split <;> simp
@[simp] theorem State.recomputeOvercommit_frames (s : State) (j : SpanId) : (s.recomputeOvercommit j).frames = s.frames := by
  unfold State.recomputeOvercommit; (try dsimp only); split <;> simp
@[simp] theorem State.recomputeOvercommit_pieces (s : State) (j : SpanId) : (s.recomputeOvercommit j).pieces = s.pieces := by
  unfold State.recomputeOvercommit; (try dsimp only); split <;> simp
@[simp] theorem State.recomputeOvercommit_arrival (s : State) (j : SpanId) : (s.recomputeOvercommit j).arrival = s.arrival := by
  unfold State.recomputeOvercommit; (try dsimp only); split <;> simp
@[simp] theorem State.recomputeOvercommit_config (s : State) (j : SpanId) : (s.recomputeOvercommit j).config = s.config := by
  unfold State.recomputeOvercommit; (try dsimp only); split <;> simp
@[simp] theorem State.recomputeOvercommit_reports (s : State) (j : SpanId) : (s.recomputeOvercommit j).reports = s.reports := by
  unfold State.recomputeOvercommit; (try dsimp only); split <;> simp
@[simp] theorem State.recomputeOvercommit_node_state (s : State) (j : SpanId) (m : NodeId) :
    ((s.recomputeOvercommit j).node m).state = (s.node m).state := by
  unfold State.recomputeOvercommit; (try dsimp only); split <;> simp
@[simp] theorem State.recomputeOvercommit_node_epoch (s : State) (j : SpanId) (m : NodeId) :
    ((s.recomputeOvercommit j).node m).epoch = (s.node m).epoch := by
  unfold State.recomputeOvercommit; (try dsimp only); split <;> simp
@[simp] theorem State.recomputeOvercommit_node_commands (s : State) (j : SpanId) (m : NodeId) :
    ((s.recomputeOvercommit j).node m).commands = (s.node m).commands := by
  unfold State.recomputeOvercommit; (try dsimp only); split <;> simp
@[simp] theorem State.recomputeOvercommit_node_linkUp (s : State) (j : SpanId) (m : NodeId) :
    ((s.recomputeOvercommit j).node m).linkUp = (s.node m).linkUp := by
  unfold State.recomputeOvercommit; (try dsimp only); split <;> simp
@[simp] theorem State.recomputeOvercommit_node_heartbeat (s : State) (j : SpanId) (m : NodeId) :
    ((s.recomputeOvercommit j).node m).heartbeat = (s.node m).heartbeat := by
  unfold State.recomputeOvercommit; (try dsimp only); split <;> simp
@[simp] theorem State.recomputeOvercommit_queue (s : State) (j : SpanId) (k : SpanId) :
    ((s.recomputeOvercommit j).span k).queue = (s.span k).queue := by
  unfold State.recomputeOvercommit; (try dsimp only); split <;> simp
@[simp] theorem State.recomputeOvercommit_arbiter (s : State) (j : SpanId) (k : SpanId) :
    ((s.recomputeOvercommit j).span k).arbiter = (s.span k).arbiter := by
  unfold State.recomputeOvercommit; (try dsimp only); split <;> simp
@[simp] theorem State.recomputeOvercommit_service (s : State) (j : SpanId) (k : SpanId) :
    ((s.recomputeOvercommit j).span k).service = (s.span k).service := by
  unfold State.recomputeOvercommit; (try dsimp only); split <;> simp
@[simp] theorem State.recomputeOvercommit_monitor (s : State) (j : SpanId) (k : SpanId) :
    ((s.recomputeOvercommit j).span k).monitor = (s.span k).monitor := by
  unfold State.recomputeOvercommit; (try dsimp only); split <;> simp

/-! ## updateDegraded -/

@[simp] theorem State.updateDegraded_pending (s : State) (j : SpanId) : (s.updateDegraded j).pending = s.pending := rfl
@[simp] theorem State.updateDegraded_time (s : State) (j : SpanId) : (s.updateDegraded j).time = s.time := rfl
@[simp] theorem State.updateDegraded_gens (s : State) (j : SpanId) : (s.updateDegraded j).gens = s.gens := rfl
@[simp] theorem State.updateDegraded_defaultSettle (s : State) (j : SpanId) : (s.updateDegraded j).defaultSettle = s.defaultSettle := rfl
@[simp] theorem State.updateDegraded_orphanGrace (s : State) (j : SpanId) : (s.updateDegraded j).orphanGrace = s.orphanGrace := rfl
@[simp] theorem State.updateDegraded_deadlineUnit (s : State) (j : SpanId) : (s.updateDegraded j).deadlineUnit = s.deadlineUnit := rfl
@[simp] theorem State.updateDegraded_frames (s : State) (j : SpanId) : (s.updateDegraded j).frames = s.frames := rfl
@[simp] theorem State.updateDegraded_pieces (s : State) (j : SpanId) : (s.updateDegraded j).pieces = s.pieces := rfl
@[simp] theorem State.updateDegraded_arrival (s : State) (j : SpanId) : (s.updateDegraded j).arrival = s.arrival := rfl
@[simp] theorem State.updateDegraded_nodes (s : State) (j : SpanId) : (s.updateDegraded j).nodes = s.nodes := rfl
@[simp] theorem State.updateDegraded_spans (s : State) (j : SpanId) : (s.updateDegraded j).spans = s.spans := rfl
@[simp] theorem State.updateDegraded_config (s : State) (j : SpanId) : (s.updateDegraded j).config = s.config := rfl
@[simp] theorem State.updateDegraded_reports (s : State) (j : SpanId) : (s.updateDegraded j).reports = s.reports := rfl
@[simp] theorem State.updateDegraded_node (s : State) (j : SpanId) (m : NodeId) :
    (s.updateDegraded j).node m = s.node m := rfl
@[simp] theorem State.updateDegraded_span (s : State) (j : SpanId) (k : SpanId) :
    (s.updateDegraded j).span k = s.span k := rfl

/-! ## rearmDeadline -/

@[simp] theorem State.rearmDeadline_pending (s : State) (j : SpanId) : (s.rearmDeadline j).pending = s.pending := by simp [State.rearmDeadline]
@[simp] theorem State.rearmDeadline_time (s : State) (j : SpanId) : (s.rearmDeadline j).time = s.time := by simp [State.rearmDeadline]
@[simp] theorem State.rearmDeadline_gens (s : State) (j : SpanId) : (s.rearmDeadline j).gens = s.gens := by simp [State.rearmDeadline]
@[simp] theorem State.rearmDeadline_streams (s : State) (j : SpanId) : (s.rearmDeadline j).streams = s.streams := by simp [State.rearmDeadline]
@[simp] theorem State.rearmDeadline_defaultSettle (s : State) (j : SpanId) : (s.rearmDeadline j).defaultSettle = s.defaultSettle := by simp [State.rearmDeadline]
@[simp] theorem State.rearmDeadline_orphanGrace (s : State) (j : SpanId) : (s.rearmDeadline j).orphanGrace = s.orphanGrace := by simp [State.rearmDeadline]
@[simp] theorem State.rearmDeadline_deadlineUnit (s : State) (j : SpanId) : (s.rearmDeadline j).deadlineUnit = s.deadlineUnit := by simp [State.rearmDeadline]
@[simp] theorem State.rearmDeadline_frames (s : State) (j : SpanId) : (s.rearmDeadline j).frames = s.frames := by simp [State.rearmDeadline]
@[simp] theorem State.rearmDeadline_pieces (s : State) (j : SpanId) : (s.rearmDeadline j).pieces = s.pieces := by simp [State.rearmDeadline]
@[simp] theorem State.rearmDeadline_arrival (s : State) (j : SpanId) : (s.rearmDeadline j).arrival = s.arrival := by simp [State.rearmDeadline]
@[simp] theorem State.rearmDeadline_nodes (s : State) (j : SpanId) : (s.rearmDeadline j).nodes = s.nodes := by simp [State.rearmDeadline]
@[simp] theorem State.rearmDeadline_config (s : State) (j : SpanId) : (s.rearmDeadline j).config = s.config := by simp [State.rearmDeadline]
@[simp] theorem State.rearmDeadline_reports (s : State) (j : SpanId) : (s.rearmDeadline j).reports = s.reports := by simp [State.rearmDeadline]
@[simp] theorem State.rearmDeadline_node (s : State) (j : SpanId) (m : NodeId) :
    (s.rearmDeadline j).node m = s.node m := by simp [State.rearmDeadline]
@[simp] theorem State.rearmDeadline_arbiter (s : State) (j : SpanId) (k : SpanId) :
    ((s.rearmDeadline j).span k).arbiter = (s.span k).arbiter := by simp [State.rearmDeadline]
@[simp] theorem State.rearmDeadline_service (s : State) (j : SpanId) (k : SpanId) :
    ((s.rearmDeadline j).span k).service = (s.span k).service := by simp [State.rearmDeadline]
@[simp] theorem State.rearmDeadline_monitor (s : State) (j : SpanId) (k : SpanId) :
    ((s.rearmDeadline j).span k).monitor = (s.span k).monitor := by simp [State.rearmDeadline]
@[simp] theorem State.rearmDeadline_budget (s : State) (j : SpanId) (k : SpanId) :
    ((s.rearmDeadline j).span k).budget = (s.span k).budget := by simp [State.rearmDeadline]

/-! ## rearmWindow -/

@[simp] theorem State.rearmWindow_pending (s : State) (j : SpanId) : (s.rearmWindow j).pending = s.pending := by simp [State.rearmWindow]
@[simp] theorem State.rearmWindow_time (s : State) (j : SpanId) : (s.rearmWindow j).time = s.time := by simp [State.rearmWindow]
@[simp] theorem State.rearmWindow_gens (s : State) (j : SpanId) : (s.rearmWindow j).gens = s.gens := by simp [State.rearmWindow]
@[simp] theorem State.rearmWindow_streams (s : State) (j : SpanId) : (s.rearmWindow j).streams = s.streams := by simp [State.rearmWindow]
@[simp] theorem State.rearmWindow_defaultSettle (s : State) (j : SpanId) : (s.rearmWindow j).defaultSettle = s.defaultSettle := by simp [State.rearmWindow]
@[simp] theorem State.rearmWindow_orphanGrace (s : State) (j : SpanId) : (s.rearmWindow j).orphanGrace = s.orphanGrace := by simp [State.rearmWindow]
@[simp] theorem State.rearmWindow_deadlineUnit (s : State) (j : SpanId) : (s.rearmWindow j).deadlineUnit = s.deadlineUnit := by simp [State.rearmWindow]
@[simp] theorem State.rearmWindow_frames (s : State) (j : SpanId) : (s.rearmWindow j).frames = s.frames := by simp [State.rearmWindow]
@[simp] theorem State.rearmWindow_pieces (s : State) (j : SpanId) : (s.rearmWindow j).pieces = s.pieces := by simp [State.rearmWindow]
@[simp] theorem State.rearmWindow_arrival (s : State) (j : SpanId) : (s.rearmWindow j).arrival = s.arrival := by simp [State.rearmWindow]
@[simp] theorem State.rearmWindow_nodes (s : State) (j : SpanId) : (s.rearmWindow j).nodes = s.nodes := by simp [State.rearmWindow]
@[simp] theorem State.rearmWindow_config (s : State) (j : SpanId) : (s.rearmWindow j).config = s.config := by simp [State.rearmWindow]
@[simp] theorem State.rearmWindow_reports (s : State) (j : SpanId) : (s.rearmWindow j).reports = s.reports := by simp [State.rearmWindow]
@[simp] theorem State.rearmWindow_node (s : State) (j : SpanId) (m : NodeId) :
    (s.rearmWindow j).node m = s.node m := by simp [State.rearmWindow]
@[simp] theorem State.rearmWindow_arbiter (s : State) (j : SpanId) (k : SpanId) :
    ((s.rearmWindow j).span k).arbiter = (s.span k).arbiter := by simp [State.rearmWindow]
@[simp] theorem State.rearmWindow_service (s : State) (j : SpanId) (k : SpanId) :
    ((s.rearmWindow j).span k).service = (s.span k).service := by simp [State.rearmWindow]
@[simp] theorem State.rearmWindow_monitor (s : State) (j : SpanId) (k : SpanId) :
    ((s.rearmWindow j).span k).monitor = (s.span k).monitor := by simp [State.rearmWindow]
@[simp] theorem State.rearmWindow_budget (s : State) (j : SpanId) (k : SpanId) :
    ((s.rearmWindow j).span k).budget = (s.span k).budget := by simp [State.rearmWindow]

/-! ## rearm -/

@[simp] theorem State.rearm_pending (s : State) (j : SpanId) : (s.rearm j).pending = s.pending := by simp [State.rearm]
@[simp] theorem State.rearm_time (s : State) (j : SpanId) : (s.rearm j).time = s.time := by simp [State.rearm]
@[simp] theorem State.rearm_gens (s : State) (j : SpanId) : (s.rearm j).gens = s.gens := by simp [State.rearm]
@[simp] theorem State.rearm_streams (s : State) (j : SpanId) : (s.rearm j).streams = s.streams := by simp [State.rearm]
@[simp] theorem State.rearm_defaultSettle (s : State) (j : SpanId) : (s.rearm j).defaultSettle = s.defaultSettle := by simp [State.rearm]
@[simp] theorem State.rearm_orphanGrace (s : State) (j : SpanId) : (s.rearm j).orphanGrace = s.orphanGrace := by simp [State.rearm]
@[simp] theorem State.rearm_deadlineUnit (s : State) (j : SpanId) : (s.rearm j).deadlineUnit = s.deadlineUnit := by simp [State.rearm]
@[simp] theorem State.rearm_frames (s : State) (j : SpanId) : (s.rearm j).frames = s.frames := by simp [State.rearm]
@[simp] theorem State.rearm_pieces (s : State) (j : SpanId) : (s.rearm j).pieces = s.pieces := by simp [State.rearm]
@[simp] theorem State.rearm_arrival (s : State) (j : SpanId) : (s.rearm j).arrival = s.arrival := by simp [State.rearm]
@[simp] theorem State.rearm_nodes (s : State) (j : SpanId) : (s.rearm j).nodes = s.nodes := by simp [State.rearm]
@[simp] theorem State.rearm_config (s : State) (j : SpanId) : (s.rearm j).config = s.config := by simp [State.rearm]
@[simp] theorem State.rearm_reports (s : State) (j : SpanId) : (s.rearm j).reports = s.reports := by simp [State.rearm]
@[simp] theorem State.rearm_node (s : State) (j : SpanId) (m : NodeId) :
    (s.rearm j).node m = s.node m := by simp [State.rearm]
@[simp] theorem State.rearm_arbiter (s : State) (j : SpanId) (k : SpanId) :
    ((s.rearm j).span k).arbiter = (s.span k).arbiter := by simp [State.rearm]
@[simp] theorem State.rearm_service (s : State) (j : SpanId) (k : SpanId) :
    ((s.rearm j).span k).service = (s.span k).service := by simp [State.rearm]
@[simp] theorem State.rearm_monitor (s : State) (j : SpanId) (k : SpanId) :
    ((s.rearm j).span k).monitor = (s.span k).monitor := by simp [State.rearm]
@[simp] theorem State.rearm_budget (s : State) (j : SpanId) (k : SpanId) :
    ((s.rearm j).span k).budget = (s.span k).budget := by simp [State.rearm]

/-! ## unlist -/

@[simp] theorem State.unlist_pending (s : State) (j : SpanId) (p : Nat) : (s.unlist j p).pending = s.pending := by
  unfold State.unlist; split <;> simp
@[simp] theorem State.unlist_time (s : State) (j : SpanId) (p : Nat) : (s.unlist j p).time = s.time := by
  unfold State.unlist; split <;> simp
@[simp] theorem State.unlist_gens (s : State) (j : SpanId) (p : Nat) : (s.unlist j p).gens = s.gens := by
  unfold State.unlist; split <;> simp
@[simp] theorem State.unlist_streams (s : State) (j : SpanId) (p : Nat) : (s.unlist j p).streams = s.streams := by
  unfold State.unlist; split <;> simp
@[simp] theorem State.unlist_defaultSettle (s : State) (j : SpanId) (p : Nat) : (s.unlist j p).defaultSettle = s.defaultSettle := by
  unfold State.unlist; split <;> simp
@[simp] theorem State.unlist_orphanGrace (s : State) (j : SpanId) (p : Nat) : (s.unlist j p).orphanGrace = s.orphanGrace := by
  unfold State.unlist; split <;> simp
@[simp] theorem State.unlist_deadlineUnit (s : State) (j : SpanId) (p : Nat) : (s.unlist j p).deadlineUnit = s.deadlineUnit := by
  unfold State.unlist; split <;> simp
@[simp] theorem State.unlist_frames (s : State) (j : SpanId) (p : Nat) : (s.unlist j p).frames = s.frames := by
  unfold State.unlist; split <;> simp
@[simp] theorem State.unlist_pieces (s : State) (j : SpanId) (p : Nat) : (s.unlist j p).pieces = s.pieces := by
  unfold State.unlist; split <;> simp
@[simp] theorem State.unlist_arrival (s : State) (j : SpanId) (p : Nat) : (s.unlist j p).arrival = s.arrival := by
  unfold State.unlist; split <;> simp
@[simp] theorem State.unlist_nodes (s : State) (j : SpanId) (p : Nat) : (s.unlist j p).nodes = s.nodes := by
  unfold State.unlist; split <;> simp
@[simp] theorem State.unlist_config (s : State) (j : SpanId) (p : Nat) : (s.unlist j p).config = s.config := by
  unfold State.unlist; split <;> simp
@[simp] theorem State.unlist_reports (s : State) (j : SpanId) (p : Nat) : (s.unlist j p).reports = s.reports := by
  unfold State.unlist; split <;> simp
@[simp] theorem State.unlist_node (s : State) (j : SpanId) (p : Nat) (m : NodeId) :
    (s.unlist j p).node m = s.node m := by
  unfold State.unlist; split <;> simp
@[simp] theorem State.unlist_arbiter (s : State) (j : SpanId) (p : Nat) (k : SpanId) :
    ((s.unlist j p).span k).arbiter = (s.span k).arbiter := by
  unfold State.unlist; split <;> simp
@[simp] theorem State.unlist_service (s : State) (j : SpanId) (p : Nat) (k : SpanId) :
    ((s.unlist j p).span k).service = (s.span k).service := by
  unfold State.unlist; split <;> simp
@[simp] theorem State.unlist_monitor (s : State) (j : SpanId) (p : Nat) (k : SpanId) :
    ((s.unlist j p).span k).monitor = (s.span k).monitor := by
  unfold State.unlist; split <;> simp
@[simp] theorem State.unlist_budget (s : State) (j : SpanId) (p : Nat) (k : SpanId) :
    ((s.unlist j p).span k).budget = (s.span k).budget := by
  unfold State.unlist; split <;> simp

/-! ## enqueue -/

@[simp] theorem State.enqueue_pending (s : State) (p : Nat) (pc : Piece) : (s.enqueue p pc).pending = s.pending := by
  unfold State.enqueue; (try dsimp only); split <;> simp
@[simp] theorem State.enqueue_time (s : State) (p : Nat) (pc : Piece) : (s.enqueue p pc).time = s.time := by
  unfold State.enqueue; (try dsimp only); split <;> simp
@[simp] theorem State.enqueue_gens (s : State) (p : Nat) (pc : Piece) : (s.enqueue p pc).gens = s.gens := by
  unfold State.enqueue; (try dsimp only); split <;> simp
@[simp] theorem State.enqueue_streams (s : State) (p : Nat) (pc : Piece) : (s.enqueue p pc).streams = s.streams := by
  unfold State.enqueue; (try dsimp only); split <;> simp
@[simp] theorem State.enqueue_defaultSettle (s : State) (p : Nat) (pc : Piece) : (s.enqueue p pc).defaultSettle = s.defaultSettle := by
  unfold State.enqueue; (try dsimp only); split <;> simp
@[simp] theorem State.enqueue_orphanGrace (s : State) (p : Nat) (pc : Piece) : (s.enqueue p pc).orphanGrace = s.orphanGrace := by
  unfold State.enqueue; (try dsimp only); split <;> simp
@[simp] theorem State.enqueue_deadlineUnit (s : State) (p : Nat) (pc : Piece) : (s.enqueue p pc).deadlineUnit = s.deadlineUnit := by
  unfold State.enqueue; (try dsimp only); split <;> simp
@[simp] theorem State.enqueue_frames (s : State) (p : Nat) (pc : Piece) : (s.enqueue p pc).frames = s.frames := by
  unfold State.enqueue; (try dsimp only); split <;> simp
@[simp] theorem State.enqueue_nodes (s : State) (p : Nat) (pc : Piece) : (s.enqueue p pc).nodes = s.nodes := by
  unfold State.enqueue; (try dsimp only); split <;> simp
@[simp] theorem State.enqueue_config (s : State) (p : Nat) (pc : Piece) : (s.enqueue p pc).config = s.config := by
  unfold State.enqueue; (try dsimp only); split <;> simp
@[simp] theorem State.enqueue_node (s : State) (p : Nat) (pc : Piece) (m : NodeId) :
    (s.enqueue p pc).node m = s.node m := by
  unfold State.enqueue; (try dsimp only); split <;> simp <;> rfl
@[simp] theorem State.enqueue_arbiter (s : State) (p : Nat) (pc : Piece) (k : SpanId) :
    ((s.enqueue p pc).span k).arbiter = (s.span k).arbiter := by
  unfold State.enqueue; (try dsimp only); split <;> simp <;> rfl
@[simp] theorem State.enqueue_service (s : State) (p : Nat) (pc : Piece) (k : SpanId) :
    ((s.enqueue p pc).span k).service = (s.span k).service := by
  unfold State.enqueue; (try dsimp only); split <;> simp <;> rfl
@[simp] theorem State.enqueue_monitor (s : State) (p : Nat) (pc : Piece) (k : SpanId) :
    ((s.enqueue p pc).span k).monitor = (s.span k).monitor := by
  unfold State.enqueue; (try dsimp only); split <;> simp <;> rfl
@[simp] theorem State.enqueue_budget (s : State) (p : Nat) (pc : Piece) (k : SpanId) :
    ((s.enqueue p pc).span k).budget = (s.span k).budget := by
  unfold State.enqueue; (try dsimp only); split <;> simp <;> rfl

/-! ## beginSelection -/

@[simp] theorem State.beginSelection_pending (s : State) (j : SpanId) : (s.beginSelection j).pending = s.pending := by
  unfold State.beginSelection; split <;> simp
@[simp] theorem State.beginSelection_time (s : State) (j : SpanId) : (s.beginSelection j).time = s.time := by
  unfold State.beginSelection; split <;> simp
@[simp] theorem State.beginSelection_gens (s : State) (j : SpanId) : (s.beginSelection j).gens = s.gens := by
  unfold State.beginSelection; split <;> simp
@[simp] theorem State.beginSelection_streams (s : State) (j : SpanId) : (s.beginSelection j).streams = s.streams := by
  unfold State.beginSelection; split <;> simp
@[simp] theorem State.beginSelection_defaultSettle (s : State) (j : SpanId) : (s.beginSelection j).defaultSettle = s.defaultSettle := by
  unfold State.beginSelection; split <;> simp
@[simp] theorem State.beginSelection_orphanGrace (s : State) (j : SpanId) : (s.beginSelection j).orphanGrace = s.orphanGrace := by
  unfold State.beginSelection; split <;> simp
@[simp] theorem State.beginSelection_deadlineUnit (s : State) (j : SpanId) : (s.beginSelection j).deadlineUnit = s.deadlineUnit := by
  unfold State.beginSelection; split <;> simp
@[simp] theorem State.beginSelection_frames (s : State) (j : SpanId) : (s.beginSelection j).frames = s.frames := by
  unfold State.beginSelection; split <;> simp
@[simp] theorem State.beginSelection_pieces (s : State) (j : SpanId) : (s.beginSelection j).pieces = s.pieces := by
  unfold State.beginSelection; split <;> simp
@[simp] theorem State.beginSelection_arrival (s : State) (j : SpanId) : (s.beginSelection j).arrival = s.arrival := by
  unfold State.beginSelection; split <;> simp
@[simp] theorem State.beginSelection_nodes (s : State) (j : SpanId) : (s.beginSelection j).nodes = s.nodes := by
  unfold State.beginSelection; split <;> simp
@[simp] theorem State.beginSelection_config (s : State) (j : SpanId) : (s.beginSelection j).config = s.config := by
  unfold State.beginSelection; split <;> simp
@[simp] theorem State.beginSelection_reports (s : State) (j : SpanId) : (s.beginSelection j).reports = s.reports := by
  unfold State.beginSelection; split <;> simp
@[simp] theorem State.beginSelection_node (s : State) (j : SpanId) (m : NodeId) :
    (s.beginSelection j).node m = s.node m := by
  unfold State.beginSelection; split <;> simp
@[simp] theorem State.beginSelection_queue (s : State) (j : SpanId) (k : SpanId) :
    ((s.beginSelection j).span k).queue = (s.span k).queue := by
  unfold State.beginSelection; split <;> simp
@[simp] theorem State.beginSelection_service (s : State) (j : SpanId) (k : SpanId) :
    ((s.beginSelection j).span k).service = (s.span k).service := by
  unfold State.beginSelection; split <;> simp
@[simp] theorem State.beginSelection_monitor (s : State) (j : SpanId) (k : SpanId) :
    ((s.beginSelection j).span k).monitor = (s.span k).monitor := by
  unfold State.beginSelection; split <;> simp
@[simp] theorem State.beginSelection_budget (s : State) (j : SpanId) (k : SpanId) :
    ((s.beginSelection j).span k).budget = (s.span k).budget := by
  unfold State.beginSelection; split <;> simp

/-! ## deliver -/

@[simp] theorem State.deliver_pending (s : State) (f : Frame) (st : FrameStatus) (b : List Field) : (s.deliver f st b).pending = s.pending := by
  unfold State.deliver; split <;> simp
@[simp] theorem State.deliver_time (s : State) (f : Frame) (st : FrameStatus) (b : List Field) : (s.deliver f st b).time = s.time := by
  unfold State.deliver; split <;> simp
@[simp] theorem State.deliver_gens (s : State) (f : Frame) (st : FrameStatus) (b : List Field) : (s.deliver f st b).gens = s.gens := by
  unfold State.deliver; split <;> simp
@[simp] theorem State.deliver_streams (s : State) (f : Frame) (st : FrameStatus) (b : List Field) : (s.deliver f st b).streams = s.streams := by
  unfold State.deliver; split <;> simp
@[simp] theorem State.deliver_defaultSettle (s : State) (f : Frame) (st : FrameStatus) (b : List Field) : (s.deliver f st b).defaultSettle = s.defaultSettle := by
  unfold State.deliver; split <;> simp
@[simp] theorem State.deliver_orphanGrace (s : State) (f : Frame) (st : FrameStatus) (b : List Field) : (s.deliver f st b).orphanGrace = s.orphanGrace := by
  unfold State.deliver; split <;> simp
@[simp] theorem State.deliver_deadlineUnit (s : State) (f : Frame) (st : FrameStatus) (b : List Field) : (s.deliver f st b).deadlineUnit = s.deadlineUnit := by
  unfold State.deliver; split <;> simp
@[simp] theorem State.deliver_frames (s : State) (f : Frame) (st : FrameStatus) (b : List Field) : (s.deliver f st b).frames = s.frames := by
  unfold State.deliver; split <;> simp
@[simp] theorem State.deliver_pieces (s : State) (f : Frame) (st : FrameStatus) (b : List Field) : (s.deliver f st b).pieces = s.pieces := by
  unfold State.deliver; split <;> simp
@[simp] theorem State.deliver_arrival (s : State) (f : Frame) (st : FrameStatus) (b : List Field) : (s.deliver f st b).arrival = s.arrival := by
  unfold State.deliver; split <;> simp
@[simp] theorem State.deliver_spans (s : State) (f : Frame) (st : FrameStatus) (b : List Field) : (s.deliver f st b).spans = s.spans := by
  unfold State.deliver; split <;> simp
@[simp] theorem State.deliver_config (s : State) (f : Frame) (st : FrameStatus) (b : List Field) : (s.deliver f st b).config = s.config := by
  unfold State.deliver; split <;> simp
@[simp] theorem State.deliver_reports (s : State) (f : Frame) (st : FrameStatus) (b : List Field) : (s.deliver f st b).reports = s.reports := by
  unfold State.deliver; split <;> simp
@[simp] theorem State.deliver_node_state (s : State) (f : Frame) (st : FrameStatus) (b : List Field) (m : NodeId) :
    ((s.deliver f st b).node m).state = (s.node m).state := by
  unfold State.deliver; split <;> simp
@[simp] theorem State.deliver_node_epoch (s : State) (f : Frame) (st : FrameStatus) (b : List Field) (m : NodeId) :
    ((s.deliver f st b).node m).epoch = (s.node m).epoch := by
  unfold State.deliver; split <;> simp
@[simp] theorem State.deliver_node_commands (s : State) (f : Frame) (st : FrameStatus) (b : List Field) (m : NodeId) :
    ((s.deliver f st b).node m).commands = (s.node m).commands := by
  unfold State.deliver; split <;> simp
@[simp] theorem State.deliver_node_linkUp (s : State) (f : Frame) (st : FrameStatus) (b : List Field) (m : NodeId) :
    ((s.deliver f st b).node m).linkUp = (s.node m).linkUp := by
  unfold State.deliver; split <;> simp
@[simp] theorem State.deliver_node_heartbeat (s : State) (f : Frame) (st : FrameStatus) (b : List Field) (m : NodeId) :
    ((s.deliver f st b).node m).heartbeat = (s.node m).heartbeat := by
  unfold State.deliver; split <;> simp
@[simp] theorem State.deliver_span (s : State) (f : Frame) (st : FrameStatus) (b : List Field) (k : SpanId) :
    (s.deliver f st b).span k = s.span k := by
  unfold State.deliver; split <;> simp

/-! ## finishFrame -/

@[simp] theorem State.finishFrame_pending (s : State) (i : Nat) (f : Frame) : (s.finishFrame i f).pending = s.pending := by
  simp [State.finishFrame]
@[simp] theorem State.finishFrame_time (s : State) (i : Nat) (f : Frame) : (s.finishFrame i f).time = s.time := by
  simp [State.finishFrame]
@[simp] theorem State.finishFrame_gens (s : State) (i : Nat) (f : Frame) : (s.finishFrame i f).gens = s.gens := by
  simp [State.finishFrame]
@[simp] theorem State.finishFrame_defaultSettle (s : State) (i : Nat) (f : Frame) : (s.finishFrame i f).defaultSettle = s.defaultSettle := by
  simp [State.finishFrame]
@[simp] theorem State.finishFrame_orphanGrace (s : State) (i : Nat) (f : Frame) : (s.finishFrame i f).orphanGrace = s.orphanGrace := by
  simp [State.finishFrame]
@[simp] theorem State.finishFrame_deadlineUnit (s : State) (i : Nat) (f : Frame) : (s.finishFrame i f).deadlineUnit = s.deadlineUnit := by
  simp [State.finishFrame]
@[simp] theorem State.finishFrame_pieces (s : State) (i : Nat) (f : Frame) : (s.finishFrame i f).pieces = s.pieces := by
  simp [State.finishFrame]
@[simp] theorem State.finishFrame_arrival (s : State) (i : Nat) (f : Frame) : (s.finishFrame i f).arrival = s.arrival := by
  simp [State.finishFrame]
@[simp] theorem State.finishFrame_spans (s : State) (i : Nat) (f : Frame) : (s.finishFrame i f).spans = s.spans := by
  simp [State.finishFrame]
@[simp] theorem State.finishFrame_config (s : State) (i : Nat) (f : Frame) : (s.finishFrame i f).config = s.config := by
  simp [State.finishFrame]
@[simp] theorem State.finishFrame_reports (s : State) (i : Nat) (f : Frame) : (s.finishFrame i f).reports = s.reports := by
  simp [State.finishFrame]
@[simp] theorem State.finishFrame_node_state (s : State) (i : Nat) (f : Frame) (m : NodeId) :
    ((s.finishFrame i f).node m).state = (s.node m).state := by
  unfold State.finishFrame; exact State.deliver_node_state ..
@[simp] theorem State.finishFrame_node_epoch (s : State) (i : Nat) (f : Frame) (m : NodeId) :
    ((s.finishFrame i f).node m).epoch = (s.node m).epoch := by
  unfold State.finishFrame; exact State.deliver_node_epoch ..
@[simp] theorem State.finishFrame_node_commands (s : State) (i : Nat) (f : Frame) (m : NodeId) :
    ((s.finishFrame i f).node m).commands = (s.node m).commands := by
  unfold State.finishFrame; exact State.deliver_node_commands ..
@[simp] theorem State.finishFrame_node_linkUp (s : State) (i : Nat) (f : Frame) (m : NodeId) :
    ((s.finishFrame i f).node m).linkUp = (s.node m).linkUp := by
  unfold State.finishFrame; exact State.deliver_node_linkUp ..
@[simp] theorem State.finishFrame_node_heartbeat (s : State) (i : Nat) (f : Frame) (m : NodeId) :
    ((s.finishFrame i f).node m).heartbeat = (s.node m).heartbeat := by
  unfold State.finishFrame; exact State.deliver_node_heartbeat ..
@[simp] theorem State.finishFrame_span (s : State) (i : Nat) (f : Frame) (k : SpanId) :
    (s.finishFrame i f).span k = s.span k := by
  unfold State.finishFrame; exact State.deliver_span ..

/-! ## finishIfDone -/

@[simp] theorem State.finishIfDone_pending (s : State) (i : Nat) : (s.finishIfDone i).pending = s.pending := by
  unfold State.finishIfDone; split <;> [rfl; (split <;> simp)]
@[simp] theorem State.finishIfDone_time (s : State) (i : Nat) : (s.finishIfDone i).time = s.time := by
  unfold State.finishIfDone; split <;> [rfl; (split <;> simp)]
@[simp] theorem State.finishIfDone_gens (s : State) (i : Nat) : (s.finishIfDone i).gens = s.gens := by
  unfold State.finishIfDone; split <;> [rfl; (split <;> simp)]
@[simp] theorem State.finishIfDone_defaultSettle (s : State) (i : Nat) : (s.finishIfDone i).defaultSettle = s.defaultSettle := by
  unfold State.finishIfDone; split <;> [rfl; (split <;> simp)]
@[simp] theorem State.finishIfDone_orphanGrace (s : State) (i : Nat) : (s.finishIfDone i).orphanGrace = s.orphanGrace := by
  unfold State.finishIfDone; split <;> [rfl; (split <;> simp)]
@[simp] theorem State.finishIfDone_deadlineUnit (s : State) (i : Nat) : (s.finishIfDone i).deadlineUnit = s.deadlineUnit := by
  unfold State.finishIfDone; split <;> [rfl; (split <;> simp)]
@[simp] theorem State.finishIfDone_pieces (s : State) (i : Nat) : (s.finishIfDone i).pieces = s.pieces := by
  unfold State.finishIfDone; split <;> [rfl; (split <;> simp)]
@[simp] theorem State.finishIfDone_arrival (s : State) (i : Nat) : (s.finishIfDone i).arrival = s.arrival := by
  unfold State.finishIfDone; split <;> [rfl; (split <;> simp)]
@[simp] theorem State.finishIfDone_spans (s : State) (i : Nat) : (s.finishIfDone i).spans = s.spans := by
  unfold State.finishIfDone; split <;> [rfl; (split <;> simp)]
@[simp] theorem State.finishIfDone_config (s : State) (i : Nat) : (s.finishIfDone i).config = s.config := by
  unfold State.finishIfDone; split <;> [rfl; (split <;> simp)]
@[simp] theorem State.finishIfDone_reports (s : State) (i : Nat) : (s.finishIfDone i).reports = s.reports := by
  unfold State.finishIfDone; split <;> [rfl; (split <;> simp)]
@[simp] theorem State.finishIfDone_node_state (s : State) (i : Nat) (m : NodeId) :
    ((s.finishIfDone i).node m).state = (s.node m).state := by
  unfold State.finishIfDone; split <;> [rfl; (split <;> simp)]
@[simp] theorem State.finishIfDone_node_epoch (s : State) (i : Nat) (m : NodeId) :
    ((s.finishIfDone i).node m).epoch = (s.node m).epoch := by
  unfold State.finishIfDone; split <;> [rfl; (split <;> simp)]
@[simp] theorem State.finishIfDone_node_commands (s : State) (i : Nat) (m : NodeId) :
    ((s.finishIfDone i).node m).commands = (s.node m).commands := by
  unfold State.finishIfDone; split <;> [rfl; (split <;> simp)]
@[simp] theorem State.finishIfDone_node_linkUp (s : State) (i : Nat) (m : NodeId) :
    ((s.finishIfDone i).node m).linkUp = (s.node m).linkUp := by
  unfold State.finishIfDone; split <;> [rfl; (split <;> simp)]
@[simp] theorem State.finishIfDone_node_heartbeat (s : State) (i : Nat) (m : NodeId) :
    ((s.finishIfDone i).node m).heartbeat = (s.node m).heartbeat := by
  unfold State.finishIfDone; split <;> [rfl; (split <;> simp)]
@[simp] theorem State.finishIfDone_span (s : State) (i : Nat) (k : SpanId) :
    (s.finishIfDone i).span k = s.span k := by
  unfold State.finishIfDone; split <;> [rfl; (split <;> simp)]

/-! ## recordOutcome -/

@[simp] theorem State.recordOutcome_pending (s : State) (p : Nat) (o : PieceOutcome) : (s.recordOutcome p o).pending = s.pending := by
  unfold State.recordOutcome; split <;> simp
@[simp] theorem State.recordOutcome_time (s : State) (p : Nat) (o : PieceOutcome) : (s.recordOutcome p o).time = s.time := by
  unfold State.recordOutcome; split <;> simp
@[simp] theorem State.recordOutcome_gens (s : State) (p : Nat) (o : PieceOutcome) : (s.recordOutcome p o).gens = s.gens := by
  unfold State.recordOutcome; split <;> simp
@[simp] theorem State.recordOutcome_streams (s : State) (p : Nat) (o : PieceOutcome) : (s.recordOutcome p o).streams = s.streams := by
  unfold State.recordOutcome; split <;> simp
@[simp] theorem State.recordOutcome_defaultSettle (s : State) (p : Nat) (o : PieceOutcome) : (s.recordOutcome p o).defaultSettle = s.defaultSettle := by
  unfold State.recordOutcome; split <;> simp
@[simp] theorem State.recordOutcome_orphanGrace (s : State) (p : Nat) (o : PieceOutcome) : (s.recordOutcome p o).orphanGrace = s.orphanGrace := by
  unfold State.recordOutcome; split <;> simp
@[simp] theorem State.recordOutcome_deadlineUnit (s : State) (p : Nat) (o : PieceOutcome) : (s.recordOutcome p o).deadlineUnit = s.deadlineUnit := by
  unfold State.recordOutcome; split <;> simp
@[simp] theorem State.recordOutcome_arrival (s : State) (p : Nat) (o : PieceOutcome) : (s.recordOutcome p o).arrival = s.arrival := by
  unfold State.recordOutcome; split <;> simp
@[simp] theorem State.recordOutcome_nodes (s : State) (p : Nat) (o : PieceOutcome) : (s.recordOutcome p o).nodes = s.nodes := by
  unfold State.recordOutcome; split <;> simp
@[simp] theorem State.recordOutcome_spans (s : State) (p : Nat) (o : PieceOutcome) : (s.recordOutcome p o).spans = s.spans := by
  unfold State.recordOutcome; split <;> simp
@[simp] theorem State.recordOutcome_config (s : State) (p : Nat) (o : PieceOutcome) : (s.recordOutcome p o).config = s.config := by
  unfold State.recordOutcome; split <;> simp
@[simp] theorem State.recordOutcome_reports (s : State) (p : Nat) (o : PieceOutcome) : (s.recordOutcome p o).reports = s.reports := by
  unfold State.recordOutcome; split <;> simp
@[simp] theorem State.recordOutcome_node (s : State) (p : Nat) (o : PieceOutcome) (m : NodeId) :
    (s.recordOutcome p o).node m = s.node m := by
  unfold State.recordOutcome; split <;> rfl
@[simp] theorem State.recordOutcome_span (s : State) (p : Nat) (o : PieceOutcome) (k : SpanId) :
    (s.recordOutcome p o).span k = s.span k := by
  unfold State.recordOutcome; split <;> rfl

/-! ## takeOutcome -/

@[simp] theorem State.takeOutcome_pending (s : State) (p : Nat) (o : PieceOutcome) : (s.takeOutcome p o).pending = s.pending := by
  unfold State.takeOutcome; split <;> simp
@[simp] theorem State.takeOutcome_time (s : State) (p : Nat) (o : PieceOutcome) : (s.takeOutcome p o).time = s.time := by
  unfold State.takeOutcome; split <;> simp
@[simp] theorem State.takeOutcome_gens (s : State) (p : Nat) (o : PieceOutcome) : (s.takeOutcome p o).gens = s.gens := by
  unfold State.takeOutcome; split <;> simp
@[simp] theorem State.takeOutcome_defaultSettle (s : State) (p : Nat) (o : PieceOutcome) : (s.takeOutcome p o).defaultSettle = s.defaultSettle := by
  unfold State.takeOutcome; split <;> simp
@[simp] theorem State.takeOutcome_orphanGrace (s : State) (p : Nat) (o : PieceOutcome) : (s.takeOutcome p o).orphanGrace = s.orphanGrace := by
  unfold State.takeOutcome; split <;> simp
@[simp] theorem State.takeOutcome_deadlineUnit (s : State) (p : Nat) (o : PieceOutcome) : (s.takeOutcome p o).deadlineUnit = s.deadlineUnit := by
  unfold State.takeOutcome; split <;> simp
@[simp] theorem State.takeOutcome_arrival (s : State) (p : Nat) (o : PieceOutcome) : (s.takeOutcome p o).arrival = s.arrival := by
  unfold State.takeOutcome; split <;> simp
@[simp] theorem State.takeOutcome_spans (s : State) (p : Nat) (o : PieceOutcome) : (s.takeOutcome p o).spans = s.spans := by
  unfold State.takeOutcome; split <;> simp
@[simp] theorem State.takeOutcome_config (s : State) (p : Nat) (o : PieceOutcome) : (s.takeOutcome p o).config = s.config := by
  unfold State.takeOutcome; split <;> simp
@[simp] theorem State.takeOutcome_reports (s : State) (p : Nat) (o : PieceOutcome) : (s.takeOutcome p o).reports = s.reports := by
  unfold State.takeOutcome; split <;> simp
@[simp] theorem State.takeOutcome_node_state (s : State) (p : Nat) (o : PieceOutcome) (m : NodeId) :
    ((s.takeOutcome p o).node m).state = (s.node m).state := by
  unfold State.takeOutcome; split <;> simp
@[simp] theorem State.takeOutcome_node_epoch (s : State) (p : Nat) (o : PieceOutcome) (m : NodeId) :
    ((s.takeOutcome p o).node m).epoch = (s.node m).epoch := by
  unfold State.takeOutcome; split <;> simp
@[simp] theorem State.takeOutcome_node_commands (s : State) (p : Nat) (o : PieceOutcome) (m : NodeId) :
    ((s.takeOutcome p o).node m).commands = (s.node m).commands := by
  unfold State.takeOutcome; split <;> simp
@[simp] theorem State.takeOutcome_node_linkUp (s : State) (p : Nat) (o : PieceOutcome) (m : NodeId) :
    ((s.takeOutcome p o).node m).linkUp = (s.node m).linkUp := by
  unfold State.takeOutcome; split <;> simp
@[simp] theorem State.takeOutcome_node_heartbeat (s : State) (p : Nat) (o : PieceOutcome) (m : NodeId) :
    ((s.takeOutcome p o).node m).heartbeat = (s.node m).heartbeat := by
  unfold State.takeOutcome; split <;> simp
@[simp] theorem State.takeOutcome_span (s : State) (p : Nat) (o : PieceOutcome) (k : SpanId) :
    (s.takeOutcome p o).span k = s.span k := by
  unfold State.takeOutcome; split <;> simp

/-! ## loseQueue -/

@[simp] theorem State.loseQueue_pending (s : State) (j : SpanId) : (s.loseQueue j).pending = s.pending := by
  unfold State.loseQueue
  (try dsimp only)
  split <;> exact (foldl_keeps (fun u : State => u.pending) _ (by intros; simp) _ _).trans (by simp)
@[simp] theorem State.loseQueue_time (s : State) (j : SpanId) : (s.loseQueue j).time = s.time := by
  unfold State.loseQueue
  (try dsimp only)
  split <;> exact (foldl_keeps (fun u : State => u.time) _ (by intros; simp) _ _).trans (by simp)
@[simp] theorem State.loseQueue_gens (s : State) (j : SpanId) : (s.loseQueue j).gens = s.gens := by
  unfold State.loseQueue
  (try dsimp only)
  split <;> exact (foldl_keeps (fun u : State => u.gens) _ (by intros; simp) _ _).trans (by simp)
@[simp] theorem State.loseQueue_defaultSettle (s : State) (j : SpanId) : (s.loseQueue j).defaultSettle = s.defaultSettle := by
  unfold State.loseQueue
  (try dsimp only)
  split <;> exact (foldl_keeps (fun u : State => u.defaultSettle) _ (by intros; simp) _ _).trans (by simp)
@[simp] theorem State.loseQueue_orphanGrace (s : State) (j : SpanId) : (s.loseQueue j).orphanGrace = s.orphanGrace := by
  unfold State.loseQueue
  (try dsimp only)
  split <;> exact (foldl_keeps (fun u : State => u.orphanGrace) _ (by intros; simp) _ _).trans (by simp)
@[simp] theorem State.loseQueue_deadlineUnit (s : State) (j : SpanId) : (s.loseQueue j).deadlineUnit = s.deadlineUnit := by
  unfold State.loseQueue
  (try dsimp only)
  split <;> exact (foldl_keeps (fun u : State => u.deadlineUnit) _ (by intros; simp) _ _).trans (by simp)
@[simp] theorem State.loseQueue_arrival (s : State) (j : SpanId) : (s.loseQueue j).arrival = s.arrival := by
  unfold State.loseQueue
  (try dsimp only)
  split <;> exact (foldl_keeps (fun u : State => u.arrival) _ (by intros; simp) _ _).trans (by simp)
@[simp] theorem State.loseQueue_config (s : State) (j : SpanId) : (s.loseQueue j).config = s.config := by
  unfold State.loseQueue
  (try dsimp only)
  split <;> exact (foldl_keeps (fun u : State => u.config) _ (by intros; simp) _ _).trans (by simp)
@[simp] theorem State.loseQueue_node_state (s : State) (j : SpanId) (m : NodeId) :
    ((s.loseQueue j).node m).state = (s.node m).state := by
  unfold State.loseQueue
  (try dsimp only)
  split <;> exact (foldl_keeps (fun u : State => (u.node m).state) _ (by intros; simp) _ _).trans (by simp)
@[simp] theorem State.loseQueue_node_epoch (s : State) (j : SpanId) (m : NodeId) :
    ((s.loseQueue j).node m).epoch = (s.node m).epoch := by
  unfold State.loseQueue
  (try dsimp only)
  split <;> exact (foldl_keeps (fun u : State => (u.node m).epoch) _ (by intros; simp) _ _).trans (by simp)
@[simp] theorem State.loseQueue_node_commands (s : State) (j : SpanId) (m : NodeId) :
    ((s.loseQueue j).node m).commands = (s.node m).commands := by
  unfold State.loseQueue
  (try dsimp only)
  split <;> exact (foldl_keeps (fun u : State => (u.node m).commands) _ (by intros; simp) _ _).trans (by simp)
@[simp] theorem State.loseQueue_node_linkUp (s : State) (j : SpanId) (m : NodeId) :
    ((s.loseQueue j).node m).linkUp = (s.node m).linkUp := by
  unfold State.loseQueue
  (try dsimp only)
  split <;> exact (foldl_keeps (fun u : State => (u.node m).linkUp) _ (by intros; simp) _ _).trans (by simp)
@[simp] theorem State.loseQueue_node_heartbeat (s : State) (j : SpanId) (m : NodeId) :
    ((s.loseQueue j).node m).heartbeat = (s.node m).heartbeat := by
  unfold State.loseQueue
  (try dsimp only)
  split <;> exact (foldl_keeps (fun u : State => (u.node m).heartbeat) _ (by intros; simp) _ _).trans (by simp)
@[simp] theorem State.loseQueue_arbiter (s : State) (j : SpanId) (k : SpanId) :
    ((s.loseQueue j).span k).arbiter = (s.span k).arbiter := by
  unfold State.loseQueue
  (try dsimp only)
  split <;> exact (foldl_keeps (fun u : State => (u.span k).arbiter) _ (by intros; simp) _ _).trans (by simp)
@[simp] theorem State.loseQueue_service (s : State) (j : SpanId) (k : SpanId) :
    ((s.loseQueue j).span k).service = (s.span k).service := by
  unfold State.loseQueue
  (try dsimp only)
  split <;> exact (foldl_keeps (fun u : State => (u.span k).service) _ (by intros; simp) _ _).trans (by simp)
@[simp] theorem State.loseQueue_monitor (s : State) (j : SpanId) (k : SpanId) :
    ((s.loseQueue j).span k).monitor = (s.span k).monitor := by
  unfold State.loseQueue
  (try dsimp only)
  split <;> exact (foldl_keeps (fun u : State => (u.span k).monitor) _ (by intros; simp) _ _).trans (by simp)
@[simp] theorem State.loseQueue_budget (s : State) (j : SpanId) (k : SpanId) :
    ((s.loseQueue j).span k).budget = (s.span k).budget := by
  unfold State.loseQueue
  (try dsimp only)
  split <;> exact (foldl_keeps (fun u : State => (u.span k).budget) _ (by intros; simp) _ _).trans (by simp)

/-! ## withdrawPiece -/

@[simp] theorem State.withdrawPiece_pending (s : State) (o : PieceOutcome) (p : Nat) : (State.withdrawPiece o s p).pending = s.pending := by
  unfold State.withdrawPiece; split <;> [(split <;> [rfl; ((try dsimp only); split <;> simp)]); rfl]
@[simp] theorem State.withdrawPiece_time (s : State) (o : PieceOutcome) (p : Nat) : (State.withdrawPiece o s p).time = s.time := by
  unfold State.withdrawPiece; split <;> [(split <;> [rfl; ((try dsimp only); split <;> simp)]); rfl]
@[simp] theorem State.withdrawPiece_gens (s : State) (o : PieceOutcome) (p : Nat) : (State.withdrawPiece o s p).gens = s.gens := by
  unfold State.withdrawPiece; split <;> [(split <;> [rfl; ((try dsimp only); split <;> simp)]); rfl]
@[simp] theorem State.withdrawPiece_streams (s : State) (o : PieceOutcome) (p : Nat) : (State.withdrawPiece o s p).streams = s.streams := by
  unfold State.withdrawPiece; split <;> [(split <;> [rfl; ((try dsimp only); split <;> simp)]); rfl]
@[simp] theorem State.withdrawPiece_defaultSettle (s : State) (o : PieceOutcome) (p : Nat) : (State.withdrawPiece o s p).defaultSettle = s.defaultSettle := by
  unfold State.withdrawPiece; split <;> [(split <;> [rfl; ((try dsimp only); split <;> simp)]); rfl]
@[simp] theorem State.withdrawPiece_orphanGrace (s : State) (o : PieceOutcome) (p : Nat) : (State.withdrawPiece o s p).orphanGrace = s.orphanGrace := by
  unfold State.withdrawPiece; split <;> [(split <;> [rfl; ((try dsimp only); split <;> simp)]); rfl]
@[simp] theorem State.withdrawPiece_deadlineUnit (s : State) (o : PieceOutcome) (p : Nat) : (State.withdrawPiece o s p).deadlineUnit = s.deadlineUnit := by
  unfold State.withdrawPiece; split <;> [(split <;> [rfl; ((try dsimp only); split <;> simp)]); rfl]
@[simp] theorem State.withdrawPiece_arrival (s : State) (o : PieceOutcome) (p : Nat) : (State.withdrawPiece o s p).arrival = s.arrival := by
  unfold State.withdrawPiece; split <;> [(split <;> [rfl; ((try dsimp only); split <;> simp)]); rfl]
@[simp] theorem State.withdrawPiece_nodes (s : State) (o : PieceOutcome) (p : Nat) : (State.withdrawPiece o s p).nodes = s.nodes := by
  unfold State.withdrawPiece; split <;> [(split <;> [rfl; ((try dsimp only); split <;> simp)]); rfl]
@[simp] theorem State.withdrawPiece_config (s : State) (o : PieceOutcome) (p : Nat) : (State.withdrawPiece o s p).config = s.config := by
  unfold State.withdrawPiece; split <;> [(split <;> [rfl; ((try dsimp only); split <;> simp)]); rfl]
@[simp] theorem State.withdrawPiece_node (s : State) (o : PieceOutcome) (p : Nat) (m : NodeId) :
    (State.withdrawPiece o s p).node m = s.node m := by
  unfold State.withdrawPiece; split <;> [(split <;> [rfl; ((try dsimp only); split <;> simp)]); rfl]
@[simp] theorem State.withdrawPiece_arbiter (s : State) (o : PieceOutcome) (p : Nat) (k : SpanId) :
    ((State.withdrawPiece o s p).span k).arbiter = (s.span k).arbiter := by
  unfold State.withdrawPiece; split <;> [(split <;> [rfl; ((try dsimp only); split <;> simp)]); rfl]
@[simp] theorem State.withdrawPiece_service (s : State) (o : PieceOutcome) (p : Nat) (k : SpanId) :
    ((State.withdrawPiece o s p).span k).service = (s.span k).service := by
  unfold State.withdrawPiece; split <;> [(split <;> [rfl; ((try dsimp only); split <;> simp)]); rfl]
@[simp] theorem State.withdrawPiece_monitor (s : State) (o : PieceOutcome) (p : Nat) (k : SpanId) :
    ((State.withdrawPiece o s p).span k).monitor = (s.span k).monitor := by
  unfold State.withdrawPiece; split <;> [(split <;> [rfl; ((try dsimp only); split <;> simp)]); rfl]
@[simp] theorem State.withdrawPiece_budget (s : State) (o : PieceOutcome) (p : Nat) (k : SpanId) :
    ((State.withdrawPiece o s p).span k).budget = (s.span k).budget := by
  unfold State.withdrawPiece; split <;> [(split <;> [rfl; ((try dsimp only); split <;> simp)]); rfl]

/-! ## leaveScrubList -/

@[simp] theorem State.leaveScrubList_pending (s : State) (h : Handle) (i : Nat) : (s.leaveScrubList h i).pending = s.pending := by
  simp [State.leaveScrubList]
@[simp] theorem State.leaveScrubList_time (s : State) (h : Handle) (i : Nat) : (s.leaveScrubList h i).time = s.time := by
  simp [State.leaveScrubList]
@[simp] theorem State.leaveScrubList_gens (s : State) (h : Handle) (i : Nat) : (s.leaveScrubList h i).gens = s.gens := by
  simp [State.leaveScrubList]
@[simp] theorem State.leaveScrubList_defaultSettle (s : State) (h : Handle) (i : Nat) : (s.leaveScrubList h i).defaultSettle = s.defaultSettle := by
  simp [State.leaveScrubList]
@[simp] theorem State.leaveScrubList_orphanGrace (s : State) (h : Handle) (i : Nat) : (s.leaveScrubList h i).orphanGrace = s.orphanGrace := by
  simp [State.leaveScrubList]
@[simp] theorem State.leaveScrubList_deadlineUnit (s : State) (h : Handle) (i : Nat) : (s.leaveScrubList h i).deadlineUnit = s.deadlineUnit := by
  simp [State.leaveScrubList]
@[simp] theorem State.leaveScrubList_frames (s : State) (h : Handle) (i : Nat) : (s.leaveScrubList h i).frames = s.frames := by
  simp [State.leaveScrubList]
@[simp] theorem State.leaveScrubList_pieces (s : State) (h : Handle) (i : Nat) : (s.leaveScrubList h i).pieces = s.pieces := by
  simp [State.leaveScrubList]
@[simp] theorem State.leaveScrubList_arrival (s : State) (h : Handle) (i : Nat) : (s.leaveScrubList h i).arrival = s.arrival := by
  simp [State.leaveScrubList]
@[simp] theorem State.leaveScrubList_nodes (s : State) (h : Handle) (i : Nat) : (s.leaveScrubList h i).nodes = s.nodes := by
  simp [State.leaveScrubList]
@[simp] theorem State.leaveScrubList_spans (s : State) (h : Handle) (i : Nat) : (s.leaveScrubList h i).spans = s.spans := by
  simp [State.leaveScrubList]
@[simp] theorem State.leaveScrubList_config (s : State) (h : Handle) (i : Nat) : (s.leaveScrubList h i).config = s.config := by
  simp [State.leaveScrubList]
@[simp] theorem State.leaveScrubList_reports (s : State) (h : Handle) (i : Nat) : (s.leaveScrubList h i).reports = s.reports := by
  simp [State.leaveScrubList]
@[simp] theorem State.leaveScrubList_node (s : State) (h : Handle) (i : Nat) (m : NodeId) :
    (s.leaveScrubList h i).node m = s.node m := by
  simp [State.leaveScrubList]
@[simp] theorem State.leaveScrubList_span (s : State) (h : Handle) (i : Nat) (k : SpanId) :
    (s.leaveScrubList h i).span k = s.span k := by
  simp [State.leaveScrubList]

/-! ## withdrawFrame -/

@[simp] theorem State.withdrawFrame_pending (s : State) (r : CancelReason) (i : Nat) : (State.withdrawFrame r s i).pending = s.pending := by
  unfold State.withdrawFrame
  split
  · split
    · rfl
    · refine Eq.trans (State.finishIfDone_pending ..) ?_
      exact (foldl_keeps (fun u : State => u.pending) _ (by intros; simp) _ _).trans (by simp)
  · rfl
@[simp] theorem State.withdrawFrame_time (s : State) (r : CancelReason) (i : Nat) : (State.withdrawFrame r s i).time = s.time := by
  unfold State.withdrawFrame
  split
  · split
    · rfl
    · refine Eq.trans (State.finishIfDone_time ..) ?_
      exact (foldl_keeps (fun u : State => u.time) _ (by intros; simp) _ _).trans (by simp)
  · rfl
@[simp] theorem State.withdrawFrame_gens (s : State) (r : CancelReason) (i : Nat) : (State.withdrawFrame r s i).gens = s.gens := by
  unfold State.withdrawFrame
  split
  · split
    · rfl
    · refine Eq.trans (State.finishIfDone_gens ..) ?_
      exact (foldl_keeps (fun u : State => u.gens) _ (by intros; simp) _ _).trans (by simp)
  · rfl
@[simp] theorem State.withdrawFrame_defaultSettle (s : State) (r : CancelReason) (i : Nat) : (State.withdrawFrame r s i).defaultSettle = s.defaultSettle := by
  unfold State.withdrawFrame
  split
  · split
    · rfl
    · refine Eq.trans (State.finishIfDone_defaultSettle ..) ?_
      exact (foldl_keeps (fun u : State => u.defaultSettle) _ (by intros; simp) _ _).trans (by simp)
  · rfl
@[simp] theorem State.withdrawFrame_orphanGrace (s : State) (r : CancelReason) (i : Nat) : (State.withdrawFrame r s i).orphanGrace = s.orphanGrace := by
  unfold State.withdrawFrame
  split
  · split
    · rfl
    · refine Eq.trans (State.finishIfDone_orphanGrace ..) ?_
      exact (foldl_keeps (fun u : State => u.orphanGrace) _ (by intros; simp) _ _).trans (by simp)
  · rfl
@[simp] theorem State.withdrawFrame_deadlineUnit (s : State) (r : CancelReason) (i : Nat) : (State.withdrawFrame r s i).deadlineUnit = s.deadlineUnit := by
  unfold State.withdrawFrame
  split
  · split
    · rfl
    · refine Eq.trans (State.finishIfDone_deadlineUnit ..) ?_
      exact (foldl_keeps (fun u : State => u.deadlineUnit) _ (by intros; simp) _ _).trans (by simp)
  · rfl
@[simp] theorem State.withdrawFrame_arrival (s : State) (r : CancelReason) (i : Nat) : (State.withdrawFrame r s i).arrival = s.arrival := by
  unfold State.withdrawFrame
  split
  · split
    · rfl
    · refine Eq.trans (State.finishIfDone_arrival ..) ?_
      exact (foldl_keeps (fun u : State => u.arrival) _ (by intros; simp) _ _).trans (by simp)
  · rfl
@[simp] theorem State.withdrawFrame_config (s : State) (r : CancelReason) (i : Nat) : (State.withdrawFrame r s i).config = s.config := by
  unfold State.withdrawFrame
  split
  · split
    · rfl
    · refine Eq.trans (State.finishIfDone_config ..) ?_
      exact (foldl_keeps (fun u : State => u.config) _ (by intros; simp) _ _).trans (by simp)
  · rfl
@[simp] theorem State.withdrawFrame_node_state (s : State) (r : CancelReason) (i : Nat) (m : NodeId) :
    ((State.withdrawFrame r s i).node m).state = (s.node m).state := by
  unfold State.withdrawFrame
  split
  · split
    · rfl
    · refine Eq.trans (State.finishIfDone_node_state ..) ?_
      exact (foldl_keeps (fun u : State => (u.node m).state) _ (by intros; simp) _ _).trans (by simp)
  · rfl
@[simp] theorem State.withdrawFrame_node_epoch (s : State) (r : CancelReason) (i : Nat) (m : NodeId) :
    ((State.withdrawFrame r s i).node m).epoch = (s.node m).epoch := by
  unfold State.withdrawFrame
  split
  · split
    · rfl
    · refine Eq.trans (State.finishIfDone_node_epoch ..) ?_
      exact (foldl_keeps (fun u : State => (u.node m).epoch) _ (by intros; simp) _ _).trans (by simp)
  · rfl
@[simp] theorem State.withdrawFrame_node_commands (s : State) (r : CancelReason) (i : Nat) (m : NodeId) :
    ((State.withdrawFrame r s i).node m).commands = (s.node m).commands := by
  unfold State.withdrawFrame
  split
  · split
    · rfl
    · refine Eq.trans (State.finishIfDone_node_commands ..) ?_
      exact (foldl_keeps (fun u : State => (u.node m).commands) _ (by intros; simp) _ _).trans (by simp)
  · rfl
@[simp] theorem State.withdrawFrame_node_linkUp (s : State) (r : CancelReason) (i : Nat) (m : NodeId) :
    ((State.withdrawFrame r s i).node m).linkUp = (s.node m).linkUp := by
  unfold State.withdrawFrame
  split
  · split
    · rfl
    · refine Eq.trans (State.finishIfDone_node_linkUp ..) ?_
      exact (foldl_keeps (fun u : State => (u.node m).linkUp) _ (by intros; simp) _ _).trans (by simp)
  · rfl
@[simp] theorem State.withdrawFrame_node_heartbeat (s : State) (r : CancelReason) (i : Nat) (m : NodeId) :
    ((State.withdrawFrame r s i).node m).heartbeat = (s.node m).heartbeat := by
  unfold State.withdrawFrame
  split
  · split
    · rfl
    · refine Eq.trans (State.finishIfDone_node_heartbeat ..) ?_
      exact (foldl_keeps (fun u : State => (u.node m).heartbeat) _ (by intros; simp) _ _).trans (by simp)
  · rfl
@[simp] theorem State.withdrawFrame_arbiter (s : State) (r : CancelReason) (i : Nat) (k : SpanId) :
    ((State.withdrawFrame r s i).span k).arbiter = (s.span k).arbiter := by
  unfold State.withdrawFrame
  split
  · split
    · rfl
    · refine Eq.trans (congrArg (SpanState.arbiter) (State.finishIfDone_span ..)) ?_
      exact (foldl_keeps (fun u : State => (u.span k).arbiter) _ (by intros; simp) _ _).trans (by simp)
  · rfl
@[simp] theorem State.withdrawFrame_service (s : State) (r : CancelReason) (i : Nat) (k : SpanId) :
    ((State.withdrawFrame r s i).span k).service = (s.span k).service := by
  unfold State.withdrawFrame
  split
  · split
    · rfl
    · refine Eq.trans (congrArg (SpanState.service) (State.finishIfDone_span ..)) ?_
      exact (foldl_keeps (fun u : State => (u.span k).service) _ (by intros; simp) _ _).trans (by simp)
  · rfl
@[simp] theorem State.withdrawFrame_monitor (s : State) (r : CancelReason) (i : Nat) (k : SpanId) :
    ((State.withdrawFrame r s i).span k).monitor = (s.span k).monitor := by
  unfold State.withdrawFrame
  split
  · split
    · rfl
    · refine Eq.trans (congrArg (SpanState.monitor) (State.finishIfDone_span ..)) ?_
      exact (foldl_keeps (fun u : State => (u.span k).monitor) _ (by intros; simp) _ _).trans (by simp)
  · rfl
@[simp] theorem State.withdrawFrame_budget (s : State) (r : CancelReason) (i : Nat) (k : SpanId) :
    ((State.withdrawFrame r s i).span k).budget = (s.span k).budget := by
  unfold State.withdrawFrame
  split
  · split
    · rfl
    · refine Eq.trans (congrArg (SpanState.budget) (State.finishIfDone_span ..)) ?_
      exact (foldl_keeps (fun u : State => (u.span k).budget) _ (by intros; simp) _ _).trans (by simp)
  · rfl

/-! ## cancelStream -/

@[simp] theorem State.cancelStream_pending (s : State) (i : StreamId) : (s.cancelStream i).pending = s.pending := by
  unfold State.cancelStream; exact foldl_keeps (fun u : State => u.pending) _ (by intros; simp) _ _
@[simp] theorem State.cancelStream_time (s : State) (i : StreamId) : (s.cancelStream i).time = s.time := by
  unfold State.cancelStream; exact foldl_keeps (fun u : State => u.time) _ (by intros; simp) _ _
@[simp] theorem State.cancelStream_gens (s : State) (i : StreamId) : (s.cancelStream i).gens = s.gens := by
  unfold State.cancelStream; exact foldl_keeps (fun u : State => u.gens) _ (by intros; simp) _ _
@[simp] theorem State.cancelStream_defaultSettle (s : State) (i : StreamId) : (s.cancelStream i).defaultSettle = s.defaultSettle := by
  unfold State.cancelStream; exact foldl_keeps (fun u : State => u.defaultSettle) _ (by intros; simp) _ _
@[simp] theorem State.cancelStream_orphanGrace (s : State) (i : StreamId) : (s.cancelStream i).orphanGrace = s.orphanGrace := by
  unfold State.cancelStream; exact foldl_keeps (fun u : State => u.orphanGrace) _ (by intros; simp) _ _
@[simp] theorem State.cancelStream_deadlineUnit (s : State) (i : StreamId) : (s.cancelStream i).deadlineUnit = s.deadlineUnit := by
  unfold State.cancelStream; exact foldl_keeps (fun u : State => u.deadlineUnit) _ (by intros; simp) _ _
@[simp] theorem State.cancelStream_arrival (s : State) (i : StreamId) : (s.cancelStream i).arrival = s.arrival := by
  unfold State.cancelStream; exact foldl_keeps (fun u : State => u.arrival) _ (by intros; simp) _ _
@[simp] theorem State.cancelStream_config (s : State) (i : StreamId) : (s.cancelStream i).config = s.config := by
  unfold State.cancelStream; exact foldl_keeps (fun u : State => u.config) _ (by intros; simp) _ _
@[simp] theorem State.cancelStream_node_state (s : State) (i : StreamId) (m : NodeId) :
    ((s.cancelStream i).node m).state = (s.node m).state := by
  unfold State.cancelStream; exact foldl_keeps (fun u : State => (u.node m).state) _ (by intros; simp) _ _
@[simp] theorem State.cancelStream_node_epoch (s : State) (i : StreamId) (m : NodeId) :
    ((s.cancelStream i).node m).epoch = (s.node m).epoch := by
  unfold State.cancelStream; exact foldl_keeps (fun u : State => (u.node m).epoch) _ (by intros; simp) _ _
@[simp] theorem State.cancelStream_node_commands (s : State) (i : StreamId) (m : NodeId) :
    ((s.cancelStream i).node m).commands = (s.node m).commands := by
  unfold State.cancelStream; exact foldl_keeps (fun u : State => (u.node m).commands) _ (by intros; simp) _ _
@[simp] theorem State.cancelStream_node_linkUp (s : State) (i : StreamId) (m : NodeId) :
    ((s.cancelStream i).node m).linkUp = (s.node m).linkUp := by
  unfold State.cancelStream; exact foldl_keeps (fun u : State => (u.node m).linkUp) _ (by intros; simp) _ _
@[simp] theorem State.cancelStream_node_heartbeat (s : State) (i : StreamId) (m : NodeId) :
    ((s.cancelStream i).node m).heartbeat = (s.node m).heartbeat := by
  unfold State.cancelStream; exact foldl_keeps (fun u : State => (u.node m).heartbeat) _ (by intros; simp) _ _
@[simp] theorem State.cancelStream_arbiter (s : State) (i : StreamId) (k : SpanId) :
    ((s.cancelStream i).span k).arbiter = (s.span k).arbiter := by
  unfold State.cancelStream; exact foldl_keeps (fun u : State => (u.span k).arbiter) _ (by intros; simp) _ _
@[simp] theorem State.cancelStream_service (s : State) (i : StreamId) (k : SpanId) :
    ((s.cancelStream i).span k).service = (s.span k).service := by
  unfold State.cancelStream; exact foldl_keeps (fun u : State => (u.span k).service) _ (by intros; simp) _ _
@[simp] theorem State.cancelStream_monitor (s : State) (i : StreamId) (k : SpanId) :
    ((s.cancelStream i).span k).monitor = (s.span k).monitor := by
  unfold State.cancelStream; exact foldl_keeps (fun u : State => (u.span k).monitor) _ (by intros; simp) _ _
@[simp] theorem State.cancelStream_budget (s : State) (i : StreamId) (k : SpanId) :
    ((s.cancelStream i).span k).budget = (s.span k).budget := by
  unfold State.cancelStream; exact foldl_keeps (fun u : State => (u.span k).budget) _ (by intros; simp) _ _

/-! ## placePiece -/

@[simp] theorem State.placePiece_pending (s : State) (hold : Bool) (h : Handle) (p : Nat) : (State.placePiece hold h s p).pending = s.pending := by
  unfold State.placePiece; split <;> [rfl; (split <;> [(split <;> simp); simp])]
@[simp] theorem State.placePiece_time (s : State) (hold : Bool) (h : Handle) (p : Nat) : (State.placePiece hold h s p).time = s.time := by
  unfold State.placePiece; split <;> [rfl; (split <;> [(split <;> simp); simp])]
@[simp] theorem State.placePiece_gens (s : State) (hold : Bool) (h : Handle) (p : Nat) : (State.placePiece hold h s p).gens = s.gens := by
  unfold State.placePiece; split <;> [rfl; (split <;> [(split <;> simp); simp])]
@[simp] theorem State.placePiece_streams (s : State) (hold : Bool) (h : Handle) (p : Nat) : (State.placePiece hold h s p).streams = s.streams := by
  unfold State.placePiece; split <;> [rfl; (split <;> [(split <;> simp); simp])]
@[simp] theorem State.placePiece_defaultSettle (s : State) (hold : Bool) (h : Handle) (p : Nat) : (State.placePiece hold h s p).defaultSettle = s.defaultSettle := by
  unfold State.placePiece; split <;> [rfl; (split <;> [(split <;> simp); simp])]
@[simp] theorem State.placePiece_orphanGrace (s : State) (hold : Bool) (h : Handle) (p : Nat) : (State.placePiece hold h s p).orphanGrace = s.orphanGrace := by
  unfold State.placePiece; split <;> [rfl; (split <;> [(split <;> simp); simp])]
@[simp] theorem State.placePiece_deadlineUnit (s : State) (hold : Bool) (h : Handle) (p : Nat) : (State.placePiece hold h s p).deadlineUnit = s.deadlineUnit := by
  unfold State.placePiece; split <;> [rfl; (split <;> [(split <;> simp); simp])]
@[simp] theorem State.placePiece_nodes (s : State) (hold : Bool) (h : Handle) (p : Nat) : (State.placePiece hold h s p).nodes = s.nodes := by
  unfold State.placePiece; split <;> [rfl; (split <;> [(split <;> simp); simp])]
@[simp] theorem State.placePiece_config (s : State) (hold : Bool) (h : Handle) (p : Nat) : (State.placePiece hold h s p).config = s.config := by
  unfold State.placePiece; split <;> [rfl; (split <;> [(split <;> simp); simp])]
@[simp] theorem State.placePiece_node (s : State) (hold : Bool) (h : Handle) (p : Nat) (m : NodeId) :
    (State.placePiece hold h s p).node m = s.node m := by
  unfold State.placePiece; split <;> [rfl; (split <;> [(split <;> simp); simp])]
@[simp] theorem State.placePiece_arbiter (s : State) (hold : Bool) (h : Handle) (p : Nat) (k : SpanId) :
    ((State.placePiece hold h s p).span k).arbiter = (s.span k).arbiter := by
  unfold State.placePiece; split <;> [rfl; (split <;> [(split <;> simp); simp])]
@[simp] theorem State.placePiece_service (s : State) (hold : Bool) (h : Handle) (p : Nat) (k : SpanId) :
    ((State.placePiece hold h s p).span k).service = (s.span k).service := by
  unfold State.placePiece; split <;> [rfl; (split <;> [(split <;> simp); simp])]
@[simp] theorem State.placePiece_monitor (s : State) (hold : Bool) (h : Handle) (p : Nat) (k : SpanId) :
    ((State.placePiece hold h s p).span k).monitor = (s.span k).monitor := by
  unfold State.placePiece; split <;> [rfl; (split <;> [(split <;> simp); simp])]
@[simp] theorem State.placePiece_budget (s : State) (hold : Bool) (h : Handle) (p : Nat) (k : SpanId) :
    ((State.placePiece hold h s p).span k).budget = (s.span k).budget := by
  unfold State.placePiece; split <;> [rfl; (split <;> [(split <;> simp); simp])]

/-! ## releaseFrame -/

@[simp] theorem State.releaseFrame_pending (s : State) (i : Nat) : (s.releaseFrame i).pending = s.pending := by
  unfold State.releaseFrame
  split
  · rfl
  · (try dsimp only)
    split
    · rfl
    · refine Eq.trans (State.finishIfDone_pending ..) ?_
      exact (foldl_keeps (fun u : State => u.pending) _ (by intros; simp) _ _).trans (by simp)
@[simp] theorem State.releaseFrame_time (s : State) (i : Nat) : (s.releaseFrame i).time = s.time := by
  unfold State.releaseFrame
  split
  · rfl
  · (try dsimp only)
    split
    · rfl
    · refine Eq.trans (State.finishIfDone_time ..) ?_
      exact (foldl_keeps (fun u : State => u.time) _ (by intros; simp) _ _).trans (by simp)
@[simp] theorem State.releaseFrame_gens (s : State) (i : Nat) : (s.releaseFrame i).gens = s.gens := by
  unfold State.releaseFrame
  split
  · rfl
  · (try dsimp only)
    split
    · rfl
    · refine Eq.trans (State.finishIfDone_gens ..) ?_
      exact (foldl_keeps (fun u : State => u.gens) _ (by intros; simp) _ _).trans (by simp)
@[simp] theorem State.releaseFrame_defaultSettle (s : State) (i : Nat) : (s.releaseFrame i).defaultSettle = s.defaultSettle := by
  unfold State.releaseFrame
  split
  · rfl
  · (try dsimp only)
    split
    · rfl
    · refine Eq.trans (State.finishIfDone_defaultSettle ..) ?_
      exact (foldl_keeps (fun u : State => u.defaultSettle) _ (by intros; simp) _ _).trans (by simp)
@[simp] theorem State.releaseFrame_orphanGrace (s : State) (i : Nat) : (s.releaseFrame i).orphanGrace = s.orphanGrace := by
  unfold State.releaseFrame
  split
  · rfl
  · (try dsimp only)
    split
    · rfl
    · refine Eq.trans (State.finishIfDone_orphanGrace ..) ?_
      exact (foldl_keeps (fun u : State => u.orphanGrace) _ (by intros; simp) _ _).trans (by simp)
@[simp] theorem State.releaseFrame_deadlineUnit (s : State) (i : Nat) : (s.releaseFrame i).deadlineUnit = s.deadlineUnit := by
  unfold State.releaseFrame
  split
  · rfl
  · (try dsimp only)
    split
    · rfl
    · refine Eq.trans (State.finishIfDone_deadlineUnit ..) ?_
      exact (foldl_keeps (fun u : State => u.deadlineUnit) _ (by intros; simp) _ _).trans (by simp)
@[simp] theorem State.releaseFrame_config (s : State) (i : Nat) : (s.releaseFrame i).config = s.config := by
  unfold State.releaseFrame
  split
  · rfl
  · (try dsimp only)
    split
    · rfl
    · refine Eq.trans (State.finishIfDone_config ..) ?_
      exact (foldl_keeps (fun u : State => u.config) _ (by intros; simp) _ _).trans (by simp)
@[simp] theorem State.releaseFrame_node_state (s : State) (i : Nat) (m : NodeId) :
    ((s.releaseFrame i).node m).state = (s.node m).state := by
  unfold State.releaseFrame
  split
  · rfl
  · (try dsimp only)
    split
    · rfl
    · refine Eq.trans (State.finishIfDone_node_state ..) ?_
      exact (foldl_keeps (fun u : State => (u.node m).state) _ (by intros; simp) _ _).trans (by simp)
@[simp] theorem State.releaseFrame_node_epoch (s : State) (i : Nat) (m : NodeId) :
    ((s.releaseFrame i).node m).epoch = (s.node m).epoch := by
  unfold State.releaseFrame
  split
  · rfl
  · (try dsimp only)
    split
    · rfl
    · refine Eq.trans (State.finishIfDone_node_epoch ..) ?_
      exact (foldl_keeps (fun u : State => (u.node m).epoch) _ (by intros; simp) _ _).trans (by simp)
@[simp] theorem State.releaseFrame_node_commands (s : State) (i : Nat) (m : NodeId) :
    ((s.releaseFrame i).node m).commands = (s.node m).commands := by
  unfold State.releaseFrame
  split
  · rfl
  · (try dsimp only)
    split
    · rfl
    · refine Eq.trans (State.finishIfDone_node_commands ..) ?_
      exact (foldl_keeps (fun u : State => (u.node m).commands) _ (by intros; simp) _ _).trans (by simp)
@[simp] theorem State.releaseFrame_node_linkUp (s : State) (i : Nat) (m : NodeId) :
    ((s.releaseFrame i).node m).linkUp = (s.node m).linkUp := by
  unfold State.releaseFrame
  split
  · rfl
  · (try dsimp only)
    split
    · rfl
    · refine Eq.trans (State.finishIfDone_node_linkUp ..) ?_
      exact (foldl_keeps (fun u : State => (u.node m).linkUp) _ (by intros; simp) _ _).trans (by simp)
@[simp] theorem State.releaseFrame_node_heartbeat (s : State) (i : Nat) (m : NodeId) :
    ((s.releaseFrame i).node m).heartbeat = (s.node m).heartbeat := by
  unfold State.releaseFrame
  split
  · rfl
  · (try dsimp only)
    split
    · rfl
    · refine Eq.trans (State.finishIfDone_node_heartbeat ..) ?_
      exact (foldl_keeps (fun u : State => (u.node m).heartbeat) _ (by intros; simp) _ _).trans (by simp)
@[simp] theorem State.releaseFrame_arbiter (s : State) (i : Nat) (k : SpanId) :
    ((s.releaseFrame i).span k).arbiter = (s.span k).arbiter := by
  unfold State.releaseFrame
  split
  · rfl
  · (try dsimp only)
    split
    · rfl
    · refine Eq.trans (congrArg (SpanState.arbiter) (State.finishIfDone_span ..)) ?_
      exact (foldl_keeps (fun u : State => (u.span k).arbiter) _ (by intros; simp) _ _).trans (by simp)
@[simp] theorem State.releaseFrame_service (s : State) (i : Nat) (k : SpanId) :
    ((s.releaseFrame i).span k).service = (s.span k).service := by
  unfold State.releaseFrame
  split
  · rfl
  · (try dsimp only)
    split
    · rfl
    · refine Eq.trans (congrArg (SpanState.service) (State.finishIfDone_span ..)) ?_
      exact (foldl_keeps (fun u : State => (u.span k).service) _ (by intros; simp) _ _).trans (by simp)
@[simp] theorem State.releaseFrame_monitor (s : State) (i : Nat) (k : SpanId) :
    ((s.releaseFrame i).span k).monitor = (s.span k).monitor := by
  unfold State.releaseFrame
  split
  · rfl
  · (try dsimp only)
    split
    · rfl
    · refine Eq.trans (congrArg (SpanState.monitor) (State.finishIfDone_span ..)) ?_
      exact (foldl_keeps (fun u : State => (u.span k).monitor) _ (by intros; simp) _ _).trans (by simp)
@[simp] theorem State.releaseFrame_budget (s : State) (i : Nat) (k : SpanId) :
    ((s.releaseFrame i).span k).budget = (s.span k).budget := by
  unfold State.releaseFrame
  split
  · rfl
  · (try dsimp only)
    split
    · rfl
    · refine Eq.trans (congrArg (SpanState.budget) (State.finishIfDone_span ..)) ?_
      exact (foldl_keeps (fun u : State => (u.span k).budget) _ (by intros; simp) _ _).trans (by simp)

end Sys2Proof.Machine
end

