-- ==== Sys2Proof/Tests/Slice0.lean ====
section
/-! SUPPORT. Tests of the model: the smoke of WellFormed, values worked in the manual, and for every statement with
hypotheses a concrete case that meets them. -/

namespace Sys2Proof.Tests

open Sys2Proof.Machine

set_option Elab.async false

/-! ## Sample states -/

/-- A 256-byte command record: code, bytes 2 and 3, stream id, arguments (R178). -/
def record (code b2 b3 h g : Nat) (args : List Nat) : List Byte :=
  (leBytes 2 code ++ [BitVec.ofNat 8 b2, BitVec.ofNat 8 b3, BitVec.ofNat 8 h, BitVec.ofNat 8 g] ++
    List.replicate 10 0 ++ args.flatMap (leBytes 8) ++ List.replicate 256 0).take 256

/-- A FRAME_READ record for the stream at handle `h`: cookie, number, then extents of a span and a block count. -/
def readRecord (h cookie number : Nat) (exts : List (Nat × Nat)) : List Byte :=
  (record 9 exts.length 0 h 0 [cookie, number]).take 32 ++
    exts.flatMap (fun x => [BitVec.ofNat 8 x.1, 0] ++ leBytes 2 x.2 ++ List.replicate 20 0) ++
    List.replicate (224 - 24 * exts.length) 0

/-- Every span UP, N0 and N1 ATTACHED in epoch 1 since time 0 with four vectors. -/
def calm : State :=
  { State.reset with
    spans := bank8 fun j => { State.reset.span j with
      service := { (State.reset.span j).service with link := .up },
      budget := { (State.reset.span j).budget with link := .up } },
    nodes := bank4 fun n => if n.val < 2 then { State.reset.node n with
      state := .attached, epoch := 1, vectors := List.replicate 4 { fired := false, held := false },
      heartbeat := some { period := 1000, window := 50, last := 0, expiry := 1000000 } } else State.reset.node n }

/-- A state with the record given alone in node `n`'s command FIFO. -/
def given (s : State) (n : NodeId) (rec : List Byte) : State :=
  s.modNode n fun nd => { nd with commands := [rec], reserved := nd.reserved + 1 }

/-- A state in which node `n` holds the configuration claim. -/
def holding (s : State) (n : NodeId) : State := { s with config := { s.config with holder := some n } }

/-- The stream of N0 on S0 and S1 of the samples, in play. -/
def film : Stream :=
  { state := .playing, owner := some 0, prior := none, period := 41708, frameBlocks := 4320, share := 2160,
    spans := [{ span := 0, u := 303060, reserved := true }, { span := 1, u := 303060, reserved := true }], depth := 2,
    lead := 60000, settle := 40, scrub := .every, late := .skip,
    anchor := some { time := 10200000, frame := 1000, speed := 1 }, outstanding := 1, degraded := false,
    framesOk := 0, framesLate := 0, framesSkipped := 0, framesFailed := 0, orphanExpiry := none,
    settleExpiry := none, scrubList := [] }

/-- Its frame 1,000, of which one piece is left on each span. -/
def frame1000 : Frame :=
  { stream := { handle := 0, gen := 0 }, node := 0, epoch := 1, cookie := 7, number := 1000, kind := .play,
    deadline := some 10140000, cancel := none, positions := [.piece 0, .piece 1], accepted := 10000100 }

/-- The piece of frame 1,000 at a stripe position. -/
def piece (k : Fin 2) (state : PieceState) : Piece :=
  { frame := 0, position := k, span := if k = 0 then 0 else 1, start := 0, count := 2160, token := 0, state := state,
    seq := if state = .held then none else some (BitVec.ofNat 32 k) }

/-- The sample stream with its frame waiting in the queues of S0 and S1, at 10,000,100. -/
def playing : State :=
  { calm with
    time := 10000100, streams := [(0, film)], frames := [(0, frame1000)],
    pieces := [(0, piece 0 .queued), (1, piece 1 .queued)], arrival := 2,
    nodes := calm.nodes.set 0 { calm.node 0 with reserved := 1 },
    spans := bank8 fun j => if j.val < 2 then { calm.span j with
        queue := { deadlines := [j.val], background := [], deadlineTimer := some 10140000, windowTimer := some 10090000 },
        budget := { (calm.span j).budget with committed := 303060 } } else calm.span j }

/-- The sample stream with its fields changed. -/
def changed (s : State) (f : Stream → Stream) : State := { s with streams := s.streams.modify 0 f }

/-- The sample state with frame 1,000 in the hold of a stream in SCRUBBING. -/
def scrubbing : State :=
  { changed playing (fun st => { st with
      state := .scrubbing, anchor := none, scrubList := [0], settleExpiry := some 10000100 }) with
    frames := [(0, { frame1000 with kind := .scrub, deadline := none })],
    pieces := [(0, piece 0 .held), (1, piece 1 .held)], arrival := 0,
    spans := bank8 fun j => { playing.span j with queue := (calm.span j).queue } }

/-- The sample state with both pieces in slot 0 of their spans. -/
def serving : State :=
  { playing with
    pieces := [(0, piece 0 .inService), (1, piece 1 .inService)],
    spans := bank8 fun j => if j.val < 2 then { playing.span j with
        queue := (calm.span j).queue,
        service := { (playing.span j).service with
          slots := (playing.span j).service.slots.set 0 { gen := 0, state := .busy j.val 10000100 11000100 } } }
      else playing.span j }

/-- A state with these reports in flight. -/
def telling (s : State) (rs : List Report) : State := { s with reports := rs }

theorem test_playing_safe : playing.safe := by
  refine ⟨?_, ?_, ?_, ?_, ?_, ?_, ?_, ?_, ?_⟩ <;> decide +kernel

theorem test_serving_safe : serving.safe := by
  refine ⟨?_, ?_, ?_, ?_, ?_, ?_, ?_, ?_, ?_⟩ <;> decide +kernel

theorem test_scrubbing_safe : scrubbing.safe := by
  refine ⟨?_, ?_, ?_, ?_, ?_, ?_, ?_, ?_, ?_⟩ <;> decide +kernel

/-! ## WellFormed -/

theorem test_wf_piece : Instr.wf (.pieceOutcome 2047) = true ∧ Instr.wf (.pieceOutcome 2048) = false := by decide

theorem test_wf_message :
    ([[7], [2, 0, 0], [4], [2, 0, 0, 0], [4, 1]].map fun m => Instr.wf (.spanMessageOther 0 m)) =
      [true, true, true, false, false] := by decide


/-! ## Values worked in the manual (Worked Sequences) -/

/-- The state that a row leaves. -/
def after (o : Host.Outcome State Fault Refusal) : State :=
  match o with
  | .next s => s
  | _ => State.reset

/-- The OPEN_STREAM of the first sequence, on S0 to S3. -/
def openRecord : List Byte := record 4 0 0 0 0 [41708, 8640, 4, 0, 1, 2, 3, 0, 0, 0, 0, 4, 60000, 0, 0, 0]

/-- First sequence: share 2,160 and U 303,060 committed on S0 to S3 and on no other span. -/
theorem test_open_commits : (List.map (fun j => ((after (exec (.openStream 0) (given calm 0 openRecord))).span j).budget.committed)
    [0, 3, 4]) = [303060, 303060, 0] := by decide +kernel

/-- First sequence: N3's OPEN finds 909,180 committed under 950,000 and is refused with the figures of S0. -/
theorem test_open_over_budget : ((after (exec (.openStream 0) (given (calm.modBudget 0 fun b =>
    { b with committed := 909180, ceiling := 950000, effective := 950000 }) 0 openRecord))).node 0).events.map
      (fun e => (e.tag, e.body)) = [(.result .overBudget,
        [some 0, some 0, some 303060, some 909180, some 950000, some 0])] := by decide +kernel

/-- Second sequence: PLAY taken at 10,000,000 with preroll 200,000 anchors the stream at 10,200,000. -/
theorem test_play_anchor : ((after (exec (.play 0) (given { playing with time := 10000000 } 0
    (record 6 0 0 0 0 [1000, 1, 200000])))).stream 0).map Stream.anchor =
      some (some { time := 10200000, frame := 1000, speed := 1 }) := by decide +kernel

/-- Second sequence: frame 1,001 gets deadline 10,181,708. -/
theorem test_read_deadline : ((after (exec (.frameRead 0) (given playing 0
    (readRecord 0 8 1001 [(0, 2160), (1, 2160)])))).frames.get 1).map Frame.deadline = some (some 10181708) := by decide +kernel

/-- Second sequence: the timers of S2 with 1,001 alone waiting stand at 10,181,708 and at its DUE crossing 10,131,708. -/
theorem test_queue_timers : let s := { playing with frames := [(0, { frame1000 with deadline := some 10181708 })] }
    (s.deadlineArm 0, s.windowArm 0) = (some 10181708, some 10131708) := by decide +kernel

/-- Second sequence: a completion at 10,150,000 of a piece dispatched at 10,000,100 has latency 149,900. -/
theorem test_completion_latency : (after (exec (.extentDone 0 0 0 0) { serving with time := 10150000 })).reports =
    [.outcome 0 .ok, .latency 0 149900, .select 0] := by decide +kernel

/-- Second sequence: frame 1,000, whose last piece is taken at 10,150,000, is OK and late by 10,000. -/
theorem test_frame_late : ((after (exec (.pieceOutcome 0) (telling { serving with
      time := 10150000, frames := [(0, { frame1000 with positions := [.piece 0, .finished .ok] })] }
    [.outcome 0 .ok]))).node 0).events.map (fun e => (e.tag, (e.body.drop 4).take 2)) =
    [(.frameDone .ok, [some 1, some 10000])] := by decide +kernel

/-- Third sequence: a settle interval of 40 ms runs from the acceptance at 20,010,000 to 20,050,000, and frame 300 is
superseded. -/
theorem test_scrub_hold : let s := { changed scrubbing (fun st => { st with scrub := .lastWins }) with time := 20010000 }
    ((after (exec (.frameRead 0) (given s 0 (readRecord 0 8 310 [(0, 9), (1, 9)])))).stream 0).map
      (fun st => (st.settleExpiry, st.scrubList, st.outstanding)) = some (some 20050000, [1], 1) := by decide +kernel

/-- Third sequence: a release at 20,058,000 gives deadline 20,138,000. -/
theorem test_release_deadline : ((after (exec (.settleTimerExpiry 0) { scrubbing with time := 20058000 })).frames.get 0).map
    Frame.deadline = some (some 20138000) := by decide +kernel

/-- Fourth sequence: window 1 derates S0 from 950,000 to 900,000. -/
theorem test_window_derates : ((after (exec (.monitorWindowExpiry 0) { calm.modMonitor 0 (fun m => { m with
      effective := 950000, params := { m.params with ceiling := 950000 }, since := 20,
      counts := { m.counts with top := 4 } }) with time := 100000 })).span 0).monitor.effective = 900000 := by decide +kernel

/-- Fourth sequence: window 3 trips S0, its own trip count 2 and the previous window's 1. -/
theorem test_window_trips : ((after (exec (.monitorWindowExpiry 0) { calm.modMonitor 0 (fun m => { m with
      counts := { m.counts with top := 2, trip := 2 }, previous := { m.previous with trip := 1 } }) with
        time := 100000 })).span 0).monitor.tripped = true := by decide +kernel

/-- Fifth sequence: N0's timer expires at 31,000,000 and the stream is ORPHANED until 36,000,000. -/
theorem test_loss_orphans : ((after (exec (.heartbeatTimerExpiry 0) { playing with time := 31000000 })).stream 0).map
    (fun st => (st.state, st.orphanExpiry)) = some (.orphaned, some 36000000) := by decide +kernel

/-- Fifth sequence: ADOPT at 31,200,000 of an orphan whose timer stands at 36,000,000 reports 4,800 ms. -/
theorem test_adopt_grace : ((after (exec (.adopt 1) (given { changed playing (fun st => { st with
      state := .orphaned, owner := none, prior := some .playing, anchor := none, orphanExpiry := some 36000000 }) with
    time := 31200000 } 1 (record 10 0 0 0 0 [])))).node 1).events.map (fun e => (e.tag, (e.body.drop 2).head?)) =
      [(.result .ok, some (some 4800)), (.streamNotice .adopted, some (some 2))] := by decide +kernel

/-- R180: the bytes of a READ_EXTENT and of a TRAIN. -/
theorem test_messages : (SpanMessage.readExtent 3 9 0x1234 0x0102030405 0x11).bytes =
      [1, 3, 9, 0, 0x34, 0x12, 5, 4, 3, 2, 1, 0, 0, 0, 0, 0, 0x11, 0, 0, 0, 0, 0, 0, 0] ∧
    (SpanMessage.train 2).bytes = [3, 2, 0, 0, 0, 0, 0, 0] := by decide +kernel

/-! ## Cases that meet the hypotheses of the statements -/

theorem witness_StepTakesTheFrontCommand : ({ State.reset with pending := [.resetPin, .attach 0] } : State).pending =
    .resetPin :: [.attach 0] := rfl

theorem witness_IdlePart : State.reset.pending = [] ∧ State.reset.arisen = [] ∧
    (given calm 0 openRecord).pending = [] ∧ (given calm 0 openRecord).arisen = [.openStream 0] := by decide +kernel

theorem witness_EveryRowGoesOn : Instr.attach 2 ≠ .powerOnReset ∧ (calm.node 2).state ≠ .attached := by decide +kernel

/-- 63 places are the last that take a notice, 64 the first that lose it. -/
theorem witness_Answers : (calm.node 2).state ≠ .attached ∧
    (let nd := { calm.node 0 with reserved := 63 }; nd.state = .attached ∧ nd.events.length + nd.reserved < 64) ∧
    (let nd := { calm.node 0 with reserved := 64 }; nd.state = .attached ∧ 64 ≤ nd.events.length + nd.reserved) := by
  decide +kernel

theorem witness_Vectors : (let nd := { calm.node 0 with vectors := [⟨true, false⟩, ⟨false, false⟩] };
      vectorFor nd.vectors.length (.result .ok) = 0 ∧ nd.vectors[0]? = some ⟨true, false⟩ ∧
      vectorFor nd.vectors.length (.spanNotice .linkUp) = 1 ∧ nd.vectors[1]? = some ⟨false, false⟩) ∧
    ([⟨true, false⟩] : List VectorState)[0]? = some ⟨true, false⟩ := by decide +kernel

/-- A state in which POWER_ON_RESET ends in State.reset, and one whose span 0 is out of its bay. -/
theorem witness_PowerOnValues : State.reset.pending = [] ∧ (∀ j, (State.reset.span j).service.presence = true) ∧
    (∀ n, (State.reset.node n).linkUp = true) ∧
    ((calm.modService 0 fun v => { v with presence := false }).span 0).service.presence = false := by decide +kernel

theorem witness_Resets : (holding (given calm 0 (record 21 0 0 0 0 [])) 0).claims 0 21 (record 21 0 0 0 0 []) [] ∧
    (calm.span 0).service.presence = true ∧
    ((calm.modService 0 fun v => { v with presence := false }).span 0).service.presence = false := by decide +kernel

/-- The sixteenth command and the last free place are the last taken. -/
theorem witness_WritesAtAPort : (let nd := { calm.node 0 with commands := List.replicate 15 openRecord, reserved := 63 };
      nd.linkUp = true ∧ openRecord.length = 256 ∧ nd.commands.length < 16 ∧ nd.events.length + nd.reserved < 64) ∧
    (openRecord ++ [0]).length ≠ 256 ∧ openRecord.dropLast.length ≠ 256 ∧
    16 ≤ (List.replicate 16 openRecord).length ∧ 64 ≤ (calm.node 0).events.length + 64 ∧
    ({ calm.node 0 with linkUp := false } : Node).linkUp = false := by decide +kernel

/-- A record to read. -/
def line : EventRec := { tag := .result .ok, command := 13, epoch := 1, time := 5, body := [] }

theorem witness_EventWindowRead : ({ calm.node 0 with linkUp := false } : Node).linkUp = false ∧
    (calm.node 0).linkUp = true ∧ (calm.node 0).events = [] ∧
    (let nd := { calm.node 0 with events := [line], lossPending := some 3, reserved := 64 };
      nd.events = line :: [] ∧ 64 ≤ ([] : List EventRec).length + nd.reserved) ∧
    (let nd := { calm.node 0 with events := [line], lossPending := some 3, reserved := 63 };
      nd.lossPending = some 3 ∧ nd.state = .attached ∧ ([] : List EventRec).length + nd.reserved < 64) := by
  decide +kernel

theorem witness_LinkUpAndOtherAccesses : (calm.node 0).linkUp = true ∧
    ((calm.modNode 0 fun nd => { nd with linkUp := false }).node 0).linkUp = false := by decide +kernel

theorem witness_CommandsTurnedAway :
    (given calm 3 (record 23 0 0 0 0 [])).heads 3 23 (record 23 0 0 0 0 []) [] ∧
    (given calm 3 (record 0 0 0 0 0 [])).heads 3 0 (record 0 0 0 0 0 []) [] ∧
    (given calm 3 (record 2 0 0 0 0 [])).heads 3 2 (record 2 0 0 0 0 []) [] ∧ (calm.node 3).state ≠ .attached ∧
    (given calm 0 (record 15 0 0 0 0 [])).heads 0 15 (record 15 0 0 0 0 []) [] ∧
      (calm.node 0).state = .attached ∧ calm.config.holder ≠ some 0 ∧
    (given playing 0 (record 5 0 0 0 1 [])).heads 0 5 (record 5 0 0 0 1 []) [] ∧
      playing.named (recStream (record 5 0 0 0 1 [])) = none ∧
    (given playing 1 (record 5 0 0 0 0 [])).heads 1 5 (record 5 0 0 0 0 []) [] ∧
      playing.named (recStream (record 5 0 0 0 0 [])) = some film ∧ film.owner ≠ some 1 := by decide +kernel

theorem witness_Flags : (given calm 3 (record 22 0 0 0 0 [])).heads 3 22 (record 22 0 0 0 0 []) [] ∧
    (given calm 0 (record 22 0 0 0 0 [])).heads 0 22 (record 22 0 0 0 0 []) [] ∧
    (given calm 0 (record 13 0 0 0 0 [])).heads 0 13 (record 13 0 0 0 0 []) [] ∧
    (calm.node 3).state ≠ .attached ∧ (calm.node 0).state = .attached := by decide +kernel

theorem witness_Attach : (given calm 0 (record 1 0 0 0 0 [3])).heads 0 1 (record 1 0 0 0 0 [3]) [] ∧
    (calm.node 0).state = .attached ∧
    (given calm 3 (record 1 0 0 0 0 [1])).heads 3 1 (record 1 0 0 0 0 [1]) [] ∧ (calm.node 3).state ≠ .attached := by
  decide +kernel

/-- With H = 1,000 ms and f = 50 the bound is 500,000 µs: 499,999 is early, 500,000 is not. -/
theorem witness_Heartbeat : (given calm 0 (record 3 0 0 0 0 [])).heads 0 3 (record 3 0 0 0 0 []) [] ∧
    (given calm 3 (record 3 0 0 0 0 [])).heads 3 3 (record 3 0 0 0 0 []) [] ∧ (calm.node 3).state ≠ .attached ∧
    (calm.node 0).state = .attached ∧
    (calm.node 0).heartbeat = some { period := 1000, window := 50, last := 0, expiry := 1000000 } ∧
    ((calm.modNode 0 fun nd => { nd with earlyBeat := true }).node 0).earlyBeat = true ∧
    timeDiff 499999 0 < ((1000 * (100 - 50) * 10 : Nat) : Int) ∧ ((1000 * (100 - 50) * 10 : Nat) : Int) ≤ timeDiff 500000 0 := by
  decide +kernel

/-- R152, R189: e, the new expiry, the next boundary, and the period and window held. -/
theorem test_heartbeat_ok : ((after (exec (.heartbeat 0) (given { calm with time := 600000 } 0
    (record 3 0 0 0 0 [])))).node 0).events.map (fun e => (e.tag, e.body)) =
      [(.result .ok, [some 600000, some 1600000, some 1100000, some 1000, some 50])] := by decide +kernel

theorem witness_Detach : (given playing 0 (record 2 0 1 0 0 [])).issues 0 2 (record 2 0 1 0 0 []) [] ∧
    (given playing 0 (record 2 0 0 0 0 [])).issues 0 2 (record 2 0 0 0 0 []) [] ∧ playing.servedBy 0 = [0] := by
  decide +kernel

theorem witness_NodeLoss : (playing.node 0).state = .attached ∧ (calm.node 3).state ≠ .attached ∧
    (playing.node 0).heartbeat = some { period := 1000, window := 50, last := 0, expiry := 1000000 } ∧
    0 ≤ timeDiff 1000000 1000000 ∧ playing.stream 0 = some film := by decide +kernel

/-- The last free record and the last ppm of the ceiling: U 303,060 where 546,940 is committed under 850,000. -/
theorem witness_OpenStream : (let s := given (calm.modBudget 3 fun b => { b with ceiling := 303060 }) 0 openRecord;
      s.issues 0 4 openRecord [] ∧ (recOpenArgs openRecord).ok [0, 1, 2, 3] .lastWins .skip ∧
      s.streams.get 0 = none ∧ ∀ j ∈ ([0, 1, 2, 3] : List SpanId), (s.span j).budget.admits (s.uOn (recOpenArgs openRecord) j)) ∧
    (given (calm.modBudget 3 fun b => { b with ceiling := 303060 }) 0 openRecord).budgetOk := by decide +kernel

theorem witness_OpenStream_boundary : Budget.admits { (calm.span 0).budget with committed := 546940 } 303060 ∧
    ¬ Budget.admits { (calm.span 0).budget with committed := 546941 } 303060 := by decide +kernel

/-- A table with every record in use. -/
def full : State := { calm with streams := (List.range 256).map fun i => (i, { film with spans := [] }) }

theorem witness_OpenStreamRefused :
    (given calm 0 openRecord).issues 0 4 openRecord [] ∧
    (recOpenArgs openRecord).ok [0, 1, 2, 3] .lastWins .skip ∧ [0, 1, 2, 3] = [0] ++ (1 : SpanId) :: [2, 3] ∧
    (∀ i ∈ ([0] : List SpanId), (calm.span i).budget.admits (calm.uOn (recOpenArgs openRecord) i)) ∧
    ((calm.modBudget 1 fun b => { b with link := .failed }).span 1).budget.link ≠ .up ∧
    ((calm.modBudget 1 fun b => { b with ceiling := 303059 }).span 1).budget.ceiling <
      calm.uOn (recOpenArgs openRecord) 1 ∧
    ((calm.modBudget 1 fun b => { b with committed := 546941 }).span 1).budget.effective <
      546941 + calm.uOn (recOpenArgs openRecord) 1 ∧
    ((calm.modBudget 1 fun b => { b with tripped := true }).span 1).budget.tripped = true := by decide +kernel

theorem witness_OpenStreamRefused_args (js : List SpanId) (sp : ScrubPolicy) (lp : LatePolicy) :
    ¬ (recOpenArgs (record 4 0 0 0 0 [999, 8640, 1])).ok js sp lp := fun h =>
  absurd h.1 (by decide +kernel)

theorem full_keys : full.streams.keys = List.range 256 := by
  simp [full, Pool.keys, Function.comp_def]

theorem witness_OpenStreamRefused_full : full.streams.sorted ∧ (∀ i < 256, full.streams.get i ≠ none) := by
  refine ⟨by rw [Pool.sorted, full_keys]; exact List.pairwise_lt_range, fun i hi h => ?_⟩
  rw [Pool.get_none_iff, full_keys] at h
  exact h (List.mem_range.2 hi)

theorem witness_OnlyAdmission : exec (.openStream 0) (given calm 0 openRecord) =
      .next (after (exec (.openStream 0) (given calm 0 openRecord))) ∧
    ((given calm 0 openRecord).span 0).budget.committed <
      ((after (exec (.openStream 0) (given calm 0 openRecord))).span 0).budget.committed := ⟨rfl, by decide +kernel⟩

theorem witness_StreamsClose : (given playing 0 (record 5 0 0 0 0 [])).issues 0 5 (record 5 0 0 0 0 []) [] ∧
    playing.named (recStream (record 5 0 0 0 0 [])) = some film ∧ film.owner = some 0 ∧ film.state ≠ .closing ∧
    (changed playing fun st => { st with state := .closing }).named { handle := 0, gen := 0 } =
      some { film with state := .closing } := by decide +kernel

/-- The sample stream as an orphan. -/
def orphaned : State := changed playing fun st =>
  { st with state := .orphaned, owner := none, prior := some .playing, anchor := none, orphanExpiry := some 10000100 }

theorem witness_Adopt : (given orphaned 1 (record 10 0 0 0 0 [])).issues 1 10 (record 10 0 0 0 0 []) [] ∧
    (given orphaned 1 (record 11 0 0 0 0 [])).issues 1 11 (record 11 0 0 0 0 []) [] ∧
    (orphaned.named { handle := 0, gen := 0 }).map Stream.state = some .orphaned ∧
    (given playing 1 (record 10 0 0 0 0 [])).issues 1 10 (record 10 0 0 0 0 []) [] ∧ film.state ≠ .orphaned := by
  decide +kernel

theorem witness_StreamsDrainAndAreFreed : (orphaned.stream 0).map (fun st => (st.state, st.orphanExpiry)) =
      some (.orphaned, some 10000100) ∧ 0 ≤ timeDiff orphaned.time 10000100 ∧
    ((changed playing fun st => { st with state := .closing, outstanding := 0 }).stream 0).map
      (fun st => (st.state, st.outstanding)) = some (.closing, 0) := by decide +kernel

theorem witness_ReturnToFree : playing.stream 0 = some film ∧ playing.streams.sorted ∧
    (∃ e ∈ film.spans, e.span = 0 ∧ e.reserved = true) := by decide +kernel

theorem witness_AdmissionReports :
    (telling playing [.absent 1, .linkState 0 .training]).offers (toAdmission 0) (.linkState 0 .training) [.absent 1] [] ∧
    (telling playing [.absent 0]).offers (toAdmission 0) (.absent 0) [] [] ∧
    (telling playing [.ceiling 0 300000 false]).offers (fun | .ceiling k _ _ => decide (k = 0) | _ => false)
      (.ceiling 0 300000 false) [] [] := by decide +kernel

/-- The greatest frame number is taken, the next is BAD_ARGS. -/
theorem witness_Play : (given playing 0 (record 6 0 0 0 0 [2147483647, 3, 0])).issues 0 6
      (record 6 0 0 0 0 [2147483647, 3, 0]) [] ∧
    recArg (record 6 0 0 0 0 [2147483647, 3, 0]) 0 ≤ 2147483647 ∧ recArgSigned (record 6 0 0 0 0 [2147483647, 3, 0]) 1 ≠ 0 ∧
    2147483647 < recArg (record 6 0 0 0 0 [2147483648, 3, 0]) 0 ∧
    playing.named { handle := 0, gen := 0 } = some film ∧ film.owner = some 0 ∧ film.state ≠ .closing ∧
    ({ film with state := .closing } : Stream).state = .closing := by decide +kernel

/-- A PLAY of speed 0 in STOPPED is answered WRONG_STATE with the indicator that it was taken as a STOP (R33). -/
theorem test_zero_speed_wrong_state : ((after (exec (.play 0) (given (changed playing fun st =>
      { st with state := .stopped, anchor := none }) 0 (record 6 0 0 0 0 [0, 0, 0])))).node 0).events.map
        (fun e => (e.tag, e.body)) = [(.result .wrongState, [none, some 1])] := by decide +kernel

theorem witness_StopAndScrub : (given playing 0 (record 7 0 0 0 0 [])).issues 0 7 (record 7 0 0 0 0 []) [] ∧
    (given playing 0 (record 6 0 0 0 0 [0, 0, 0])).issues 0 6 (record 6 0 0 0 0 [0, 0, 0]) [] ∧
    recArgSigned (record 6 0 0 0 0 [0, 0, 0]) 1 = 0 ∧
    (given playing 0 (record 8 0 0 0 0 [])).issues 0 8 (record 8 0 0 0 0 []) [] ∧
    playing.named { handle := 0, gen := 0 } = some film ∧ film.owner = some 0 ∧ film.state = .playing ∧
    ({ film with state := .stopped } : Stream).state ≠ .playing ∧ (scrubbing.stream 0).map Stream.state = some .scrubbing ∧
    ({ film with state := .stopped } : Stream).state ≠ .scrubbing := by decide +kernel

theorem witness_Deadlines : film.anchor = some { time := 10200000, frame := 1000, speed := 1 } ∧
    film.state = .playing ∧ film.playDeadline { time := 10200000, frame := 1000, speed := 1 } 1001 = some 10181708 ∧
    film.playDeadline { time := 10200000, frame := 1000, speed := 1 } 999 = none ∧
    ({ film with state := .stopped } : Stream).state = .stopped ∧
    ({ film with state := .scrubbing } : Stream).state = .scrubbing := by decide +kernel

/-- Slack −1, 0, 8,000, 8,001, 50,000, 50,001, 500,000 and 500,001: the edges of the bands. -/
theorem witness_Urgency : let a := (calm.span 0).arbiter
    a.urgent ≤ a.due ∧ a.due ≤ a.lookahead ∧
    [a.classOf 1 0, a.classOf 0 0, a.classOf 0 8000, a.classOf 0 8001, a.classOf 0 50000, a.classOf 0 50001,
      a.classOf 0 500000, a.classOf 0 500001] =
      [.late, .urgent, .urgent, .due, .due, .ahead, .ahead, .future] := by decide +kernel

/-- A read of the sample stream. -/
def readOf (number : Nat) : List Byte := readRecord 0 8 number [(0, 2160), (1, 1)]

theorem witness_FrameReadRefused :
    (given playing 3 (readOf 1001)).heads 3 9 (readOf 1001) [] ∧ (playing.node 3).state ≠ .attached ∧
    (given playing 0 (readRecord 9 8 1001 [])).heads 0 9 (readRecord 9 8 1001 []) [] ∧
      playing.named (recStream (readRecord 9 8 1001 [])) = none ∧
    (given playing 0 (readOf 1001)).heads 0 9 (readOf 1001) [] ∧ playing.named (recStream (readOf 1001)) = some film ∧
      (playing.node 0).state = .attached ∧ film.owner ≠ some 1 ∧ film.owner = some 0 ∧ film.state ≠ .closing ∧
      ({ film with state := .closing } : Stream).state = .closing ∧
    ¬ recArg (readOf 2147483648) 1 ≤ 2147483647 ∧ recArg (readOf 2147483647) 1 ≤ 2147483647 ∧
    (∃ kv ∈ playing.frames, kv.2.stream = recStream (readOf 1000) ∧ kv.2.number = recArg (readOf 1000) 1) := by
  decide +kernel

theorem witness_FrameReadRefused_args : (let r := readOf 1000
      let exts := recExtents r (recExtentCount r)
      recArg r 1 ≤ 2147483647 ∧ recExtentCount r = film.spans.length ∧
      exts.map Extent.span = (film.spans.map fun e => e.span.val) ∧ ∀ x ∈ exts, 1 ≤ x.count ∧ x.count ≤ film.share) ∧
    ¬ (∀ x ∈ recExtents (readRecord 0 8 1000 [(0, 2161), (1, 1)]) 2, 1 ≤ x.count ∧ x.count ≤ film.share) ∧
    ¬ (∀ x ∈ recExtents (readRecord 0 8 1000 [(0, 2160), (1, 0)]) 2, 1 ≤ x.count ∧ x.count ≤ film.share) := by
  decide +kernel

theorem witness_FrameReadRefused_depth : (let s := given (changed playing fun st => { st with outstanding := 2 }) 0 (readOf 1001)
      s.readOk 0 (readOf 1001) { film with outstanding := 2 }) ∧ film.depth ≤ 2 ∧ film.state ≠ .scrubbing := by
  decide +kernel

/-- Of 2,048 piece records 2,047 are in use, and a read of W = 2 is one too many. -/
theorem witness_FrameReadRefused_pool : (let s := given { playing with
        pieces := (List.range 2047).map fun i => (i, piece 0 .queued) } 0 (readOf 1001)
      s.readOk 0 (readOf 1001) film ∧ film.outstanding < film.depth ∧ 2048 < s.pieces.length + film.spans.length) := by
  decide +kernel

/-- Under EVERY the candidate would free one piece record where two are needed. -/
theorem witness_FrameReadRefused_candidate : (let s := given { changed scrubbing (fun st => { st with outstanding := 2 }) with
        frames := [(0, { frame1000 with kind := .scrub, deadline := none, positions := [.piece 0, .finished .spanLost] })],
        pieces := (List.range 2048).map fun i => (i, piece 0 .held) } 0 (readOf 1001)
      (s.stream 0).any (fun st => decide (s.readOk 0 (readOf 1001) st ∧ st.depth ≤ st.outstanding ∧
        st.state = .scrubbing ∧ st.scrub = .every ∧ st.scrubList = 0 :: [])) = true ∧
      (s.frames.get 0).any (fun f => decide (2048 + (f.pieceRefs.filter s.waits).length <
        s.pieces.length + 2)) = true) := by decide +kernel

/-- One µs past the deadline of 10,181,708 the read is skipped, at the deadline itself it is accepted. -/
theorem witness_FrameReadSkipped : (given { playing with time := 10181709 } 0 (readOf 1001)).readOk 0 (readOf 1001) film ∧
    film.anchor = some { time := 10200000, frame := 1000, speed := 1 } ∧
    film.playDeadline { time := 10200000, frame := 1000, speed := 1 } (recArg (readOf 1001) 1) = some 10181708 ∧
    film.late = .skip ∧ ((10181708 : Time) - 10181709).toInt < 0 ∧ 0 ≤ ((10181708 : Time) - 10181708).toInt := by
  decide +kernel

theorem witness_FrameReadAccepted : (given playing 0 (readOf 1001)).heads 0 9 (readOf 1001) [] ∧
    (given playing 0 (readOf 1001)).readOk 0 (readOf 1001) film ∧ film.outstanding < film.depth ∧
    playing.frames.length < 512 ∧ playing.pieces.length + film.spans.length ≤ 2048 ∧
    film.timing (recArg (readOf 1001) 1) = (.play, some 10181708) ∧ film.timing (recArg (readOf 999) 1) = (.park, none) ∧
    (given playing 0 (readOf 999)).readOk 0 (readOf 999) film := by decide +kernel

theorem witness_FrameReadAccepted_every : (let s := given (changed scrubbing fun st => { st with outstanding := 2 }) 0 (readOf 1001)
      (s.stream 0).any (fun st => decide (s.readOk 0 (readOf 1001) st ∧ st.depth ≤ st.outstanding ∧
        st.state = .scrubbing ∧ st.scrub = .every ∧ st.scrubList = 0 :: [])) = true ∧
      s.frames.length < 513 ∧ (s.frames.get 0).any (fun f =>
        decide (s.pieces.length + 2 ≤ 2048 + (f.pieceRefs.filter s.waits).length)) = true) := by decide +kernel

/-- The sample state with both links down. -/
def cut : State := (playing.modService 0 fun v => { v with link := .failed }).modService 1 fun v => { v with link := .failed }

/-- R72, R81: at full depth under EVERY with both links down the held frame is kept and the read is answered FAILED. -/
theorem test_failed_scrub_read : (let s := given (changed scrubbing fun st => { st with outstanding := 2 }) 0 (readOf 1001)
     let down := (s.modService 0 fun v => { v with link := .failed }).modService 1 fun v => { v with link := .failed }
     let t := after (exec (.frameRead 0) down)
     ((t.stream 0).map fun st => (st.scrubList, st.outstanding, st.framesFailed), t.frames.length, t.pieces.length,
       (t.node 0).events.map EventRec.tag)) = (some ([0], 2, 1), 1, 2, [.frameDone .failed]) := by decide +kernel

theorem witness_AcceptedFrame : playing.frames.sorted ∧ playing.pieces.sorted ∧
    playing.stream (recStream (readOf 1001)).handle = some film ∧ film.spans ≠ [] ∧
    recExtentCount (readOf 1001) = film.spans.length ∧ (playing.node 0).state = .attached ∧
    (∀ j, ∀ q ∈ playing.queued j, playing.pieces.get q ≠ none) ∧ playing.queued 0 = [0] ∧
    (∀ j, ∀ q ∈ cut.queued j, cut.pieces.get q ≠ none) ∧
    (∃ e ∈ film.spans, (decide ((playing.span e.span).service.link = .up) &&
      film.spans.any fun x => decide (x.span = e.span) && x.reserved) = true) ∧
    (∀ e ∈ film.spans, (decide ((cut.span e.span).service.link = .up) &&
      film.spans.any fun x => decide (x.span = e.span) && x.reserved) = false) := by decide +kernel

theorem witness_ScrubFrame : scrubbing.frames.sorted ∧ scrubbing.pieces.sorted ∧
    (scrubbing.stream (recStream (readOf 1001)).handle).any (fun st => decide (st.spans = film.spans)) = true ∧
    recExtentCount (readOf 1001) = film.spans.length ∧
    (∃ e ∈ film.spans, (decide ((scrubbing.span e.span).service.link = .up) &&
      film.spans.any fun x => decide (x.span = e.span) && x.reserved) = true) := by decide +kernel

/-- Frame 1,000 with one piece left. -/
def lastPiece : Frame := { frame1000 with positions := [.piece 0, .finished .mediaError] }

theorem refersBack_of_two {s : State} {f : Frame} {a b : Nat} {x y : Piece} (hf : s.frames.get 0 = some f)
    (h1 : s.frames.sorted) (h2 : s.pieces.sorted) (hp : f.positions = [.piece a, .piece b]) (hx : s.pieces.get a = some x)
    (hx' : x.frame = 0 ∧ x.position = 0) (hy : s.pieces.get b = some y) (hy' : y.frame = 0 ∧ y.position = 1) :
    s.refersBack 0 f := by
  refine ⟨hf, h1, h2, fun k p h => ?_⟩
  rw [hp] at h
  rcases k with _ | _ | k
  · obtain rfl : a = p := by simpa using h
    exact ⟨x, hx, hx'.1, hx'.2⟩
  · obtain rfl : b = p := by simpa using h
    exact ⟨y, hy, hy'.1, hy'.2⟩
  · simp at h

theorem playing_refersBack : playing.refersBack 0 frame1000 :=
  refersBack_of_two rfl (by decide +kernel) (by decide +kernel) rfl rfl ⟨rfl, rfl⟩ rfl ⟨rfl, rfl⟩

theorem serving_refersBack : serving.refersBack 0 frame1000 :=
  refersBack_of_two rfl (by decide +kernel) (by decide +kernel) rfl rfl ⟨rfl, rfl⟩ rfl ⟨rfl, rfl⟩

theorem lastPiece_refersBack : ({ serving with frames := [(0, lastPiece)], pieces := [(0, piece 0 .inService)] } : State).refersBack
    0 lastPiece := by
  refine ⟨rfl, by decide +kernel, by decide +kernel, fun k p h => ?_⟩
  rcases k with _ | _ | k
  · obtain rfl : 0 = p := by simpa [lastPiece] using h
    exact ⟨piece 0 .inService, rfl, rfl, rfl⟩
  · simp [lastPiece] at h
  · simp [lastPiece] at h

theorem witness_PieceOutcome : (telling serving [.outcome 0 .ok]).offers
      (fun | .outcome q _ => decide (q = 0) | _ => false) (.outcome 0 .ok) [] [] ∧ calm.pieces.get 0 = none ∧
    serving.pieces.get 0 = some (piece 0 .inService) ∧ frame1000.positions[(piece 0 .inService).position]? = some (.piece 0) ∧
    ({ frame1000 with positions := frame1000.positions.set 0 (.finished .ok) } : Frame).pieceRefs ≠ [] ∧
    ({ lastPiece with positions := lastPiece.positions.set 0 (.finished .ok) } : Frame).pieceRefs = [] := by decide +kernel

/-- The late report of frame 1,000. -/
def late1000 : LateFrame := { record := 0, stream := { handle := 0, gen := 0 }, number := 1000, accepted := 10000100 }

theorem witness_OwedAndLate : (telling playing [.cancel { handle := 0, gen := 0 } 0 1]).offers
      (fun | .cancel k _ _ => decide (k.handle = 0) | _ => false) (.cancel { handle := 0, gen := 0 } 0 1) [] [] ∧
    (telling playing [.late 0 late1000]).offers (fun | .late k _ => decide (k = 0) | _ => false) (.late 0 late1000) [] [] ∧
    playing.frames.get late1000.record = some frame1000 ∧ frame1000.stream = late1000.stream ∧
    frame1000.number = late1000.number ∧ frame1000.accepted = late1000.accepted ∧
    playing.stream frame1000.stream.handle = some film ∧ film.late = .skip ∧ calm.frames.get late1000.record = none := by
  decide +kernel

/-- Frame 1,000 with its S0 piece in service and its S1 piece waiting. -/
def half : State := { playing with pieces := [(0, piece 0 .inService), (1, piece 1 .queued)] }

theorem half_refersBack : half.refersBack 0 frame1000 :=
  refersBack_of_two rfl (by decide +kernel) (by decide +kernel) rfl rfl ⟨rfl, rfl⟩ rfl ⟨rfl, rfl⟩

theorem witness_Withdrawal : (∀ p ∈ frame1000.pieceRefs, serving.waits p = false) ∧ frame1000.cancel = none ∧
    ({ frame1000 with cancel := some .skipped } : Frame).cancel ≠ none ∧
    (∃ p ∈ frame1000.pieceRefs, half.waits p = true) ∧ (∃ p ∈ frame1000.pieceRefs, half.waits p = false) ∧
    (∀ p ∈ frame1000.pieceRefs, playing.waits p = true) ∧ (playing.node frame1000.node).state = .attached ∧
    (playing.node frame1000.node).epoch = frame1000.epoch ∧ (calm.node 3).state ≠ .attached ∧
    playing.frames.sorted ∧ playing.piecesOk ∧
    (∃ q ∈ (playing.span 0).queue.deadlines, q ∈ frame1000.pieceRefs.filter playing.waits) ∧
    (∀ q ∈ (playing.span 2).queue.deadlines, q ∉ frame1000.pieceRefs.filter playing.waits) := by decide +kernel

theorem scrubbing_refersBack : scrubbing.refersBack 0 { frame1000 with kind := .scrub, deadline := none } :=
  refersBack_of_two rfl (by decide +kernel) (by decide +kernel) rfl rfl ⟨rfl, rfl⟩ rfl ⟨rfl, rfl⟩

theorem witness_Settle : (scrubbing.stream 0).map Stream.settleExpiry = some (some 10000100) ∧
    0 ≤ timeDiff scrubbing.time 10000100 ∧
    (frame1000.pieceRefs.filter fun p => decide (playing.pieceState p = some .held)) = [] ∧
    (frame1000.pieceRefs.filter fun p => decide (scrubbing.pieceState p = some .held)) = [0, 1] ∧
    (∀ j, ∀ q ∈ scrubbing.queued j, scrubbing.pieceState q ≠ some .held) := by decide +kernel

/-- With S1 down the release places the S0 piece and loses the other, and the frame goes on. -/
theorem test_release_with_one_span_down :
    (let t := (scrubbing.modService 1 fun v => { v with link := .failed }).releaseFrame 0
     (t.queued 0, t.queued 1, (t.frames.get 0).map Frame.positions)) =
      ([0], [], some [.piece 0, .finished .spanLost]) := by decide +kernel

/-- With both spans down it finishes at once, FAILED (R77). -/
theorem test_release_with_every_span_down :
    (let t := ((scrubbing.modService 1 fun v => { v with link := .failed }).modService 0 fun v =>
        { v with link := .failed }).releaseFrame 0
     (t.frames.length, t.pieces.length, (t.node 0).events.map EventRec.tag)) =
      (0, 0, [.frameDone .failed]) := by decide +kernel

/-- The sample state at the DUE crossing of its pieces, 10,090,000, with the expiry of S0's window-opening timer owed. -/
def crossing : State := { playing with time := 10090000 }

theorem witness_WindowOwed : (crossing.span 0).queue.windowTimer = some 10090000 ∧ 0 ≤ timeDiff crossing.time 10090000 ∧
    crossing.deadlineOf 0 = some 10140000 ∧ (10090000 : Time) = 10140000 - BitVec.ofNat 48 (crossing.span 0).arbiter.due ∧
    ((crossing.span 0).queue.deadlines.erase 9 = [0]) ∧ crossing.pieces.get 0 = some (piece 0 .queued) ∧
    crossing.windowRearmed 0 (some 10090000) = some 10090000 ∧ crossing.windowRearmed 0 (some 10089999) = none := by
  decide +kernel

/-- R97: a read of frame 1,001 taken before the expiry leaves it owed, and both start a selection at S0. -/
theorem test_entry_before_expiry :
    ((after (exec (.windowOpeningExpiry 0) (after (exec (.frameRead 0) (given crossing 0
      (readRecord 0 8 1001 [(0, 2160), (1, 2160)])))))).reports.filter fun r => decide (r = .select 0)) =
      [.select 0, .select 0] := by decide +kernel

/-- R97: once the only piece crossing has gone, no expiry is owed. -/
theorem test_removal_before_expiry : ((crossing.unlist 0 0).span 0).queue.windowTimer = none := by decide +kernel

/-- The deadline timer expires one µs past the deadline, the window timer at its time. -/
theorem witness_QueueTimers : (playing.deadlineArm 0, playing.windowArm 0) = (some 10140000, some 10090000) ∧
    (calm.deadlineArm 0, calm.windowArm 0) = (none, none) ∧
    (playing.span 0).queue.deadlineTimer = some 10140000 ∧ 0 < timeDiff 10140001 10140000 ∧
    (playing.span 0).queue.windowTimer = some 10090000 ∧ 0 ≤ timeDiff 10090000 10090000 := by decide +kernel

theorem witness_ArbiterReports : (telling playing [.mask 0 true, .select 0]).offers
      (fun | .select k => decide (k = 0) | _ => false) (.select 0) [.mask 0 true] [] ∧
    (telling playing [.mask 0 true, .select 0]).offers (fun | .mask k _ => decide (k = 0) | _ => false) (.mask 0 true) []
      [.select 0] ∧
    (telling playing [.queueLoss 0]).offers (fun | .queueLoss k => decide (k = 0) | _ => false) (.queueLoss 0) [] [] ∧
    playing.queued 0 ≠ [] ∧ calm.queued 0 = [] ∧
    (playing.span 0).service.link = .up ∧ (State.reset.span 0).service.link ≠ .up := by decide +kernel

/-- The sample state with a selection in progress on S0, where slot 0 is BUSY. -/
def selecting : State := (playing.modArbiter 0 fun a => { a with selections := 1 }).modService 0 fun v =>
  { v with slots := v.slots.set 0 { gen := 0, state := .busy 9 0 10000000 } }

theorem witness_Dispatch : (selecting.span 0).arbiter.selections ≠ 0 ∧ (selecting.span 0).service.link = .up ∧
    selecting.choose 0 = some (.deadline 0 0) ∧ (selecting.span 0).service.slots[(1 : SlotId)].state = .free ∧
    (∀ i < (1 : SlotId), (selecting.span 0).service.slots[i].state ≠ .free) ∧
    selecting.pieces.get 0 = some (piece 0 .queued) ∧ selecting.frames.get (piece 0 .queued).frame = some frame1000 ∧
    ((selecting.modQueue 0 fun _ => (calm.span 0).queue).choose 0) = none := by decide +kernel

/-- Two frames of one deadline on S0, of N0 and N1, and the pointer at N0: N1's turn. -/
def tied : State :=
  { playing with
    frames := [(0, frame1000), (1, { frame1000 with node := 1, positions := [.piece 2] })],
    pieces := [(0, piece 0 .queued), (1, piece 1 .queued), (2, { piece 0 .queued with frame := 1 })],
    spans := playing.spans.set 0 { playing.span 0 with
      queue := { deadlines := [0, 2], background := [], deadlineTimer := none, windowTimer := none } } }

/-- A PARK piece alone on S0. -/
def parked : State :=
  { playing with
    frames := [(0, { frame1000 with kind := .park, deadline := none })],
    spans := playing.spans.set 0 { playing.span 0 with
      queue := { deadlines := [], background := [0], deadlineTimer := none, windowTimer := none } } }

theorem witness_DispatchChoice : playing.choose 0 = some (.deadline 0 0) ∧ tied.choose 0 = some (.deadline 2 1) ∧
    parked.choose 0 = some (.background 0 0) := by decide +kernel

/-- The first piece, AHEAD, passes its gate at D = 1 with no slot occupied, and not with one; a background piece passes at
B = 0 with no slot occupied, and not with one, nor under the mask. -/
theorem witness_DispatchChoice_gates :
    (let at1 (s : State) := s.modArbiter 0 fun a => { a with depth := 1, backgroundShare := 0 }
     let busy (s : State) := s.modService 0 fun v => { v with slots := v.slots.set 3 { gen := 0, state := .zombie 0 } }
     ((at1 playing).choose 0, (at1 (busy playing)).choose 0, (at1 parked).choose 0, (at1 (busy parked)).choose 0,
       (parked.modArbiter 0 fun a => { a with masked := true }).choose 0)) =
      (some (.deadline 0 0), none, some (.background 0 0), none, none) := by decide +kernel

/-- A held piece enters its span's deadline list once its frame has a deadline, its background list while it has none; a
listed one leaves; pieces to withdraw in each place. -/
theorem witness_PiecesEnterAndLeave :
    scrubbing.pieces.get 0 = some (piece 0 .held) ∧ 0 ∉ scrubbing.queued 0 ∧ scrubbing.deadlineOf 0 = none ∧
    ({ scrubbing with frames := [(0, frame1000)] } : State).deadlineOf 0 = some 10140000 ∧
    0 ∈ (playing.span 0).queue.deadlines ∧ 0 ∉ (parked.span 0).queue.deadlines ∧
    playing.pieces.get 0 = some (piece 0 .queued) ∧ serving.pieces.get 0 = some (piece 0 .inService) := by decide +kernel

theorem witness_DeadlineList : let s := { playing with
        frames := playing.frames ++ [(1, frame1000)],
        pieces := playing.pieces ++ [(2, { piece 0 .queued with frame := 1 })] }
    let near (x : Time) := -(2 ^ 46 : Int) < timeDiff x s.time ∧ timeDiff x s.time < 2 ^ 46
    (s.span 0).queue.deadlines = [0] ∧ s.deadlineOf 2 = some 10140000 ∧ near 10140000 ∧ s.deadlineOf 0 = some 10140000 ∧
    s.newerThan 5 0 = false ∧ [0].Pairwise (fun q r => q ≠ r) := by decide +kernel

theorem witness_Completions : (serving.span 0).service.slots[(0 : SlotId)].gen = 0 ∧
    (serving.span 0).service.slots[(0 : SlotId)].state = .busy 0 10000100 11000100 ∧ (0 : Byte).toNat = (0 : SlotId).val ∧
    ((after (exec (.slotExpiry 0 0) { serving with time := 11000100 })).span 0).service.slots[(0 : SlotId)] =
      { gen := 0, state := .zombie 10000100 } ∧ 0 ≤ timeDiff 11000100 11000100 ∧
    (∀ k : SlotId, (8 : Byte).toNat ≠ k.val) ∧
    (∀ k : SlotId, (0 : Byte).toNat = k.val → (serving.span 0).service.slots[k].gen ≠ 1) := by decide +kernel

/-- The fourth attempt is the last. -/
theorem witness_LinkTrains : (State.reset.span 0).service.link = .training 1 50000 ∧ (1 : Byte).toNat = 1 ∧
    (2 : Byte).toNat ≠ 1 ∧ 0 ≤ timeDiff 50000 50000 ∧
    ((State.reset.modService 0 fun v => { v with link := .training 4 50000 }).span 0).service.link = .training 4 50000 ∧
    (calm.span 0).service.link.state ≠ .training ∧ (calm.span 0).service.link ≠ .absent ∧
    ((after (exec (.presenceDeasserted 0) calm)).span 0).service.link = .absent := by decide +kernel

/-- The LINK_RESET of a span. -/
def relink (j : Nat) : List Byte := record 20 0 0 0 0 [j]

theorem witness_LinkLeaves : (playing.span 0).service.link = .up ∧ (State.reset.span 0).service.link ≠ .up ∧
    ((after (exec (.linkLossIndication 0) playing)).span 0).service.relinkExpiry = some 10500100 ∧
    0 ≤ timeDiff 10500100 10500100 ∧ (holding (given playing 0 (relink 7)) 0).claims 0 20 (relink 7) [] ∧
    recArg (relink 7) 0 = (7 : SpanId).val ∧ 8 ≤ recArg (relink 8) 0 ∧ (State.reset.span 0).service.link.state = .training ∧
    (cut.span 0).service.link = .failed ∧
    ((after (exec (.presenceDeasserted 0) calm)).span 0).service.link = .absent := by decide +kernel

/-- The expiry of S0's hold loses the piece waiting there in the same event, and the loss of S1's queue then finishes the
frame, FAILED (R60, R66). -/
theorem test_lost_queues_finish_the_frame :
    (let held (s : State) (j : SpanId) := after (exec (.relinkHoldExpiry j) (s.modService j fun v =>
      { v with link := .failed, relinkExpiry := some 10000100 }))
     let t := held playing 0
     let u := held t 1
     (t.queued 0, (t.frames.get 0).map Frame.positions, u.frames.length, u.pieces.length,
       (u.node 0).events.map EventRec.tag)) =
      ([], some [.finished .spanLost, .piece 1], 0, 0,
        [.spanNotice .holdExpired, .frameDone .failed, .spanNotice .holdExpired]) := by decide +kernel

theorem witness_Layouts : ({ line with body := List.replicate 61 (some 1) } : EventRec).body.length ≤ 61 ∧
    65535 < 65536 ∧ (7 : Byte) ≠ 2 ∧ (7 : Byte) ≠ 4 ∧ ([0, 0] : List Byte).length < 3 ∧
    (List.replicate 10 (0 : Byte)).length = 10 ∧ ([1] : List (BitVec 64))[0]? = some 1 ∧
    (List.replicate 16 (1 : BitVec 64)).length = 16 ∧ (List.replicate 32 (0 : Byte)).length = 32 ∧
    (255 < 256 ∧ 65535 < 65536 ∧ (List.replicate 7 (0 : Byte)).length = 7) := by decide +kernel

/-- R178: the fields of a command record written byte by byte, the argument −8 in its second slot. -/
theorem test_command_record : (let b : List Byte := [0x06, 0x00, 0x02, 0x01, 0x34, 0x12, 0, 0, 0, 0, 0, 0, 0, 0, 0, 0,
        0x0D, 0x0C, 0x0B, 0x0A, 0, 0, 0, 0, 0xF8, 0xFF, 0xFF, 0xFF, 0xFF, 0xFF, 0xFF, 0xFF]
      (recCode b, recExtentCount b, recHandover b, recStream b, recArg b 0, recArgSigned b 1)) =
    (6, 2, true, { handle := 0x34, gen := 0x12 }, 0x0A0B0C0D, -8) := by decide +kernel

theorem witness_WindowCounts : (telling calm [.tripClass 0, .latency 0 60001]).offers
      (fun | .latency k _ => decide (k = 0) | _ => false) (.latency 0 60001) [.tripClass 0] [] ∧
    (telling calm [.tripClass 0]).offers (fun | .tripClass k => decide (k = 0) | _ => false) (.tripClass 0) [] [] := by
  decide +kernel

theorem witness_WindowExpiry : (calm.span 0).monitor.expiry = 100000 ∧ 0 ≤ timeDiff 100000 (calm.span 0).monitor.expiry := by
  decide +kernel

theorem witness_TripCleared : (holding (given calm 0 (record 18 0 0 0 0 [7])) 0).claims 0 18 (record 18 0 0 0 0 [7]) [] ∧
    recArg (record 18 0 0 0 0 [7]) 0 = (7 : SpanId).val ∧ 8 ≤ recArg (record 18 0 0 0 0 [8]) 0 ∧
    (given calm 0 (record 19 0 0 0 0 [7])).issues 0 19 (record 19 0 0 0 0 [7]) [] ∧
    (calm.span 7).monitor.tripped = false ∧ (calm.span 7).monitor.previous.trip = 0 ∧
    (let t := calm.modMonitor 7 fun m => { m with tripped := true, previous := { m.previous with trip := 1 } };
      (t.span 7).monitor.tripped = true ∧ 0 < (t.span 7).monitor.previous.trip) := by decide +kernel

theorem witness_MonitorTakes : (telling calm [.configuredCeiling 0 900000 500000]).offers (toMonitor 0)
      (.configuredCeiling 0 900000 500000) [] [] ∧
    (telling calm [.param (.monitor 0) (some 0) [(6, 850000)]]).offers (toMonitor 0)
      (.param (.monitor 0) (some 0) [(6, 850000)]) [] [] ∧
    (telling calm [.monitorAbsent 0]).offers (fun | .monitorAbsent k => decide (k = 0) | _ => false) (.monitorAbsent 0) [] [] := by
  decide +kernel

theorem witness_QuerySpan : (given playing 0 (record 12 0 0 0 0 [7])).issues 0 12 (record 12 0 0 0 0 [7]) [] ∧
    recArg (record 12 0 0 0 0 [7]) 0 = (7 : SpanId).val ∧ 8 ≤ recArg (record 12 0 0 0 0 [8]) 0 := by decide +kernel

/-- R189: the expiry of the BUSY slot ends the answer, in slot 58 of the 61; with none BUSY it is absent. -/
theorem test_query_span_expiry : ([serving, playing].map fun s => ((after (exec (.querySpan 0) (given s 0
    (record 12 0 0 0 0 [0])))).node 0).events.map (fun e => (e.body.length, e.body.getLast?))) =
      [[(58, some (some 11000100))], [(58, some none)]] := by decide +kernel

theorem witness_ConfigClaim : (given calm 0 (record 14 0 0 0 0 [])).heads 0 14 (record 14 0 0 0 0 []) [] ∧
    (given calm 0 (record 17 0 0 0 0 [])).heads 0 17 (record 17 0 0 0 0 []) [] ∧
    (given calm 3 (record 14 0 0 0 0 [])).heads 3 14 (record 14 0 0 0 0 []) [] ∧
    (given calm 3 (record 17 0 0 0 0 [])).heads 3 17 (record 17 0 0 0 0 []) [] ∧
    (calm.node 3).state ≠ .attached ∧ (calm.node 0).state = .attached ∧ calm.config.holder = none ∧
    (holding calm 0).config.holder = some 0 ∧ (holding calm 1).config.holder = some 1 ∧ (1 : NodeId) ≠ 0 := by decide +kernel

/-- A CONFIG_SET. -/
def setRecord (scope span number value : Nat) : List Byte := record 15 0 0 0 0 [scope, span, number, value]

theorem witness_ConfigSet : (holding (given calm 0 (setRecord 1 7 15 2001)) 0).claims 0 15 (setRecord 1 7 15 2001) [] ∧
    recArg (setRecord 1 7 15 2001) 0 = 1 ∧ recArg (setRecord 1 7 15 2001) 1 = (7 : SpanId).val ∧
    recArg (setRecord 1 7 15 2001) 2 ≤ 15 ∧ 1 < recArg (setRecord 2 0 1 0) 0 ∧ ¬ recArg (setRecord 1 8 1 0) 1 < 8 ∧
    ¬ (1 ≤ recArg (setRecord 0 0 9 0) 2 ∧ recArg (setRecord 0 0 9 0) 2 ≤ 8) ∧
    (holding (given calm 0 (setRecord 0 0 8 60001)) 0).claims 0 15 (setRecord 0 0 8 60001) [] ∧
    (given calm 0 (record 16 0 0 0 0 [0, 0, 1])).issues 0 16 (record 16 0 0 0 0 [0, 0, 1]) [] ∧
    PartParams.default.ok ∧ SpanParams.default.ok := by decide +kernel

/-- A report to a block, in flight alone, that changes parameter `k`. -/
def reported (b : ParamBlock) (scope : Option SpanId) (k : Nat) : Prop :=
  ([(k, 9)].map Prod.fst).Nodup ∧ (telling calm [.param b scope [(k, 9)]]).offers (toBlock b) (.param b scope [(k, 9)]) [] []

theorem witness_ParameterReport : reported .admission none 5 ∧ reported .admission (some 7) 2 ∧
    reported .deadlineUnit none 4 ∧ reported (.nodePort 3) none 7 ∧ reported (.arbiter 7) none 3 ∧
    reported (.arbiter 7) (some 7) 4 ∧ reported (.monitor 7) (some 7) 13 ∧ reported (.service 7) (some 7) 15 ∧
    [(13, 9)].lookup 6 = none := by
  unfold reported
  decide +kernel

/-- Every invariant holds of the sample states (above), and a step goes on from each. -/
theorem witness_StepKeeps : step playing = .next (after (step playing)) ∧ playing.epochsFresh ∧ playing.piecesOk ∧ playing.depthOk :=
  ⟨rfl, by decide +kernel, by decide +kernel, by decide +kernel⟩

end Sys2Proof.Tests
end

section
/-! PROOFS. What an idle part does, and that every row goes on from every state with the queue of waiting commands, the
time base and the epochs as they were, but for POWER_ON_RESET and an accepted ATTACH. -/

namespace Sys2Proof.Machine

open Host (Outcome)

/-- Settles O2: the two cases of `step` on an empty queue. -/
theorem idlePartTakesWhatHasArisenOrATick : Obligations.IdlePartTakesWhatHasArisenOrATick := by
  intro s hp
  constructor
  · intro c rest ha
    simp only [step, hp, ha]
  · intro ha
    simp only [step, hp, ha, State.tick]

/-! ## Steady changes -/

/-- From `s` to `t` the queue of waiting commands, the time base and every node port's epoch stand. -/
def Steady (s t : State) : Prop :=
  t.pending = s.pending ∧ t.time = s.time ∧ ∀ n : NodeId, (t.node n).epoch = (s.node n).epoch

/-- An outcome that goes on to a next state, by a steady change. -/
def GoesOnSteady (s : State) (o : Outcome State Fault Refusal) : Prop := ∃ t, o = .next t ∧ Steady s t

theorem Steady.refl (s : State) : Steady s s := ⟨rfl, rfl, fun _ => rfl⟩

theorem Steady.trans {s t u : State} (h : Steady s t) (h' : Steady t u) : Steady s u := by
  obtain ⟨hp, ht, he⟩ := h
  obtain ⟨hp', ht', he'⟩ := h'
  exact ⟨hp'.trans hp, ht'.trans ht, fun n => (he' n).trans (he n)⟩

theorem steady_foldl {α : Type} {f : State → α → State} (h : ∀ s a, Steady s (f s a)) (l : List α) (s : State) :
    Steady s (l.foldl f s) := by
  induction l generalizing s with
  | nil => exact Steady.refl s
  | cons a r ih => exact (h s a).trans (ih _)

theorem steady_ite {s t u : State} {c : Prop} [Decidable c] (ht : Steady s t) (hu : Steady s u) :
    Steady s (if c then t else u) := by split <;> assumption

theorem GoesOnSteady.of_steady {s t : State} (h : Steady s t) : GoesOnSteady s (.next t) := ⟨t, rfl, h⟩

theorem GoesOnSteady.stay (s : State) : GoesOnSteady s (.next s) := .of_steady (Steady.refl s)

/-! ## Steady operations -/

theorem steady_modNode {s : State} {n : NodeId} {f : Node → Node} (h : (f (s.node n)).epoch = (s.node n).epoch) :
    Steady s (s.modNode n f) := by
  refine ⟨rfl, rfl, fun m => ?_⟩
  rw [State.node_modNode]
  split
  · rename_i e; rw [h, e]
  · rfl

/-- A change of anything but the queue of waiting commands, the time base and the node ports is steady. -/
theorem steady_of_nodes {s t : State} (hp : t.pending = s.pending) (ht : t.time = s.time) (hn : t.nodes = s.nodes) :
    Steady s t := ⟨hp, ht, fun n => by simp [State.node, hn]⟩

theorem steady_modQueue (s : State) (j : SpanId) (f : SpanQueue → SpanQueue) : Steady s (s.modQueue j f) :=
  steady_of_nodes rfl rfl rfl

theorem steady_modArbiter (s : State) (j : SpanId) (f : Arbiter → Arbiter) : Steady s (s.modArbiter j f) :=
  steady_of_nodes rfl rfl rfl

theorem steady_modService (s : State) (j : SpanId) (f : SpanService → SpanService) : Steady s (s.modService j f) :=
  steady_of_nodes rfl rfl rfl

theorem steady_modMonitor (s : State) (j : SpanId) (f : Monitor → Monitor) : Steady s (s.modMonitor j f) :=
  steady_of_nodes rfl rfl rfl

theorem steady_modBudget (s : State) (j : SpanId) (f : Budget → Budget) : Steady s (s.modBudget j f) :=
  steady_of_nodes rfl rfl rfl

theorem steady_modConfig (s : State) (f : ConfigBlock → ConfigBlock) : Steady s (s.modConfig f) :=
  steady_of_nodes rfl rfl rfl

theorem steady_modStream (s : State) (h : Handle) (f : Stream → Stream) : Steady s (s.modStream h f) :=
  steady_of_nodes rfl rfl rfl

theorem steady_post (s : State) (r : Report) : Steady s (s.post r) := steady_of_nodes rfl rfl rfl

theorem steady_postAll (s : State) (rs : List Report) : Steady s (s.postAll rs) := steady_of_nodes rfl rfl rfl

theorem steady_result (s : State) (n : NodeId) (c : Nat) (st : ResultStatus) (b : List Field) :
    Steady s (s.result n c st b) := steady_modNode (by simp)

theorem steady_frameDone (s : State) (n : NodeId) (st : FrameStatus) (b : List Field) :
    Steady s (s.frameDone n st b) := steady_modNode (by simp)

theorem steady_notifyAll (s : State) (tag : EventTag) (b : List Field) : Steady s (s.notifyAll tag b) :=
  ⟨by simp, by simp, by simp⟩

theorem steady_beginSelection (s : State) (j : SpanId) : Steady s (s.beginSelection j) :=
  steady_of_nodes (by simp) (by simp) (by simp)

theorem steady_recomputeOvercommit (s : State) (j : SpanId) : Steady s (s.recomputeOvercommit j) :=
  ⟨by simp, by simp, by simp⟩

theorem steady_updateDegraded (s : State) (j : SpanId) : Steady s (s.updateDegraded j) :=
  steady_of_nodes (by simp) (by simp) (by simp)

theorem steady_rearmWindow (s : State) (j : SpanId) : Steady s (s.rearmWindow j) :=
  steady_of_nodes (by simp) (by simp) (by simp)

theorem steady_rearmDeadline (s : State) (j : SpanId) : Steady s (s.rearmDeadline j) :=
  steady_of_nodes (by simp) (by simp) (by simp)

theorem steady_unlist (s : State) (j : SpanId) (p : Nat) : Steady s (s.unlist j p) :=
  steady_of_nodes (by simp) (by simp) (by simp)

theorem steady_leaveScrubList (s : State) (h : Handle) (i : Nat) : Steady s (s.leaveScrubList h i) :=
  steady_of_nodes (by simp) (by simp) (by simp)

theorem steady_finishIfDone (s : State) (i : Nat) : Steady s (s.finishIfDone i) := ⟨by simp, by simp, by simp⟩

theorem steady_takeOutcome (s : State) (p : Nat) (o : PieceOutcome) : Steady s (s.takeOutcome p o) :=
  ⟨by simp, by simp, by simp⟩

theorem steady_loseQueue (s : State) (j : SpanId) : Steady s (s.loseQueue j) := ⟨by simp, by simp, by simp⟩

theorem steady_withdrawFrame (r : CancelReason) (s : State) (i : Nat) : Steady s (State.withdrawFrame r s i) :=
  ⟨by simp, by simp, by simp⟩

theorem steady_cancelStream (s : State) (i : StreamId) : Steady s (s.cancelStream i) := ⟨by simp, by simp, by simp⟩

theorem steady_placePiece (hold : Bool) (h : Handle) (s : State) (p : Nat) : Steady s (State.placePiece hold h s p) :=
  ⟨by simp, by simp, by simp⟩

theorem steady_releaseFrame (s : State) (i : Nat) : Steady s (s.releaseFrame i) := ⟨by simp, by simp, by simp⟩

/-! ## Rows that take a report or a command -/

theorem withReport_steady {s : State} {channel : Report → Bool} {act : Report → State → Option State}
    (h : ∀ r u t, act r u = some t → Steady u t) : GoesOnSteady s (withReport s channel act) := by
  unfold withReport
  split
  · exact .stay s
  · split
    · exact .stay s
    · rename_i hu
      have taken := h _ _ _ hu
      exact ⟨_, rfl, taken⟩

/-- The same for an event whose action always goes on. -/
theorem withReport_some_steady {s : State} {channel : Report → Bool} {f : Report → State → State}
    (h : ∀ r u, Steady u (f r u)) : GoesOnSteady s (withReport s channel fun r u => some (f r u)) :=
  withReport_steady fun r u t e => by cases e; exact h r u

theorem withCommand_steady {s : State} {n : NodeId} {code : Nat} {act : List Byte → State → State}
    (h : ∀ rec u, Steady u (act rec u)) : GoesOnSteady s (withCommand n code s act) := by
  unfold withCommand
  split
  · exact .stay s
  · split
    · exact .of_steady ((steady_modNode rfl).trans (h _ _))
    · exact .stay s

theorem withAttached_steady {s : State} {n : NodeId} {code : Nat} {act : List Byte → State → State}
    (h : ∀ rec u, Steady u (act rec u)) : GoesOnSteady s (withAttached n code s act) :=
  withCommand_steady fun rec u => steady_ite (h rec u) (steady_result ..)

theorem withClaim_steady {s : State} {n : NodeId} {code : Nat} {act : List Byte → State → State}
    (h : ∀ rec u, Steady u (act rec u)) : GoesOnSteady s (withClaim n code s act) :=
  withAttached_steady fun rec u => steady_ite (h rec u) (steady_result ..)

theorem withOwned_steady {s : State} {n : NodeId} {code : Nat} {i : StreamId} {act : Stream → State → State}
    (h : ∀ st, Steady s (act st s)) : Steady s (s.withOwned n code i act) := by
  unfold State.withOwned
  split
  · exact steady_result ..
  · exact steady_ite (h _) (steady_result ..)

/-! ## Operations of the blocks -/

theorem steady_commit (s : State) (e : SpanEntry) : Steady s (s.commit e) :=
  (steady_modBudget ..).trans (steady_recomputeOvercommit ..)

theorem steady_uncommit (s : State) (e : SpanEntry) : Steady s (s.uncommit e) :=
  steady_ite ((steady_modBudget ..).trans (steady_recomputeOvercommit ..)) (Steady.refl s)

theorem steady_freeStream (s : State) (h : Handle) : Steady s (s.freeStream h) := by
  unfold State.freeStream
  split
  · exact Steady.refl s
  · exact (steady_foldl steady_uncommit _ s).trans (steady_of_nodes rfl rfl rfl)

theorem steady_tryOpen (s : State) (n : NodeId) (a : OpenArgs) : Steady s (s.tryOpen n a) := by
  unfold State.tryOpen
  split
  · exact steady_result ..
  · dsimp only
    split
    · exact steady_result ..
    · exact steady_ite (((steady_foldl steady_commit _ s).trans (steady_of_nodes rfl rfl rfl)).trans (steady_result ..))
        (steady_result ..)

theorem steady_releaseAbsent (s : State) (j : SpanId) : Steady s (s.releaseAbsent j) := by
  unfold State.releaseAbsent
  extract_lets freed given released
  have hr : Steady s released := steady_of_nodes rfl rfl rfl
  exact hr.trans ((steady_updateDegraded ..).trans (steady_recomputeOvercommit ..))

theorem steady_noticeOrphaned (former : NodeId) (s : State) (h : Handle) : Steady s (State.noticeOrphaned former s h) := by
  unfold State.noticeOrphaned
  split
  · exact Steady.refl s
  · exact steady_notifyAll ..

theorem steady_orphanExpires (s : State) (h : Handle) : Steady s (s.orphanExpires h) := by
  unfold State.orphanExpires
  split
  · exact Steady.refl s
  · have hn : ∀ f tag b, Steady s ((s.modStream h f).notifyAll tag b) :=
      fun _ _ _ => (steady_modStream ..).trans (steady_notifyAll ..)
    exact steady_ite ((hn _ _ _).trans (steady_freeStream ..)) (hn _ _ _)

theorem steady_zeroGrace (s : State) (hs : List Handle) : Steady s (s.zeroGrace hs) :=
  steady_ite (steady_foldl steady_orphanExpires hs s) (Steady.refl s)

theorem steady_stopStream (s : State) (n : NodeId) (code : Nat) (i : StreamId) (st : Stream) (z : Bool) :
    Steady s (s.stopStream n code i st z) :=
  steady_ite (((steady_modStream ..).trans (steady_result ..)).trans (steady_cancelStream ..)) (steady_result ..)

theorem steady_enterHold (s : State) (h : Handle) (st : Stream) (i : Nat) : Steady s (s.enterHold h st i) := by
  unfold State.enterHold
  extract_lets older listed entered
  have hl : Steady s listed := steady_modStream ..
  have he : Steady s entered := steady_ite (hl.trans (steady_foldl (steady_withdrawFrame _) _ _)) hl
  exact steady_ite (he.trans (steady_releaseFrame ..)) (he.trans (steady_modStream ..))

theorem steady_acceptRead (s : State) (n : NodeId) (rec : List Byte) (st : Stream) (kind : FrameKind)
    (d : Option Time) : Steady s (s.acceptRead n rec st kind d) := by
  unfold State.acceptRead
  extract_lets h i ps f filled counted placed
  have hc : Steady s counted := steady_of_nodes rfl rfl rfl
  have hp : Steady s placed := hc.trans (steady_foldl (steady_placePiece _ _) ps _)
  exact steady_ite (hp.trans (steady_enterHold ..)) (hp.trans (steady_finishIfDone ..))

theorem steady_readFrame (s : State) (n : NodeId) (rec : List Byte) : Steady s (s.readFrame n rec) := by
  unfold State.readFrame
  split
  · exact steady_frameDone ..
  · dsimp only
    split
    · exact steady_ite ((steady_modStream ..).trans (steady_frameDone ..)) (steady_acceptRead ..)
    · split
      · exact steady_acceptRead ..
      · exact steady_ite ((steady_withdrawFrame ..).trans (steady_acceptRead ..))
          ((steady_modStream ..).trans (steady_frameDone ..))

theorem steady_takeLate (s : State) (l : LateFrame) : Steady s (s.takeLate l) := by
  unfold State.takeLate
  split
  · exact Steady.refl s
  · refine steady_ite ?_ (Steady.refl s)
    split
    · exact Steady.refl s
    · exact steady_ite (steady_withdrawFrame ..) (Steady.refl s)

theorem steady_putInService (s : State) (j : SpanId) (k : SlotId) (p : Nat) (pc : Piece) :
    Steady s (s.putInService j k p pc) := by
  have served : ∀ f g, Steady s ((s.modPiece p f).modService j g) := fun _ _ => steady_of_nodes rfl rfl rfl
  unfold State.putInService
  dsimp only
  split
  · exact served _ _
  · exact (served _ _).trans (steady_leaveScrubList ..)

theorem steady_dispatchOne {s t : State} {j : SpanId} {c : Choice} (h : s.dispatchOne j c = some t) : Steady s t := by
  unfold State.dispatchOne at h
  split at h
  · cases h
    exact (steady_unlist ..).trans ((steady_modArbiter ..).trans (steady_putInService ..))
  · cases h

theorem steady_spanNotice (s : State) (j : SpanId) (k : SpanNotice) (more : List Field) :
    Steady s (s.spanNotice j k more) := steady_notifyAll ..

theorem steady_reportLink (s : State) (j : SpanId) : Steady s (s.reportLink j) := steady_post ..

theorem steady_holdExpires (s : State) (j : SpanId) : Steady s (s.holdExpires j) :=
  ((steady_modService ..).trans (steady_loseQueue ..)).trans (steady_spanNotice ..)

theorem steady_leaveUp (s : State) (j : SpanId) (cause : LinkDownCause) : Steady s (s.leaveUp j cause) := by
  unfold State.leaveUp
  extract_lets v lost expiry posted served stopped told
  have ht : Steady s told :=
    Steady.trans (steady_of_nodes rfl rfl rfl : Steady s (stopped.reportLink j)) (steady_spanNotice ..)
  exact steady_ite (ht.trans (steady_holdExpires ..)) ht

theorem steady_becomeAbsent (s : State) (j : SpanId) : Steady s (s.becomeAbsent j) := by
  unfold State.becomeAbsent
  extract_lets lost q posted served stopped told
  have ht : Steady s told := steady_of_nodes rfl rfl rfl
  exact ht.trans (steady_spanNotice ..)

theorem steady_resetLink (s : State) (j : SpanId) : Steady s (s.resetLink j) := by
  unfold State.resetLink
  split
  · exact steady_leaveUp ..
  · exact steady_modService ..
  · exact (steady_modService ..).trans (steady_reportLink ..)
  · exact Steady.refl s

theorem steady_handOn (s : State) (j : SpanId) (before : Monitor) : Steady s (s.handOn j before) := by
  unfold State.handOn
  dsimp only
  split <;> split <;> exact steady_of_nodes rfl rfl rfl

theorem steady_healthNotice (s : State) (j : SpanId) (k : SpanNotice) (more : List Field) :
    Steady s (s.healthNotice j k more) := steady_notifyAll ..

theorem steady_restored (s : State) (j : SpanId) : Steady s (s.restored j) := steady_healthNotice ..

theorem steady_judgeWindow (s : State) (j : SpanId) : Steady s (s.judgeWindow j) := by
  unfold State.judgeWindow
  extract_lets before judged turned handed derated restored
  have hh : Steady s handed := (steady_modMonitor ..).trans (steady_handOn ..)
  have hd : Steady s derated := steady_ite (hh.trans (steady_healthNotice ..)) hh
  have hr : Steady s restored := steady_ite (hd.trans (steady_restored ..)) hd
  exact steady_ite (hr.trans (steady_healthNotice ..)) hr

theorem steady_configureCeiling (s : State) (j : SpanId) (c f : Nat) : Steady s (s.configureCeiling j c f) := by
  have done : ∀ g r b, Steady s (((s.modMonitor j g).post r).handOn j b) :=
    fun _ _ _ => Steady.trans (steady_of_nodes rfl rfl rfl) (steady_handOn ..)
  exact steady_ite ((done _ _ _).trans (steady_restored ..)) (done _ _ _)

theorem steady_configureFloor (s : State) (j : SpanId) (f : Nat) : Steady s (s.configureFloor j f) := by
  have done : ∀ g b, Steady s ((s.modMonitor j g).handOn j b) :=
    fun _ _ => (steady_modMonitor ..).trans (steady_handOn ..)
  exact steady_ite ((done _ _).trans (steady_restored ..)) (done _ _)

theorem steady_monitorAbsent (s : State) (j : SpanId) (g : Monitor → Monitor) (b : Monitor) {c : Prop} [Decidable c] :
    Steady s (if c then ((s.modMonitor j g).handOn j b).restored j else (s.modMonitor j g).handOn j b) :=
  have done := (steady_modMonitor s j g).trans (steady_handOn _ j b)
  steady_ite (done.trans (steady_restored ..)) done

theorem steady_setPart (s : State) (n : NodeId) (span k v : Nat) : Steady s (s.setPart n span k v) :=
  ((steady_modConfig ..).trans (steady_result ..)).trans (steady_postAll ..)

theorem steady_setSpan (s : State) (n : NodeId) (j : SpanId) (k v : Nat) : Steady s (s.setSpan n j k v) :=
  ((steady_modConfig ..).trans (steady_result ..)).trans (steady_postAll ..)

theorem steady_admissionTakesPart (s : State) (x : Nat × Nat) : Steady s (s.admissionTakesPart x) := by
  unfold State.admissionTakesPart
  split <;> exact steady_of_nodes rfl rfl rfl

theorem Node.takes_epoch (nd : Node) (x : Nat × Nat) : (nd.takes x).epoch = nd.epoch := by
  unfold Node.takes
  split <;> rfl

theorem steady_monitorTakes (j : SpanId) (s : State) (x : Nat × Nat) : Steady s (State.monitorTakes j s x) :=
  steady_ite (steady_configureFloor ..) (steady_modMonitor ..)

theorem steady_takeParams (s : State) (b : ParamBlock) (scope : Option SpanId) (vs : List (Nat × Nat)) :
    Steady s (s.takeParams b scope vs) := by
  unfold State.takeParams
  split
  · exact steady_foldl steady_admissionTakesPart vs s
  · exact steady_modBudget ..
  · exact steady_of_nodes rfl rfl rfl
  · exact steady_modNode (foldl_keeps Node.epoch _ Node.takes_epoch vs _)
  · exact (steady_modArbiter ..).trans ((steady_rearmWindow ..).trans (steady_beginSelection ..))
  · exact (steady_modArbiter ..).trans (steady_beginSelection ..)
  · exact steady_foldl (steady_monitorTakes _) vs s
  · exact steady_modService ..

theorem steady_warmReset (s : State) (k : ResetKind) : Steady s (s.warmReset k) := by
  refine ⟨rfl, rfl, fun n => ?_⟩
  change (bank4 fun n => (s.node n).warm s.config.part)[n].epoch = _
  rw [bank4_get]
  rfl

theorem steady_releaseClaim (s : State) (n : NodeId) : Steady s (s.releaseClaim n) :=
  steady_ite (steady_modConfig ..) (Steady.refl s)

theorem steady_noticeClaim (s : State) (n : NodeId) (released : Bool) : Steady s (s.noticeClaim n released) :=
  steady_ite (steady_notifyAll ..) (Steady.refl s)

/-- The part of a node's leaving up to the notices of its streams. -/
theorem steady_leaves (s : State) (n : NodeId) {f : Node → Node} (hf : (f (s.node n)).epoch = (s.node n).epoch)
    (g : Stream → Stream) : Steady s (((s.modNode n f).leaveStreams n g).releaseClaim n) :=
  ((steady_modNode hf).trans (steady_of_nodes rfl rfl rfl)).trans (steady_releaseClaim ..)

theorem steady_loseNode (s : State) (n : NodeId) (cause : LossCause) : Steady s (s.loseNode n cause) :=
  ((((steady_leaves s n rfl _).trans (steady_notifyAll ..)).trans (steady_noticeClaim ..)).trans
    (steady_foldl (steady_noticeOrphaned n) _ _)).trans ((steady_postAll ..).trans (steady_zeroGrace ..))

theorem steady_detach (s : State) (n : NodeId) (handover : Bool) : Steady s (s.detach n handover) := by
  unfold State.detach
  extract_lets hs held reads orphaned closed gone left told claim noticed answered owed
  have hl : Steady s left := steady_leaves s n (f := fun nd => nd.detached reads) rfl _
  have hc : Steady s claim := (hl.trans (steady_notifyAll ..)).trans (steady_noticeClaim ..)
  have hn : Steady s noticed := steady_ite (hc.trans (steady_foldl (steady_noticeOrphaned n) _ _)) hc
  have ho : Steady s owed := (hn.trans (steady_result ..)).trans (steady_postAll ..)
  exact steady_ite (ho.trans (steady_zeroGrace ..)) ho

theorem Node.commandWrite_epoch (nd : Node) (bytes : List Byte) : (nd.commandWrite bytes).epoch = nd.epoch := by
  unfold Node.commandWrite
  split <;> rfl

theorem Node.announce_epoch (nd : Node) (now : Time) : (nd.announce now).epoch = nd.epoch := by
  unfold Node.announce
  split
  · rfl
  · split
    · simp
    · rfl

theorem Node.eventRead_epoch (nd : Node) (now : Time) (len : Nat) : (nd.eventRead now len).epoch = nd.epoch := by
  unfold Node.eventRead
  split
  · rfl
  · exact Node.announce_epoch ..

/-! ## The rows -/

theorem stay_or {s t : State} {c : Prop} [Decidable c] (h : Steady s t) :
    GoesOnSteady s (if c then .next t else .next s) := by
  split
  · exact .of_steady h
  · exact .stay s

theorem unknownCommand_steady (n : NodeId) (s : State) : GoesOnSteady s (execUnknownCommand n s) := by
  unfold execUnknownCommand
  split
  · exact .stay s
  · exact stay_or ((steady_modNode rfl).trans (steady_result ..))

theorem clearNodeFlags_steady (n : NodeId) (s : State) : GoesOnSteady s (execClearNodeFlags n s) :=
  withAttached_steady fun _ _ => (steady_modNode (f := Node.clearFlags) rfl).trans (steady_result ..)

theorem queryPart_steady (n : NodeId) (s : State) : GoesOnSteady s (execQueryPart n s) :=
  withCommand_steady fun _ _ => steady_result ..

theorem openStream_steady (n : NodeId) (s : State) : GoesOnSteady s (execOpenStream n s) :=
  withAttached_steady fun _ _ => steady_tryOpen ..

theorem frameRead_steady (n : NodeId) (s : State) : GoesOnSteady s (execFrameRead n s) :=
  withCommand_steady fun _ _ => steady_readFrame ..

theorem stop_steady (n : NodeId) (s : State) : GoesOnSteady s (execStop n s) :=
  withAttached_steady fun _ _ => withOwned_steady fun _ => steady_stopStream ..

theorem configEnd_steady (n : NodeId) (s : State) : GoesOnSteady s (execConfigEnd n s) :=
  withClaim_steady fun _ _ => (steady_modConfig ..).trans (steady_result ..)

theorem partReset_steady (n : NodeId) (s : State) : GoesOnSteady s (execPartReset n s) :=
  withClaim_steady fun _ _ => steady_warmReset ..

theorem detach_steady (n : NodeId) (s : State) : GoesOnSteady s (execDetach n s) :=
  withAttached_steady fun _ _ => steady_detach ..

theorem heartbeat_steady (n : NodeId) (s : State) : GoesOnSteady s (execHeartbeat n s) := by
  refine withAttached_steady fun _ u => ?_
  split
  · exact steady_result ..
  · exact steady_ite ((steady_modNode rfl).trans (steady_result ..)) ((steady_modNode rfl).trans (steady_result ..))

theorem closeStream_steady (n : NodeId) (s : State) : GoesOnSteady s (execCloseStream n s) :=
  withAttached_steady fun _ _ => withOwned_steady fun _ =>
    steady_ite (steady_result ..) (((steady_modStream ..).trans (steady_result ..)).trans (steady_cancelStream ..))

theorem adopt_steady (n : NodeId) (s : State) : GoesOnSteady s (execAdopt n s) := by
  refine withAttached_steady fun rec u => ?_
  dsimp only
  split
  · exact steady_result ..
  · exact steady_ite (((steady_modStream ..).trans (steady_result ..)).trans (steady_notifyAll ..)) (steady_result ..)

theorem queryStream_steady (n : NodeId) (s : State) : GoesOnSteady s (execQueryStream n s) := by
  refine withAttached_steady fun rec u => ?_
  split <;> exact steady_result ..

theorem play_steady (n : NodeId) (s : State) : GoesOnSteady s (execPlay n s) :=
  withAttached_steady fun _ _ => withOwned_steady fun _ =>
    steady_ite (steady_stopStream ..) (steady_ite (steady_result ..) (steady_ite (steady_result ..)
      (((steady_modStream ..).trans (steady_result ..)).trans (steady_cancelStream ..))))

theorem scrub_steady (n : NodeId) (s : State) : GoesOnSteady s (execScrub n s) :=
  withAttached_steady fun _ _ => withOwned_steady fun _ =>
    steady_ite (((steady_modStream ..).trans (steady_result ..)).trans (steady_cancelStream ..)) (steady_result ..)

theorem querySpan_steady (n : NodeId) (s : State) : GoesOnSteady s (execQuerySpan n s) := by
  refine withAttached_steady fun rec u => ?_
  split <;> exact steady_result ..

theorem clearTrip_steady (n : NodeId) (s : State) : GoesOnSteady s (execClearTrip n s) := by
  refine withClaim_steady fun rec u => ?_
  dsimp only
  split
  · exact steady_result ..
  · exact steady_ite (steady_result ..) (steady_ite (steady_result ..)
      (((steady_modMonitor ..).trans (steady_handOn ..)).trans ((steady_result ..).trans (steady_healthNotice ..))))

theorem ackSpanStatus_steady (n : NodeId) (s : State) : GoesOnSteady s (execAckSpanStatus n s) := by
  refine withAttached_steady fun rec u => ?_
  dsimp only
  split
  · exact steady_result ..
  · exact (steady_modMonitor ..).trans (steady_result ..)

theorem linkReset_steady (n : NodeId) (s : State) : GoesOnSteady s (execLinkReset n s) := by
  refine withClaim_steady fun rec u => ?_
  dsimp only
  split
  · exact steady_result ..
  · exact steady_ite (steady_result ..) ((steady_result ..).trans (steady_resetLink ..))

theorem configBegin_steady (n : NodeId) (s : State) : GoesOnSteady s (execConfigBegin n s) := by
  refine withAttached_steady fun rec u => ?_
  split
  · exact (steady_modConfig ..).trans (steady_result ..)
  · exact steady_ite (steady_result ..) (steady_result ..)

theorem configSet_steady (n : NodeId) (s : State) : GoesOnSteady s (execConfigSet n s) := by
  refine withClaim_steady fun rec u => ?_
  split
  · exact steady_result ..
  · exact steady_setPart ..
  · exact steady_setSpan ..

theorem configGet_steady (n : NodeId) (s : State) : GoesOnSteady s (execConfigGet n s) := by
  refine withAttached_steady fun rec u => ?_
  dsimp only
  split <;> exact steady_result ..

theorem heartbeatTimerExpiry_steady (n : NodeId) (s : State) : GoesOnSteady s (execHeartbeatTimerExpiry n s) := by
  unfold execHeartbeatTimerExpiry
  split
  · exact .stay s
  · exact stay_or (steady_loseNode ..)

theorem pcieLinkDown_steady (n : NodeId) (s : State) : GoesOnSteady s (execPcieLinkDown n s) := by
  have down : Steady s (s.modNode n fun nd => { nd with linkUp := false }) := steady_modNode rfl
  unfold execPcieLinkDown
  dsimp only
  split
  · exact .of_steady (down.trans (steady_loseNode ..))
  · exact .of_steady down

theorem pcieLinkUp_steady (n : NodeId) (s : State) : GoesOnSteady s (execPcieLinkUp n s) := by
  unfold execPcieLinkUp
  split
  · exact .stay s
  · exact .of_steady (steady_modNode rfl)

theorem orphanTimerExpiry_steady (h : Handle) (s : State) : GoesOnSteady s (execOrphanTimerExpiry h s) := by
  unfold execOrphanTimerExpiry
  split
  · exact .stay s
  · split
    · exact .stay s
    · exact stay_or (steady_orphanExpires ..)

theorem drainEnd_steady (h : Handle) (s : State) : GoesOnSteady s (execDrainEnd h s) := by
  unfold execDrainEnd
  split
  · exact .stay s
  · exact stay_or (steady_freeStream ..)

theorem deadlineExpiry_steady (j : SpanId) (s : State) : GoesOnSteady s (execDeadlineExpiry j s) := by
  unfold execDeadlineExpiry
  split
  · exact .stay s
  · exact stay_or ((steady_postAll ..).trans (steady_rearmDeadline ..))

theorem windowOpeningExpiry_steady (j : SpanId) (s : State) : GoesOnSteady s (execWindowOpeningExpiry j s) := by
  unfold execWindowOpeningExpiry
  split
  · exact .stay s
  · exact stay_or ((steady_modQueue ..).trans (steady_post ..))

theorem settleTimerExpiry_steady (h : Handle) (s : State) : GoesOnSteady s (execSettleTimerExpiry h s) := by
  unfold execSettleTimerExpiry
  split
  · exact .stay s
  · split
    · exact .stay s
    · exact stay_or ((steady_modStream ..).trans (steady_foldl steady_releaseFrame _ _))

theorem dispatch_steady (j : SpanId) (s : State) : GoesOnSteady s (execDispatch j s) := by
  have ended : GoesOnSteady s (.next (s.endSelection j)) := .of_steady (steady_modArbiter ..)
  unfold execDispatch
  split
  · exact .stay s
  · split
    · split
      · exact ended
      · split
        · exact ended
        · rename_i ht; exact .of_steady (steady_dispatchOne ht)
    · exact ended

theorem extentDone_steady (j : SpanId) (slot gen result : Byte) (s : State) :
    GoesOnSteady s (execExtentDone j slot gen result s) := by
  have stale : GoesOnSteady s (.next (s.modService j SpanService.stale)) := .of_steady (steady_modService ..)
  unfold execExtentDone
  split
  · exact stale
  · dsimp only
    split
    · split
      · exact .of_steady (steady_of_nodes rfl rfl rfl)
      · exact .of_steady (steady_of_nodes rfl rfl rfl)
      · exact stale
    · exact stale

theorem slotExpiry_steady (j : SpanId) (k : SlotId) (s : State) : GoesOnSteady s (execSlotExpiry j k s) := by
  unfold execSlotExpiry
  dsimp only
  split
  · exact stay_or (steady_of_nodes rfl rfl rfl)
  · exact .stay s

theorem ready_steady (j : SpanId) (attempt : Byte) (s : State) : GoesOnSteady s (execReady j attempt s) := by
  unfold execReady
  split
  · exact stay_or (Steady.trans (t := ((s.modService j fun v =>
      { v with link := .up, relinkExpiry := none }).reportLink j).post (.select j)) (steady_of_nodes rfl rfl rfl)
      (steady_spanNotice ..))
  · exact .stay s

theorem trainingAttemptExpiry_steady (j : SpanId) (s : State) : GoesOnSteady s (execTrainingAttemptExpiry j s) := by
  unfold execTrainingAttemptExpiry
  split
  · split
    · split
      · exact .of_steady (steady_modService ..)
      · exact .of_steady ((steady_modService ..).trans ((steady_spanNotice ..).trans (steady_reportLink ..)))
    · exact .stay s
  · exact .stay s

theorem relinkHoldExpiry_steady (j : SpanId) (s : State) : GoesOnSteady s (execRelinkHoldExpiry j s) := by
  unfold execRelinkHoldExpiry
  split
  · exact .stay s
  · exact stay_or (steady_holdExpires ..)

theorem presenceDeasserted_steady (j : SpanId) (s : State) : GoesOnSteady s (execPresenceDeasserted j s) := by
  have noted := steady_modService s j fun v => { v with presence := false }
  unfold execPresenceDeasserted
  dsimp only
  split
  · exact .of_steady noted
  · exact .of_steady (noted.trans (steady_becomeAbsent ..))

theorem presenceAsserted_steady (j : SpanId) (s : State) : GoesOnSteady s (execPresenceAsserted j s) := by
  have noted := steady_modService s j fun v => { v with presence := true }
  unfold execPresenceAsserted
  dsimp only
  split
  · exact .of_steady (noted.trans ((steady_modService ..).trans ((steady_spanNotice ..).trans (steady_reportLink ..))))
  · exact .of_steady noted

/-- An event that takes only reports of its own kind. -/
theorem some_of_match {s t u : State} (h : Steady s u) (e : some u = some t) : Steady s t := by cases e; exact h

theorem absentRelease_steady (j : SpanId) (s : State) : GoesOnSteady s (execAbsentRelease j s) := by
  refine withReport_steady fun r u t e => ?_
  split at e
  · exact some_of_match (steady_releaseAbsent ..) e
  · cases e

theorem linkStateReport_steady (j : SpanId) (s : State) : GoesOnSteady s (execLinkStateReport j s) := by
  refine withReport_steady fun r u t e => ?_
  split at e
  · exact some_of_match ((steady_modBudget ..).trans (steady_updateDegraded ..)) e
  · cases e

theorem ceilingReport_steady (j : SpanId) (s : State) : GoesOnSteady s (execCeilingReport j s) := by
  refine withReport_steady fun r u t e => ?_
  split at e
  · exact some_of_match ((steady_modBudget ..).trans (steady_recomputeOvercommit ..)) e
  · cases e

theorem cancelUndispatched_steady (h : Handle) (s : State) : GoesOnSteady s (execCancelUndispatched h s) := by
  refine withReport_steady fun r u t e => ?_
  split at e
  · exact some_of_match (steady_foldl (steady_withdrawFrame .cancelled) _ _) e
  · cases e

theorem pieceOutcome_steady (p : Nat) (s : State) : GoesOnSteady s (execPieceOutcome p s) := by
  refine withReport_steady fun r u t e => ?_
  split at e
  · exact some_of_match (steady_takeOutcome ..) e
  · cases e

theorem lateReport_steady (j : SpanId) (s : State) : GoesOnSteady s (execLateReport j s) := by
  refine withReport_steady fun r u t e => ?_
  split at e
  · exact some_of_match (steady_takeLate ..) e
  · cases e

theorem maskWrite_steady (j : SpanId) (s : State) : GoesOnSteady s (execMaskWrite j s) := by
  refine withReport_steady fun r u t e => ?_
  split at e
  · exact some_of_match (steady_ite (Steady.refl u) ((steady_modArbiter ..).trans (steady_beginSelection ..))) e
  · cases e

theorem latencyReport_steady (j : SpanId) (s : State) : GoesOnSteady s (execLatencyReport j s) := by
  refine withReport_steady fun r u t e => ?_
  split at e
  · exact some_of_match (steady_modMonitor ..) e
  · cases e

theorem parameterReport_steady (b : ParamBlock) (s : State) : GoesOnSteady s (execParameterReport b s) := by
  refine withReport_steady fun r u t e => ?_
  split at e
  · exact some_of_match (steady_takeParams ..) e
  · cases e

theorem configuredCeilingChange_steady (j : SpanId) (s : State) : GoesOnSteady s (execConfiguredCeilingChange j s) := by
  refine withReport_steady fun r u t e => ?_
  split at e
  · exact some_of_match (steady_configureCeiling ..) e
  · cases e

theorem selection_steady (j : SpanId) (s : State) : GoesOnSteady s (execSelection j s) :=
  withReport_some_steady fun _ _ => steady_beginSelection ..

theorem queueSpanLoss_steady (j : SpanId) (s : State) : GoesOnSteady s (execQueueSpanLoss j s) :=
  withReport_some_steady fun _ _ => steady_loseQueue ..

theorem tripClassEvent_steady (j : SpanId) (s : State) : GoesOnSteady s (execTripClassEvent j s) :=
  withReport_some_steady fun _ _ => steady_modMonitor ..

theorem monitorAbsent_steady (j : SpanId) (s : State) : GoesOnSteady s (execMonitorAbsent j s) :=
  withReport_some_steady fun _ _ => steady_monitorAbsent ..

theorem linkLossIndication_steady (j : SpanId) (s : State) : GoesOnSteady s (execLinkLossIndication j s) :=
  stay_or ((steady_modService ..).trans (steady_leaveUp ..))

theorem monitorWindowExpiry_steady (j : SpanId) (s : State) : GoesOnSteady s (execMonitorWindowExpiry j s) :=
  stay_or (steady_judgeWindow ..)

theorem windowAccess_steady {n : NodeId} {f : Node → Node} (s : State) (h : ∀ nd, (f nd).epoch = nd.epoch) :
    GoesOnSteady s (if (s.node n).linkUp then .next (s.modNode n f) else .next s) := stay_or (steady_modNode (h _))

/-- Every row but POWER_ON_RESET and ATTACH goes on by a steady change. -/
theorem exec_steady (c : Instr) (s : State) (hp : c ≠ .powerOnReset) (ha : ∀ n, c ≠ .attach n) :
    GoesOnSteady s (exec c s) := by
  cases c with
  | powerOnReset => exact absurd rfl hp
  | attach n => exact absurd rfl (ha n)
  | resetPin => exact .of_steady (steady_warmReset ..)
  | commandWindowWrite n bytes => exact windowAccess_steady s fun nd => nd.commandWrite_epoch bytes
  | eventWindowRead n len => exact windowAccess_steady s fun nd => nd.eventRead_epoch s.time len
  | windowAccessIgnored n access => exact windowAccess_steady s fun _ => rfl
  | unknownCommand n => exact unknownCommand_steady n s
  | detach n => exact detach_steady n s
  | heartbeat n => exact heartbeat_steady n s
  | clearNodeFlags n => exact clearNodeFlags_steady n s
  | queryPart n => exact queryPart_steady n s
  | openStream n => exact openStream_steady n s
  | closeStream n => exact closeStream_steady n s
  | adopt n => exact adopt_steady n s
  | queryStream n => exact queryStream_steady n s
  | play n => exact play_steady n s
  | stop n => exact stop_steady n s
  | scrub n => exact scrub_steady n s
  | frameRead n => exact frameRead_steady n s
  | querySpan n => exact querySpan_steady n s
  | clearTrip n => exact clearTrip_steady n s
  | ackSpanStatus n => exact ackSpanStatus_steady n s
  | linkReset n => exact linkReset_steady n s
  | configBegin n => exact configBegin_steady n s
  | configSet n => exact configSet_steady n s
  | configGet n => exact configGet_steady n s
  | configEnd n => exact configEnd_steady n s
  | partReset n => exact partReset_steady n s
  | pcieLinkDown n => exact pcieLinkDown_steady n s
  | pcieLinkUp n => exact pcieLinkUp_steady n s
  | heartbeatTimerExpiry n => exact heartbeatTimerExpiry_steady n s
  | orphanTimerExpiry h => exact orphanTimerExpiry_steady h s
  | cancelUndispatched h => exact cancelUndispatched_steady h s
  | drainEnd h => exact drainEnd_steady h s
  | absentRelease j => exact absentRelease_steady j s
  | linkStateReport j => exact linkStateReport_steady j s
  | ceilingReport j => exact ceilingReport_steady j s
  | pieceOutcome p => exact pieceOutcome_steady p s
  | deadlineExpiry j => exact deadlineExpiry_steady j s
  | lateReport j => exact lateReport_steady j s
  | windowOpeningExpiry j => exact windowOpeningExpiry_steady j s
  | selection j => exact selection_steady j s
  | dispatch j => exact dispatch_steady j s
  | maskWrite j => exact maskWrite_steady j s
  | settleTimerExpiry h => exact settleTimerExpiry_steady h s
  | extentDone j slot gen result => exact extentDone_steady j slot gen result s
  | slotExpiry j k => exact slotExpiry_steady j k s
  | ready j attempt => exact ready_steady j attempt s
  | trainingAttemptExpiry j => exact trainingAttemptExpiry_steady j s
  | linkLossIndication j => exact linkLossIndication_steady j s
  | relinkHoldExpiry j => exact relinkHoldExpiry_steady j s
  | queueSpanLoss j => exact queueSpanLoss_steady j s
  | presenceDeasserted j => exact presenceDeasserted_steady j s
  | presenceAsserted j => exact presenceAsserted_steady j s
  | spanMessageOther j bytes => exact .stay s
  | latencyReport j => exact latencyReport_steady j s
  | tripClassEvent j => exact tripClassEvent_steady j s
  | monitorWindowExpiry j => exact monitorWindowExpiry_steady j s
  | monitorAbsent j => exact monitorAbsent_steady j s
  | parameterReport b => exact parameterReport_steady b s
  | configuredCeilingChange j => exact configuredCeilingChange_steady j s

/-- An ATTACH taken from a state other than ATTACHED moves its node's epoch on by one, and no other epoch (R149). -/
theorem attach_epochs (n : NodeId) (s : State) : ∃ t, execAttach n s = .next t ∧ t.pending = s.pending ∧ t.time = s.time ∧
    ∀ m : NodeId, (t.node m).epoch = (s.node m).epoch ∨
      (m = n ∧ (s.node m).state ≠ .attached ∧ (t.node m).epoch = (s.node m).epoch + 1) := by
  unfold execAttach withCommand
  split
  · exact ⟨s, rfl, rfl, rfl, fun _ => .inl rfl⟩
  · split
    · dsimp only
      split
      · exact ⟨_, rfl, rfl, rfl, fun m => .inl (by simp [State.node_modNode]; split <;> simp_all)⟩
      · rename_i hs
        refine ⟨_, rfl, by simp, by simp, fun m => ?_⟩
        by_cases hm : m = n
        · subst hm
          exact .inr ⟨rfl, by simpa using hs, by simp [Node.attached]⟩
        · exact .inl (by simp [State.node_modNode, hm])
    · exact ⟨s, rfl, rfl, rfl, fun _ => .inl rfl⟩

/-- Settles O3, by cases on the row: POWER_ON_RESET, ATTACH, and the rows whose change is steady. -/
theorem everyRowGoesOnAndTimeAndEpochsStand : Obligations.EveryRowGoesOnAndTimeAndEpochsStand := by
  intro c s
  by_cases hp : c = .powerOnReset
  · subst hp
    exact ⟨_, rfl, rfl, fun h => absurd rfl h⟩
  by_cases ha : ∃ n, c = .attach n
  · obtain ⟨n, rfl⟩ := ha
    obtain ⟨t, ht, hpend, htime, hepoch⟩ := attach_epochs n s
    refine ⟨t, ht, hpend, fun _ => ⟨htime, fun m => ?_⟩⟩
    rcases hepoch m with e | ⟨rfl, hs, e⟩
    · exact .inl e
    · exact .inr ⟨rfl, hs, e⟩
  · obtain ⟨t, ht, hpend, htime, hepoch⟩ := exec_steady c s hp fun n e => ha ⟨n, e⟩
    exact ⟨t, ht, hpend, fun _ => ⟨htime, fun n => .inl (hepoch n)⟩⟩

end Sys2Proof.Machine
end

section
/-! PROOFS. PLAY, STOP and SCRUB: the states they take, their answers, and the deadlines that an anchor gives. -/

namespace Sys2Proof.Machine

open Host (Outcome)

/-! ## The commands of a stream's owner -/

/-- A command of its stream's owner, at the head of its ATTACHED node's FIFO, comes to its own state check (R5, R167). -/
theorem withAttached_withOwned {n : NodeId} {code : Nat} {s : State} {rec : List Byte} {rest : List (List Byte)}
    {st : Stream} (hi : s.issues n code rec rest) (hn : s.named (recStream rec) = some st) (ho : st.owner = some n)
    (act : List Byte → Stream → State → State) :
    withAttached n code s (fun rec s => s.withOwned n code (recStream rec) (act rec)) =
      .next (act rec st (s.taken n rest)) := by
  have hn' : (s.taken n rest).named (recStream rec) = some st := hn
  simp [withAttached_of_issues hi, State.withOwned, hn', ho]

theorem clamp_zero (hi v : Nat) : clamp 0 hi v = min v hi := by
  simp only [clamp, Nat.not_lt_zero, if_false]
  split <;> omega

/-- What PLAY does with the record of the stream's owner at the head of its FIFO. -/
theorem execPlay_of_owner {n : NodeId} {s : State} {rec : List Byte} {rest : List (List Byte)} {st : Stream}
    (hi : s.issues n 6 rec rest) (hn : s.named (recStream rec) = some st) (ho : st.owner = some n) :
    exec (.play n) s = .next (
      if recArgSigned rec 1 = 0 then (s.taken n rest).stopStream n 6 (recStream rec) st true
      else if st.state = .closing then (s.taken n rest).result n 6 .wrongState []
      else if 2147483647 < recArg rec 0 then (s.taken n rest).result n 6 .badArgs []
      else
        let preroll := clamp 0 10000000 (recArg rec 2)
        let a : Anchor := {
          time := plusMicros s.time preroll, frame := recArg rec 0, speed := roundSpeed (recArgSigned rec 1) }
        (((s.taken n rest).modStream (recStream rec).handle fun st => { st.still .playing with anchor := some a }).result
          n 6 .ok [fTime a.time, fNat a.frame, fInt a.speed, fNat preroll, fNat (s.cancelCount (recStream rec))]).cancelStream
            (recStream rec)) :=
  withAttached_withOwned hi hn ho _

theorem execStop_of_owner {n : NodeId} {s : State} {rec : List Byte} {rest : List (List Byte)} {st : Stream}
    (hi : s.issues n 7 rec rest) (hn : s.named (recStream rec) = some st) (ho : st.owner = some n) :
    exec (.stop n) s = .next ((s.taken n rest).stopStream n 7 (recStream rec) st false) :=
  withAttached_withOwned hi hn ho _

theorem execScrub_of_owner {n : NodeId} {s : State} {rec : List Byte} {rest : List (List Byte)} {st : Stream}
    (hi : s.issues n 8 rec rest) (hn : s.named (recStream rec) = some st) (ho : st.owner = some n) :
    exec (.scrub n) s = .next (
      if st.state = .stopped ∨ st.state = .playing then
        (((s.taken n rest).modStream (recStream rec).handle fun st => st.still .scrubbing).result n 8 .ok
          [fNat (s.cancelCount (recStream rec))]).cancelStream (recStream rec)
      else (s.taken n rest).result n 8 .wrongState []) :=
  withAttached_withOwned hi hn ho _

/-! ## The speed taken -/

/-- A magnitude of 1 or more is rounded down to 1, 2, 4 or 8 (R29). -/
theorem speedMagnitude_rounds {m : Nat} (hm : 0 < m) : speedMagnitude m ∈ [1, 2, 4, 8] ∧ speedMagnitude m ≤ m ∧
    (speedMagnitude m = 8 ∨ m < 2 * speedMagnitude m) := by
  unfold speedMagnitude
  split
  · simp; omega
  · split
    · simp; omega
    · split
      · simp; omega
      · simp; omega

theorem natAbs_roundSpeed (v : Int) : (roundSpeed v).natAbs = speedMagnitude v.natAbs := by
  unfold roundSpeed
  split <;> simp

theorem speedMagnitude_pos (m : Nat) : 0 < speedMagnitude m := by
  unfold speedMagnitude
  repeat' split
  all_goals decide

theorem roundSpeed_pos_iff {v : Int} (hv : v ≠ 0) : 0 < roundSpeed v ↔ 0 < v := by
  have := speedMagnitude_pos v.natAbs
  unfold roundSpeed
  split <;> omega

/-- Settles O23, by the four cases of an owner's PLAY and the rounding of a magnitude. -/
theorem playAnchorsTheStream : Obligations.PlayAnchorsTheStream := by
  refine ⟨fun n s rec rest st hi hn ho hv => ?_, fun v hv => ?_⟩
  · rw [execPlay_of_owner hi hn ho, if_neg hv]
    refine ⟨fun hc => ?_, fun hc hf => ?_, fun hc hf => ?_⟩
    · rw [if_pos hc]
    · rw [if_neg hc, if_pos hf]
    · rw [if_neg hc, if_neg (Nat.not_lt.2 hf), clamp_zero]
      rfl
  · obtain ⟨hmem, hle, hhalf⟩ := speedMagnitude_rounds (Int.natAbs_pos.2 hv)
    rw [natAbs_roundSpeed]
    exact ⟨hmem, roundSpeed_pos_iff hv, hle, hhalf⟩

/-- Settles O24: STOP, a PLAY of speed 0 and SCRUB, each in the states it takes and in the others. -/
theorem stopAndScrubLeavePlay : Obligations.StopAndScrubLeavePlay := by
  intro n s rec rest st hn ho count moved
  refine ⟨fun hi => ?_, fun hi hz => ?_, fun hi => ?_⟩
  · rw [execStop_of_owner hi hn ho]
    exact ⟨fun hk => by rw [State.stopStream, if_pos hk]; rfl,
      fun hp hs => by rw [State.stopStream, if_neg (not_or.2 ⟨hp, hs⟩)]; rfl⟩
  · rw [execPlay_of_owner hi hn ho, if_pos hz]
    exact ⟨fun hk => by rw [State.stopStream, if_pos hk]; rfl,
      fun hp hs => by rw [State.stopStream, if_neg (not_or.2 ⟨hp, hs⟩)]; rfl⟩
  · rw [execScrub_of_owner hi hn ho]
    exact ⟨fun hk => by rw [if_pos hk]; rfl, fun hs hp => by rw [if_neg (not_or.2 ⟨hs, hp⟩)]⟩

/-! ## Deadlines under an anchor -/

/-- A frame is reached by play within the horizon exactly when it lies a whole number of strides along the direction of
play, that many periods within the horizon (R37). -/
theorem strideWithinHorizon_iff {d v : Int} (hv : v ≠ 0) (period k : Nat) :
    ((d = 0 ∨ (0 < d ↔ 0 < v)) ∧ d % v = 0 ∧ (d / v) * period ≤ Config.horizon ∧ (d / v).toNat = k) ↔
      d = k * v ∧ k * period ≤ 2 ^ 40 := by
  have horizon : Config.horizon = 2 ^ 40 := rfl
  constructor
  · rintro ⟨hdir, hmod, hhor, rfl⟩
    obtain ⟨q, rfl⟩ := Int.dvd_of_emod_eq_zero hmod
    rw [Int.mul_ediv_cancel_left _ hv] at *
    have hq : 0 ≤ q := by
      by_contra hneg
      have hq : q < 0 := by omega
      rcases lt_or_gt_of_ne hv with h | h
      · have : 0 < v * q := Int.mul_pos_of_neg_of_neg h hq
        rcases hdir with e | e
        · omega
        · have := e.1 this; omega
      · have : v * q < 0 := Int.mul_neg_of_pos_of_neg h hq
        rcases hdir with e | e
        · omega
        · have := e.2 h; omega
    lift q to Nat using hq
    refine ⟨by simp [mul_comm], ?_⟩
    rw [horizon] at hhor
    simpa using (by exact_mod_cast hhor : q * period ≤ 2 ^ 40)
  · rintro ⟨rfl, hhor⟩
    rw [Int.mul_ediv_cancel _ hv]
    refine ⟨?_, Int.mul_emod_left _ _, by rw [horizon]; exact_mod_cast hhor, by simp⟩
    rcases Nat.eq_zero_or_pos k with rfl | hk
    · exact .inl (by simp)
    · right
      have : (0 : Int) < k := by exact_mod_cast hk
      constructor
      · exact fun h => (pos_iff_pos_of_mul_pos h).1 this
      · exact fun h => Int.mul_pos this h

theorem playDeadline_eq_some_iff (st : Stream) (a : Anchor) (n : Nat) (d : Time) (hv : a.speed ≠ 0) :
    st.playDeadline a n = some d ↔ ∃ k : Nat, (n : Int) - a.frame = k * a.speed ∧ k * st.period ≤ 2 ^ 40 ∧
      d = a.time + BitVec.ofNat 48 (k * st.period) - BitVec.ofNat 48 st.lead := by
  unfold Stream.playDeadline
  dsimp only
  constructor
  · intro h
    split at h
    · rename_i hc
      obtain ⟨hdir, hmod, hhor⟩ := hc
      obtain ⟨hk, hkp⟩ := (strideWithinHorizon_iff hv st.period _).1 ⟨hdir, hmod, hhor, rfl⟩
      exact ⟨_, hk, hkp, (Option.some.inj h).symm⟩
    · cases h
  · rintro ⟨k, hk, hkp, rfl⟩
    obtain ⟨hdir, hmod, hhor, rfl⟩ := (strideWithinHorizon_iff hv st.period k).2 ⟨hk, hkp⟩
    rw [if_pos ⟨hdir, hmod, hhor⟩]

/-! ## Urgency -/

/-- The class of a deadline is the band that its slack falls in (R39). -/
theorem classOf_bands (a : Arbiter) (now d : Time) :
    (a.classOf now d = .late ∧ (d - now).toInt < 0) ∨
    (a.classOf now d = .urgent ∧ 0 ≤ (d - now).toInt ∧ (d - now).toInt ≤ a.urgent) ∨
    (a.classOf now d = .due ∧ 0 ≤ (d - now).toInt ∧ a.urgent < (d - now).toInt ∧ (d - now).toInt ≤ a.due) ∨
    (a.classOf now d = .ahead ∧ 0 ≤ (d - now).toInt ∧ a.due < (d - now).toInt ∧ (d - now).toInt ≤ a.lookahead) ∨
    (a.classOf now d = .future ∧ 0 ≤ (d - now).toInt ∧ a.lookahead < (d - now).toInt) := by
  unfold Arbiter.classOf slack timeDiff
  dsimp only
  split
  · exact .inl ⟨rfl, ‹_›⟩
  · split
    · exact .inr (.inl ⟨rfl, by omega, ‹_›⟩)
    · split
      · exact .inr (.inr (.inl ⟨rfl, by omega, by omega, ‹_›⟩))
      · split
        · exact .inr (.inr (.inr (.inl ⟨rfl, by omega, by omega, ‹_›⟩)))
        · exact .inr (.inr (.inr (.inr ⟨rfl, by omega, by omega⟩)))

/-- The place of a class in the order of urgency. -/
def Urgency.rank (u : Urgency) : Nat := [Urgency.late, .urgent, .due, .ahead, .future].idxOf u

theorem rank_classOf (a : Arbiter) (now d : Time) : (a.classOf now d).rank =
    if (d - now).toInt < 0 then 0 else if (d - now).toInt ≤ a.urgent then 1 else if (d - now).toInt ≤ a.due then 2
      else if (d - now).toInt ≤ a.lookahead then 3 else 4 := by
  unfold Arbiter.classOf slack timeDiff
  dsimp only
  split
  · rfl
  · split
    · rfl
    · split
      · rfl
      · split <;> rfl

/-- Of two deadlines at one moment the one of smaller slack is of no later class. -/
theorem rank_classOf_mono (a : Arbiter) (now d e : Time) (h : (d - now).toInt < (e - now).toInt) :
    (a.classOf now d).rank ≤ (a.classOf now e).rank := by
  rw [rank_classOf, rank_classOf]
  split_ifs <;> omega

theorem classOf_ranked (a : Arbiter) (now d : Time) :
    a.classOf now d ∈ [Urgency.late, .urgent, .due, .ahead, .future] := by
  rcases classOf_bands a now d with ⟨hc, -⟩ | ⟨hc, -⟩ | ⟨hc, -⟩ | ⟨hc, -⟩ | ⟨hc, -⟩ <;> simp [hc]

/-- Settles O25: the strides of an anchor, the kinds by state, and the bands of slack. -/
theorem deadlinesOfFramesAndTheirUrgency : Obligations.DeadlinesOfFramesAndTheirUrgency := by
  refine ⟨playDeadline_eq_some_iff, fun st n => ⟨fun a hp ha => ?_, fun hs => ?_, fun hs => ?_⟩, ?_⟩
  · simp only [Stream.timing, hp, ha] <;> rfl
  · simp only [Stream.timing, hs]
  · simp only [Stream.timing, hs]
  · intro a now d e hu hd k
    have bands : (a.classOf now d = .late ↔ k < 0) ∧ (a.classOf now d = .urgent ↔ 0 ≤ k ∧ k ≤ a.urgent) ∧
        (a.classOf now d = .due ↔ a.urgent < k ∧ k ≤ a.due) ∧
        (a.classOf now d = .ahead ↔ a.due < k ∧ k ≤ a.lookahead) ∧ (a.classOf now d = .future ↔ a.lookahead < k) := by
      rcases classOf_bands a now d with ⟨hc, hk⟩ | ⟨hc, hk⟩ | ⟨hc, hk⟩ | ⟨hc, hk⟩ | ⟨hc, hk⟩ <;>
        simp only [hc, reduceCtorEq, true_iff, false_iff, k] <;> omega
    obtain ⟨late, urgent, due, ahead, future⟩ := bands
    refine ⟨late, urgent, due, ahead, future, fun hne hlt => ?_⟩
    refine lt_of_le_of_ne (rank_classOf_mono a now d e hlt) fun heq => hne ?_
    exact (List.idxOf_inj (classOf_ranked a now d)).1 heq

end Sys2Proof.Machine
end

section
/-! PROOFS. The taking of parameter reports by each block, and of owed cancellations and late reports by the Frame
Table. -/

namespace Sys2Proof.Machine

open Host (Outcome)

/-- An event takes the oldest report of its channel, which is of the kind that it acts on. -/
theorem withReport_next {s t : State} {channel : Report → Bool} {act : Report → State → Option State} {r : Report}
    {before after : List Report} (h : s.offers channel r before after)
    (ht : act r { s with reports := before ++ after } = some t) : withReport s channel act = .next t := by
  rw [withReport_of_offers h, ht]

/-! ## A report's values, taken one after another -/

theorem lookup_eq_none_of_not_mem {vs : List (Nat × Nat)} {k : Nat} (h : k ∉ vs.map Prod.fst) : vs.lookup k = none := by
  rw [List.lookup_eq_none_iff]
  intro x hx
  simpa using fun e : k = x.1 => h (e ▸ List.mem_map_of_mem hx)

/-- Values of different numbers taken one after another are the values that each number names, taken together: `out b m`
is `b` with the values that `m` names. -/
theorem foldl_takes {σ : Type} {take : σ → Nat × Nat → σ} {out : σ → (Nat → Option Nat) → σ}
    (hnone : ∀ b, out b (fun _ => none) = b)
    (hsome : ∀ b k v m, m k = none → out (take b (k, v)) m = out b fun i => if k = i then some v else m i)
    {vs : List (Nat × Nat)} (hvs : (vs.map Prod.fst).Nodup) (b : σ) : vs.foldl take b = out b fun i => vs.lookup i := by
  induction vs generalizing b with
  | nil => exact (hnone b).symm
  | cons x r ih =>
    obtain ⟨k, v⟩ := x
    rw [List.map_cons, List.nodup_cons] at hvs
    rw [List.foldl_cons, ih hvs.2, hsome b k v _ (lookup_eq_none_of_not_mem hvs.1)]
    congr 1
    funext i
    by_cases hi : i = k
    · simp [hi]
    · rw [List.lookup_cons, beq_eq_false_iff_ne.2 hi, if_neg (Ne.symm hi)]

section

variable {vs : List (Nat × Nat)} (hvs : (vs.map Prod.fst).Nodup)
include hvs

theorem State.foldl_admissionTakesPart (s : State) : vs.foldl State.admissionTakesPart s =
    { s with defaultSettle := (vs.lookup 5).getD s.defaultSettle, orphanGrace := (vs.lookup 8).getD s.orphanGrace } :=
  foldl_takes (out := fun s m => { s with
      defaultSettle := (m 5).getD s.defaultSettle, orphanGrace := (m 8).getD s.orphanGrace })
    (fun _ => rfl) (fun b k v m hm => by unfold State.admissionTakesPart; split <;> simp_all) hvs s

theorem Budget.foldl_takes (b : Budget) : vs.foldl Budget.takes b =
    { b with overhead := (vs.lookup 1).getD b.overhead, transfer := (vs.lookup 2).getD b.transfer,
             ceiling := (vs.lookup 5).getD b.ceiling } :=
  Machine.foldl_takes (out := fun b m => { b with
      overhead := (m 1).getD b.overhead, transfer := (m 2).getD b.transfer, ceiling := (m 5).getD b.ceiling })
    (fun _ => rfl) (fun b k v m hm => by unfold Budget.takes; split <;> simp_all) hvs b

theorem DeadlineParams.foldl_takes (p : DeadlineParams) : vs.foldl DeadlineParams.takes p =
    { urgent := (vs.lookup 1).getD p.urgent, due := (vs.lookup 2).getD p.due,
      lookahead := (vs.lookup 3).getD p.lookahead, scrubTarget := (vs.lookup 4).getD p.scrubTarget } :=
  Machine.foldl_takes (out := fun p m => {
      urgent := (m 1).getD p.urgent, due := (m 2).getD p.due, lookahead := (m 3).getD p.lookahead,
      scrubTarget := (m 4).getD p.scrubTarget })
    (fun _ => rfl) (fun b k v m hm => by unfold DeadlineParams.takes; split <;> simp_all) hvs p

theorem Node.foldl_takes (nd : Node) : vs.foldl Node.takes nd =
    { nd with heartbeatPeriod := (vs.lookup 6).getD nd.heartbeatPeriod,
              heartbeatWindow := (vs.lookup 7).getD nd.heartbeatWindow } :=
  Machine.foldl_takes (out := fun nd m => { nd with
      heartbeatPeriod := (m 6).getD nd.heartbeatPeriod, heartbeatWindow := (m 7).getD nd.heartbeatWindow })
    (fun _ => rfl) (fun b k v m hm => by unfold Node.takes; split <;> simp_all) hvs nd

theorem Arbiter.foldl_takesPart (a : Arbiter) : vs.foldl Arbiter.takesPart a =
    { a with urgent := (vs.lookup 1).getD a.urgent, due := (vs.lookup 2).getD a.due,
             lookahead := (vs.lookup 3).getD a.lookahead } :=
  Machine.foldl_takes (out := fun a m => { a with
      urgent := (m 1).getD a.urgent, due := (m 2).getD a.due, lookahead := (m 3).getD a.lookahead })
    (fun _ => rfl) (fun b k v m hm => by unfold Arbiter.takesPart; split <;> simp_all) hvs a

theorem Arbiter.foldl_takesSpan (a : Arbiter) : vs.foldl Arbiter.takesSpan a =
    { a with depth := (vs.lookup 3).getD a.depth, backgroundShare := (vs.lookup 4).getD a.backgroundShare } :=
  Machine.foldl_takes (out := fun a m => { a with
      depth := (m 3).getD a.depth, backgroundShare := (m 4).getD a.backgroundShare })
    (fun _ => rfl) (fun b k v m hm => by unfold Arbiter.takesSpan; split <;> simp_all) hvs a

theorem MonitorParams.foldl_takes (p : MonitorParams) : vs.foldl MonitorParams.takes p =
    { p with step := (vs.lookup 7).getD p.step, delay := (vs.lookup 8).getD p.delay,
             recover := (vs.lookup 9).getD p.recover,
             auto := ((vs.lookup 10).map fun v => decide (v ≠ 0)).getD p.auto,
             window := (vs.lookup 11).getD p.window, top := (vs.lookup 12).getD p.top,
             trip := (vs.lookup 13).getD p.trip } :=
  Machine.foldl_takes (out := fun p m => { p with
      step := (m 7).getD p.step, delay := (m 8).getD p.delay, recover := (m 9).getD p.recover,
      auto := ((m 10).map fun v => decide (v ≠ 0)).getD p.auto,
      window := (m 11).getD p.window, top := (m 12).getD p.top, trip := (m 13).getD p.trip })
    (fun _ => rfl) (fun b k v m hm => by unfold MonitorParams.takes; split <;> simp_all) hvs p

theorem SpanService.foldl_takes (v : SpanService) : vs.foldl SpanService.takes v =
    { v with commandTimeout := (vs.lookup 14).getD v.commandTimeout, relinkHold := (vs.lookup 15).getD v.relinkHold } :=
  Machine.foldl_takes (out := fun v m => { v with
      commandTimeout := (m 14).getD v.commandTimeout, relinkHold := (m 15).getD v.relinkHold })
    (fun _ => rfl) (fun b k v m hm => by unfold SpanService.takes; split <;> simp_all) hvs v

end

theorem State.modSpan_id (s : State) (j : SpanId) : (s.modSpan j fun sp => sp) = s := by
  simp [State.modSpan, State.span]

theorem State.modMonitor_modMonitor (s : State) (j : SpanId) (f g : Monitor → Monitor) :
    (s.modMonitor j f).modMonitor j g = s.modMonitor j fun m => g (f m) := State.modSpan_modSpan ..

/-- A report without a derate floor changes a monitor's parameters only (R142). -/
theorem State.foldl_monitorTakes {vs : List (Nat × Nat)} (h6 : vs.lookup 6 = none) (j : SpanId) (s : State) :
    vs.foldl (State.monitorTakes j) s =
      s.modMonitor j fun m => { m with params := vs.foldl MonitorParams.takes m.params } := by
  induction vs generalizing s with
  | nil => exact (State.modSpan_id s j).symm
  | cons x r ih =>
    obtain ⟨k, v⟩ := x
    have hk : k ≠ 6 := by rintro rfl; simp at h6
    have hr : r.lookup 6 = none := by
      rwa [List.lookup_cons, beq_eq_false_iff_ne.2 (Ne.symm hk)] at h6
    rw [List.foldl_cons, ih hr, State.monitorTakes, if_neg hk, State.modMonitor_modMonitor]
    rfl

theorem exec_parameterReport {s : State} {b : ParamBlock} {scope : Option SpanId} {vs : List (Nat × Nat)}
    {before after : List Report} (h : s.offers (toBlock b) (.param b scope vs) before after) :
    exec (.parameterReport b) s = .next ({ s with reports := before ++ after }.takeParams b scope vs) := by
  change execParameterReport b s = _
  exact withReport_next h rfl

theorem State.beginSelection_eq (s : State) (j : SpanId) : s.beginSelection j =
    if (s.span j).service.link = .up then s.modArbiter j fun a => { a with selections := a.selections + 1 } else s := by
  simp [State.beginSelection, State.linkUp]

/-- Settles O51, block by block, from the values that the report names. -/
theorem parameterReportReachesItsBlock : Obligations.ParameterReportReachesItsBlock := by
  intro s b scope vs before after hvs ho u get
  rw [exec_parameterReport ho]
  refine ⟨?_, ?_, ?_, ?_, ?_, ?_, ?_⟩
  · rintro rfl rfl
    exact congrArg Outcome.next (State.foldl_admissionTakesPart hvs u)
  · rintro j rfl rfl
    simp only [State.takeParams, Budget.foldl_takes hvs]
    rfl
  · rintro rfl
    simp only [State.takeParams, DeadlineParams.foldl_takes hvs]
    rfl
  · rintro n rfl
    simp only [State.takeParams, Node.foldl_takes hvs]
    rfl
  · rintro j rfl begun
    constructor
    · rintro rfl
      simp only [State.takeParams, Arbiter.foldl_takesPart hvs, State.beginSelection_eq, State.rearmWindow_service,
        State.modArbiter_service]
      rfl
    · rintro k rfl
      simp only [State.takeParams, Arbiter.foldl_takesSpan hvs, State.beginSelection_eq, State.modArbiter_service]
      rfl
  · rintro j rfl h6
    simp only [State.takeParams, State.foldl_monitorTakes h6, MonitorParams.foldl_takes hvs]
    cases vs.lookup 10 <;> rfl
  · rintro j rfl
    simp only [State.takeParams, SpanService.foldl_takes hvs]
    rfl

/-! ## Owed cancellations and late reports -/

theorem exec_cancelUndispatched {s : State} {i : StreamId} {n : NodeId} {e : Epoch} {before after : List Report}
    (h : s.offers (fun | .cancel k _ _ => decide (k.handle = i.handle) | _ => false) (.cancel i n e) before after) :
    exec (.cancelUndispatched i.handle) s = .next ({ s with reports := before ++ after }.cancelOwed i n e) := by
  change execCancelUndispatched i.handle s = _
  exact withReport_next h rfl

theorem exec_lateReport {s : State} {j : SpanId} {l : LateFrame} {before after : List Report}
    (h : s.offers (fun | .late k _ => decide (k = j) | _ => false) (.late j l) before after) :
    exec (.lateReport j) s = .next ({ s with reports := before ++ after }.takeLate l) := by
  change execLateReport j s = _
  exact withReport_next h rfl

theorem LateFrame.stands_iff (l : LateFrame) (f : Frame) :
    l.stands f = true ↔ f.stream = l.stream ∧ f.number = l.number ∧ f.accepted = l.accepted := by
  simp [LateFrame.stands, and_assoc]

/-- A late report of a frame in use withdraws it under SKIP and leaves it under SERVE (R44, R45). -/
theorem State.takeLate_of_stands {s : State} {l : LateFrame} {f : Frame} {st : Stream}
    (hf : s.frames.get l.record = some f) (hl : l.stands f = true) (hst : s.stream f.stream.handle = some st) :
    s.takeLate l = if st.late = .skip then s.withdrawFrame .skipped l.record else s := by
  simp [State.takeLate, hf, hl, hst]

/-- A late report of a record that no longer holds its frame has no effect (notes/assumptions 13). -/
theorem State.takeLate_of_gone {s : State} {l : LateFrame}
    (h : ∀ f, s.frames.get l.record = some f → l.stands f = false) : s.takeLate l = s := by
  unfold State.takeLate
  split
  · rfl
  · rename_i f hf
    simp [h f hf]

/-- Settles O32: the two reports, and for the late one the frame still there and the frame gone. -/
theorem owedCancellationsAndLateReports : Obligations.OwedCancellationsAndLateReports := by
  refine ⟨fun s i n e before after h => exec_cancelUndispatched h, fun s j l before after h => ?_⟩
  intro u
  rw [exec_lateReport h]
  refine ⟨fun f st hf hl hst => ?_, fun hgone => ?_⟩
  · have taken : u.takeLate l = if st.late = .skip then u.withdrawFrame .skipped l.record else u :=
      State.takeLate_of_stands hf ((l.stands_iff f).2 hl) hst
    exact ⟨fun hk => by rw [taken, if_pos hk], fun hk => by rw [taken, if_neg (by simp [hk])]⟩
  · have gone : u.takeLate l = u := State.takeLate_of_gone fun f hf =>
      Bool.eq_false_iff.2 fun hl => hgone f hf ((l.stands_iff f).1 hl)
    rw [gone]

end Sys2Proof.Machine
end

section
/-! PROOFS. FRAME_READ: its checks, the read skipped on arrival, and the way to acceptance. -/

namespace Sys2Proof.Machine

open Host (Outcome)

theorem exec_frameRead {n : NodeId} {s : State} {rec : List Byte} {rest : List (List Byte)} (h : s.heads n 9 rec rest) :
    exec (.frameRead n) s = .next ((s.taken n rest).readFrame n rec) := by
  change execFrameRead n s = _
  rw [execFrameRead, withCommand_of_heads h]

/-! ## The checks -/

/-- The taking of the command moves nothing that the checks read. -/
theorem State.readChecks_taken (s : State) (n : NodeId) (rec : List Byte) (rest : List (List Byte)) :
    (s.taken n rest).readChecks n rec = s.readChecks n rec := by
  unfold State.readChecks
  simp only [State.taken_node_state]
  rfl

theorem extentsMatch_iff (st : Stream) (count : Nat) (exts : List Extent) : extentsMatch st count exts = true ↔
    count = st.spans.length ∧ (exts.map Extent.span = st.spans.map fun e => e.span.val) ∧
      ∀ x ∈ exts, 1 ≤ x.count ∧ x.count ≤ st.share := by
  simp [extentsMatch, and_assoc]

section

variable {s : State} {n : NodeId} {rec : List Byte} {st : Stream}

theorem readChecks_of_unnamed (h : s.named (recStream rec) = none) : s.readChecks n rec = .refuse .refusedStream := by
  simp [State.readChecks, h]

theorem readChecks_of_stranger (h : s.named (recStream rec) = some st)
    (ho : (s.node n).state ≠ .attached ∨ st.owner ≠ some n) : s.readChecks n rec = .refuse .refusedStream := by
  simp only [State.readChecks, h, if_pos ho]

/-- The checks after the first, for the owner (R52). -/
theorem readChecks_of_owner (h : s.named (recStream rec) = some st) (ha : (s.node n).state = .attached)
    (ho : st.owner = some n) : s.readChecks n rec =
      if st.state = .closing then .refuse .refusedState
      else if Config.maxFrame < recArg rec 1 ∨
          extentsMatch st (recExtentCount rec) (recExtents rec (recExtentCount rec)) = false then .refuse .refusedArgs
      else if s.frames.any (fun kv => decide (kv.2.stream = recStream rec) && decide (kv.2.number = recArg rec 1)) then
        .refuse .refusedDuplicate
      else s.depthAndPools st := by
  have hno : ¬ ((s.node n).state ≠ .attached ∨ st.owner ≠ some n) := by simp [ha, ho]
  simp only [State.readChecks, h, if_neg hno]

/-- The arguments pass check 3 (R52). -/
theorem argsRefused_iff : Config.maxFrame < recArg rec 1 ∨
      extentsMatch st (recExtentCount rec) (recExtents rec (recExtentCount rec)) = false ↔
    ¬ (recArg rec 1 ≤ 2147483647 ∧ recExtentCount rec = st.spans.length ∧
      ((recExtents rec (recExtentCount rec)).map Extent.span = st.spans.map fun e => e.span.val) ∧
      ∀ x ∈ recExtents rec (recExtentCount rec), 1 ≤ x.count ∧ x.count ≤ st.share) := by
  rw [← extentsMatch_iff, not_and_or, Bool.not_eq_true, Nat.not_le]
  rfl

theorem duplicate_iff (frames : Pool Frame) (i : StreamId) (number : Nat) :
    frames.any (fun kv => decide (kv.2.stream = i) && decide (kv.2.number = number)) = true ↔
      ∃ kv ∈ frames, kv.2.stream = i ∧ kv.2.number = number := by
  simp [List.any_eq_true]

theorem readChecks_of_readOk (h : s.readOk n rec st) : s.readChecks n rec = s.depthAndPools st := by
  obtain ⟨hn, ha, ho, hc, hf, hcount, hspans, hexts, hdup⟩ := h
  have hargs := mt argsRefused_iff.1 (not_not.2 ⟨hf, hcount, hspans, hexts⟩)
  have hnodup : ¬ (s.frames.any fun kv => decide (kv.2.stream = recStream rec) && decide (kv.2.number = recArg rec 1)) =
      true := fun e => by
    obtain ⟨kv, hkv, hm⟩ := (duplicate_iff ..).1 e
    exact hdup kv hkv hm
  rw [readChecks_of_owner hn ha ho, if_neg hc, if_neg hargs, if_neg hnodup]

end

theorem poolsHold_iff (s : State) (w frames pieces : Nat) : s.poolsHold w frames pieces = true ↔
    s.frames.length + 1 ≤ 512 + frames ∧ s.pieces.length + w ≤ 2048 + pieces := by
  rw [State.poolsHold, Bool.and_eq_true, decide_eq_true_eq, decide_eq_true_eq]
  rfl

/-- Below full depth, check 6 alone decides (R52). -/
theorem depthAndPools_of_room {s : State} {st : Stream} (h : st.outstanding < st.depth) : s.depthAndPools st =
    if s.frames.length < 512 ∧ s.pieces.length + st.spans.length ≤ 2048 then .pass st none else .refuse .refusedPool := by
  have hp : s.poolsHold st.spans.length 0 0 = true ↔ s.frames.length < 512 ∧ s.pieces.length + st.spans.length ≤ 2048 := by
    rw [poolsHold_iff]; omega
  simp only [State.depthAndPools, if_pos h, hp]

/-- At full depth only a stream in SCRUBBING under EVERY with a scrub list passes check 5 (R75). -/
theorem depthAndPools_of_full {s : State} {st : Stream} (h : st.depth ≤ st.outstanding)
    (hno : ¬ (st.state = .scrubbing ∧ st.scrub = .every ∧ st.scrubList ≠ [])) :
    s.depthAndPools st = .refuse .refusedDepth := by
  unfold State.depthAndPools
  rw [if_neg (Nat.not_lt.2 h)]
  split
  · rename_i hk
    have hl : st.scrubList = [] := by_contra fun hl => hno ⟨hk.1, hk.2, hl⟩
    simp [Stream.candidate, hl]
  · rfl

/-- At full depth in SCRUBBING under EVERY, the records of the candidate count as free (R75). -/
theorem depthAndPools_of_candidate {s : State} {st : Stream} {v : Nat} {later : List Nat} {f : Frame}
    (h : st.depth ≤ st.outstanding) (hk : st.state = .scrubbing) (he : st.scrub = .every)
    (hl : st.scrubList = v :: later) (hf : s.frames.get v = some f) : s.depthAndPools st =
      if s.frames.length < 513 ∧ s.pieces.length + st.spans.length ≤ 2048 + (f.pieceRefs.filter s.waits).length
      then .pass st (some v) else .refuse .refusedPool := by
  have hv : st.candidate = some v := by simp [Stream.candidate, hl]
  have hfree : s.freedPieces v = (f.pieceRefs.filter s.waits).length := by simp [State.freedPieces, hf]
  have hp : s.poolsHold st.spans.length 1 (s.freedPieces v) = true ↔
      s.frames.length < 513 ∧ s.pieces.length + st.spans.length ≤ 2048 + (f.pieceRefs.filter s.waits).length := by
    rw [poolsHold_iff, hfree]; omega
  simp only [State.depthAndPools, if_neg (Nat.not_lt.2 h), if_pos (And.intro hk he), hv, hp]

/-! ## What a read does, by the verdict of its checks -/

section

variable {n : NodeId} {s : State} {rec : List Byte} {rest : List (List Byte)} (h : s.heads n 9 rec rest)
include h

/-- A refused read is answered with stream id, cookie and number, and nothing else changes (R53). -/
theorem exec_frameRead_refused {status : FrameStatus} (hv : s.readChecks n rec = .refuse status) :
    exec (.frameRead n) s = .next ((s.taken n rest).frameDone n status
      ([fNat ((recStream rec).handle.toNat + 256 * (recStream rec).gen.toNat), fNat (recCookie rec).toNat,
        fNat (recArg rec 1)] ++ [none, fNat 0, none] ++ (fNat 0 :: List.replicate 8 none))) := by
  have hv' : (s.taken n rest).readChecks n rec = .refuse status := by rw [State.readChecks_taken, hv]
  simp only [exec_frameRead h, State.readFrame, hv']
  rfl

variable {st : Stream}

/-- A read with a PLAY deadline is skipped when late under SKIP, and accepted otherwise (R41, R42). -/
theorem exec_frameRead_timed {victim : Option Nat} {kind : FrameKind} {d : Time}
    (hv : s.readChecks n rec = .pass st victim) (ht : st.timing (recArg rec 1) = (kind, some d)) :
    exec (.frameRead n) s = .next (
      if (d - s.time).toInt < 0 ∧ st.late = .skip then (s.taken n rest).skipRead n rec st d
      else (s.taken n rest).acceptRead n rec st kind (some d)) := by
  have hv' : (s.taken n rest).readChecks n rec = .pass st victim := by rw [State.readChecks_taken, hv]
  simp only [exec_frameRead h, State.readFrame, hv', ht, lateOnArrival, decide_eq_true_eq]
  rfl

/-- A read without a deadline that no candidate makes room for is accepted. -/
theorem exec_frameRead_untimed {kind : FrameKind} (hv : s.readChecks n rec = .pass st none)
    (ht : st.timing (recArg rec 1) = (kind, none)) :
    exec (.frameRead n) s = .next ((s.taken n rest).acceptRead n rec st kind none) := by
  have hv' : (s.taken n rest).readChecks n rec = .pass st none := by rw [State.readChecks_taken, hv]
  simp only [exec_frameRead h, State.readFrame, hv', ht]

/-- A read in a candidate's place supersedes it where a piece of the read can be HELD, and fails otherwise (R72, R75). -/
theorem exec_frameRead_candidate {kind : FrameKind} {v : Nat} (hv : s.readChecks n rec = .pass st (some v))
    (ht : st.timing (recArg rec 1) = (kind, none)) :
    exec (.frameRead n) s = .next (
      if s.anyPlaceable (recStream rec).handle st then
        ((s.taken n rest).withdrawFrame .superseded v).acceptRead n rec st kind none
      else (s.taken n rest).failRead n rec st) := by
  have hv' : (s.taken n rest).readChecks n rec = .pass st (some v) := by rw [State.readChecks_taken, hv]
  simp only [exec_frameRead h, State.readFrame, hv', ht]
  rfl

end

/-! ## The answers of a read that takes no records -/

/-- The list of W equal outcomes, as an answer carries it (R179). -/
theorem fList_same {α : Type} (l : List α) (x : Field) :
    fList 8 1 (l.map fun _ => [x]) = fNat l.length :: (List.replicate l.length x ++ List.replicate (8 - l.length) none) := by
  simp [fList]

/-- A FRAME_DONE of W equal outcomes (R64, R179). -/
theorem frameDoneBody_same (i : StreamId) (c : Cookie) (number : Nat) (kind : FrameKind) (late : Bool)
    (lateness : Option Int) {α : Type} (l : List α) (o : PieceOutcome) :
    frameDoneBody i c number (some kind) late lateness (l.map fun _ => o) =
      [fNat (i.handle.toNat + 256 * i.gen.toNat), fNat c.toNat, fNat number, fNat kind.code, fBool late,
        fOpt fInt lateness] ++ (fNat l.length :: (List.replicate l.length (fNat o.code) ++
          List.replicate (8 - l.length) none)) := by
  rw [frameDoneBody, List.map_map, ← fList_same l (fNat o.code)]
  rfl

theorem State.skipRead_eq (s : State) (n : NodeId) (rec : List Byte) (st : Stream) (d : Time) :
    s.skipRead n rec st d = (s.modStream (recStream rec).handle fun st => { st with
        framesSkipped := if st.framesSkipped < 4294967295 then st.framesSkipped + 1 else st.framesSkipped }).frameDone n
      .lateSkipped ([fNat ((recStream rec).handle.toNat + 256 * (recStream rec).gen.toNat), fNat (recCookie rec).toNat,
        fNat (recArg rec 1)] ++ [fNat 0, fNat 1, fInt (s.time - d).toInt] ++ (fNat st.spans.length ::
          (List.replicate st.spans.length (fNat 5) ++ List.replicate (8 - st.spans.length) none))) := by
  rw [State.skipRead, frameDoneBody_same]
  rfl

theorem State.failRead_eq (s : State) (n : NodeId) (rec : List Byte) (st : Stream) :
    s.failRead n rec st = (s.modStream (recStream rec).handle fun st => { st with
        framesFailed := if st.framesFailed < 4294967295 then st.framesFailed + 1 else st.framesFailed }).frameDone n
      .failed ([fNat ((recStream rec).handle.toNat + 256 * (recStream rec).gen.toNat), fNat (recCookie rec).toNat,
        fNat (recArg rec 1), fNat 2, fNat 0, none] ++ (fNat st.spans.length ::
          (List.replicate st.spans.length (fNat 3) ++ List.replicate (8 - st.spans.length) none))) := by
  rw [State.failRead, frameDoneBody_same]
  rfl

theorem timing_of_play {st : Stream} {a : Anchor} {number : Nat} {d : Time} (hk : st.state = .playing)
    (ha : st.anchor = some a) (hd : st.playDeadline a number = some d) : st.timing number = (.play, some d) := by
  simp only [Stream.timing, hk, ha, hd]

theorem timing_of_scrubbing {st : Stream} (hk : st.state = .scrubbing) (number : Nat) :
    st.timing number = (.scrub, none) := by
  simp only [Stream.timing, hk]

/-- Settles O26: the checks in their order, each refusing alone, and the read skipped on arrival. -/
theorem frameReadRefusedOrSkippedOnArrival : Obligations.FrameReadRefusedOrSkippedOnArrival := by
  intro n s rec rest hh i h named refused
  have refuses : ∀ {status}, s.readChecks n rec = .refuse status → refused status := fun e =>
    exec_frameRead_refused hh e
  refine ⟨?_, fun st hn ho => ?_, fun st hn ha ho => ?_, fun st hok => ⟨fun hfull hno => ?_, ?_, fun hroom hpool => ?_, ?_⟩⟩
  · intro hc
    apply refuses
    cases hn : s.named i with
    | none => exact readChecks_of_unnamed hn
    | some st => exact readChecks_of_stranger hn (.inl (hc.resolve_left (by simp [hn])))
  · exact refuses (readChecks_of_stranger hn (.inr ho))
  · have checks := readChecks_of_owner hn ha ho
    refine ⟨fun hc => refuses ?_, fun hc hargs => refuses ?_, fun hc hargs hdup => refuses ?_⟩
    · rw [checks, if_pos hc]
    · rw [checks, if_neg hc, if_pos (argsRefused_iff.2 hargs)]
    · rw [checks, if_neg hc, if_neg (mt argsRefused_iff.1 (not_not.2 hargs)), if_pos ((duplicate_iff ..).2 hdup)]
  · exact refuses ((readChecks_of_readOk hok).trans (depthAndPools_of_full hfull hno))
  · intro later v f hfull hk he hl hf hpool
    refine refuses ((readChecks_of_readOk hok).trans ?_)
    rw [depthAndPools_of_candidate hfull hk he hl hf, if_neg (by omega)]
  · refine refuses ((readChecks_of_readOk hok).trans ?_)
    rw [depthAndPools_of_room hroom, if_neg (by omega)]
  · intro a d hroom hframes hpieces hk ha hd hskip hlate
    have hv : s.readChecks n rec = .pass st none := by
      rw [readChecks_of_readOk hok, depthAndPools_of_room hroom, if_pos ⟨hframes, hpieces⟩]
    rw [exec_frameRead_timed hh hv (timing_of_play hk ha hd), if_pos ⟨hlate, hskip⟩, State.skipRead_eq]
    rfl

/-- A piece's span passes the placement test, in the terms of the link and the span list (R57). -/
theorem State.placeable_of_stream {s : State} {h : Handle} {st : Stream} (hst : s.stream h = some st) (j : SpanId) :
    s.placeable h j = (decide ((s.span j).service.link = .up) &&
      st.spans.any fun x => decide (x.span = j) && x.reserved) := by
  simp only [State.placeable, hst, State.linkUp, Stream.reservedOn]

theorem stream_of_named {s : State} {i : StreamId} {st : Stream} (h : s.named i = some st) :
    s.stream i.handle = some st := by
  unfold State.named at h
  split at h
  · exact h
  · cases h

/-- Settles O27: the read that fits, timed and untimed, and the read in a candidate's place. -/
theorem frameReadAcceptedWithItsKindAndDeadline : Obligations.FrameReadAcceptedWithItsKindAndDeadline := by
  intro n s rec rest st hh hok
  refine ⟨fun hroom hframes hpieces => ?_, ?_⟩
  · have hv : s.readChecks n rec = .pass st none := by
      rw [readChecks_of_readOk hok, depthAndPools_of_room hroom, if_pos ⟨hframes, hpieces⟩]
    refine ⟨fun d ht hlate => ?_, fun kind ht => exec_frameRead_untimed hh hv ht⟩
    rw [exec_frameRead_timed hh hv ht, if_neg]
    rintro ⟨hneg, hskip⟩
    rcases hlate with h | h
    · omega
    · simp [h] at hskip
  · intro later v f hfull hk he hl hf hframes hpieces h ok
    have hv : s.readChecks n rec = .pass st (some v) := by
      rw [readChecks_of_readOk hok, depthAndPools_of_candidate hfull hk he hl hf, if_pos ⟨hframes, hpieces⟩]
    have hany : s.anyPlaceable (recStream rec).handle st = st.spans.any ok := by
      unfold State.anyPlaceable
      congr 1
      funext e
      exact State.placeable_of_stream (stream_of_named hok.1) e.span
    rw [exec_frameRead_candidate hh hv (timing_of_scrubbing hk _), hany]
    refine ⟨fun hsome => ?_, fun hnone => ?_⟩
    · rw [if_pos (List.any_eq_true.2 hsome)]
    · rw [if_neg (by simpa using hnone), State.failRead_eq]

end Sys2Proof.Machine
end

section
/-! PROOFS. A span queue: the order of times, the two timers, entry and removal. -/

namespace Sys2Proof.Machine

open Host (Outcome)

/-! ## Differences of times -/

/-- Differences from one moment subtract where the result is within 2^47 (R27). -/
theorem timeDiff_eq_sub (a b now : Time) (hlo : -(2 ^ 47 : Int) ≤ timeDiff a now - timeDiff b now)
    (hhi : timeDiff a now - timeDiff b now < 2 ^ 47) : timeDiff a b = timeDiff a now - timeDiff b now := by
  have hab : a - b = (a - now) - (b - now) := (sub_sub_sub_cancel_right a b now).symm
  unfold timeDiff at *
  rw [hab, BitVec.toInt_sub]
  exact Int.bmod_eq_of_le (by simpa using hlo) (by simpa using hhi)

theorem timeDiff_bounds (a b : Time) : -(2 ^ 47 : Int) ≤ timeDiff a b ∧ timeDiff a b < 2 ^ 47 := by
  have hlo := BitVec.le_toInt (a - b)
  have hhi := BitVec.toInt_lt (x := a - b)
  exact ⟨by simpa [timeDiff] using hlo, by simpa [timeDiff] using hhi⟩

theorem timeDiff_self (a : Time) : timeDiff a a = 0 := by simp [timeDiff]

/-- Two times neither before nor at 2^47 from a moment are ordered as their differences from it. -/
theorem timeDiff_eq_sub_of_near {a b now : Time} {m : Int} (hm : m ≤ 2 ^ 46) (ha : -m < timeDiff a now ∧ timeDiff a now < m)
    (hb : -m < timeDiff b now ∧ timeDiff b now < m) : timeDiff a b = timeDiff a now - timeDiff b now :=
  timeDiff_eq_sub a b now (by omega) (by omega)

theorem timeDiff_eq_sub_of_ahead {a b now : Time} (ha : 0 ≤ timeDiff a now) (hb : 0 ≤ timeDiff b now) :
    timeDiff a b = timeDiff a now - timeDiff b now :=
  have := timeDiff_bounds a now
  have := timeDiff_bounds b now
  timeDiff_eq_sub a b now (by omega) (by omega)

/-- A time ahead of the time base has not been reached (R26). -/
theorem reached_eq_false_of_ahead {now t : Time} (h : 0 < timeDiff t now) : reached now t = false := by
  have h0 := timeDiff_self now
  have := timeDiff_bounds t now
  have hd : timeDiff now t = timeDiff now now - timeDiff t now := timeDiff_eq_sub now t now (by omega) (by omega)
  simp only [reached, decide_eq_false_iff_not]
  omega

/-! ## The earliest of a list -/

theorem earliest_eq_none_iff (l : List Time) : earliest l = none ↔ l = [] := by
  cases l <;> simp [earliest]

/-- Of times ahead of a moment, `earlier` is one of the two, and neither is before it. -/
theorem earlier_spec {now a b : Time} (ha : 0 ≤ timeDiff a now) (hb : 0 ≤ timeDiff b now) :
    (earlier a b = a ∨ earlier a b = b) ∧ timeDiff (earlier a b) now ≤ timeDiff a now ∧
      timeDiff (earlier a b) now ≤ timeDiff b now := by
  have hba := timeDiff_eq_sub_of_ahead hb ha
  unfold earlier
  split
  · exact ⟨.inr rfl, by omega, le_refl _⟩
  · exact ⟨.inl rfl, le_refl _, by omega⟩

theorem foldl_earlier_spec {now : Time} (l : List Time) (t : Time) (ht : 0 ≤ timeDiff t now)
    (hl : ∀ e ∈ l, 0 ≤ timeDiff e now) :
    l.foldl earlier t ∈ t :: l ∧ ∀ e ∈ t :: l, timeDiff (l.foldl earlier t) now ≤ timeDiff e now := by
  induction l generalizing t with
  | nil => simp
  | cons a r ih =>
    have ha : 0 ≤ timeDiff a now := hl a (by simp)
    obtain ⟨hone, hlet, hlea⟩ := earlier_spec ht ha
    have hahead : 0 ≤ timeDiff (earlier t a) now := by rcases hone with e | e <;> rw [e] <;> assumption
    obtain ⟨hmem, hmin⟩ := ih (earlier t a) hahead fun e he => hl e (List.mem_cons_of_mem _ he)
    have hfirst := hmin _ (List.mem_cons_self ..)
    rw [List.foldl_cons]
    refine ⟨?_, fun e he => ?_⟩
    · rcases List.mem_cons.1 hmem with e | e
      · rw [e]
        rcases hone with e' | e' <;> simp [e']
      · simp [e]
    · rcases List.mem_cons.1 he with rfl | he
      · exact hfirst.trans hlet
      · rcases List.mem_cons.1 he with rfl | he
        · exact hfirst.trans hlea
        · exact hmin e (List.mem_cons_of_mem _ he)

/-- The earliest of times ahead of a moment is one of them that no other precedes. -/
theorem earliest_spec {now : Time} {l : List Time} (hl : ∀ e ∈ l, 0 ≤ timeDiff e now) {d : Time}
    (h : earliest l = some d) : d ∈ l ∧ ∀ e ∈ l, timeDiff d now ≤ timeDiff e now := by
  cases l with
  | nil => cases h
  | cons t r =>
    cases h
    exact foldl_earlier_spec r t (hl t (by simp)) fun e he => hl e (List.mem_cons_of_mem _ he)

/-- The earliest of the times of a list that pass a test, which only times ahead do. -/
theorem earliest_filter_spec {now : Time} {ts : List Time} {test : Time → Bool}
    (ht : ∀ e, test e = true → 0 ≤ timeDiff e now) {d : Time} (h : earliest (ts.filter test) = some d) :
    (d ∈ ts ∧ test d = true) ∧ ∀ e ∈ ts, test e = true → timeDiff d now ≤ timeDiff e now := by
  obtain ⟨hmem, hmin⟩ := earliest_spec (fun e he => ht e (List.mem_filter.1 he).2) h
  exact ⟨List.mem_filter.1 hmem, fun e he hte => hmin e (List.mem_filter.2 ⟨he, hte⟩)⟩

/-! ## What the timers are armed for -/

theorem deadlineArm_spec {s : State} {j : SpanId} {d : Time} (h : s.deadlineArm j = some d) :
    d ∈ s.listDeadlines j ∧ 0 ≤ timeDiff d s.time ∧
      ∀ e ∈ s.listDeadlines j, 0 ≤ timeDiff e s.time → timeDiff d s.time ≤ timeDiff e s.time := by
  obtain ⟨⟨hmem, hpos⟩, hmin⟩ := earliest_filter_spec (now := s.time) (fun _ he => of_decide_eq_true he) h
  exact ⟨hmem, of_decide_eq_true hpos, fun e he hpos => hmin e he (decide_eq_true hpos)⟩

theorem deadlineArm_eq_none_iff (s : State) (j : SpanId) :
    s.deadlineArm j = none ↔ ∀ e ∈ s.listDeadlines j, timeDiff e s.time < 0 := by
  simp only [State.deadlineArm, earliest_eq_none_iff, List.filter_eq_nil_iff, decide_eq_true_eq, not_le]
  rfl

theorem windowArm_spec {s : State} {j : SpanId} {d : Time} (h : s.windowArm j = some d) :
    d ∈ s.crossings j ∧ 0 < timeDiff d s.time ∧
      ∀ e ∈ s.crossings j, 0 < timeDiff e s.time → timeDiff d s.time ≤ timeDiff e s.time := by
  obtain ⟨⟨hmem, hpos⟩, hmin⟩ := earliest_filter_spec (now := s.time) (fun _ he => (of_decide_eq_true he).le) h
  exact ⟨hmem, of_decide_eq_true hpos, fun e he hpos => hmin e he (decide_eq_true hpos)⟩

theorem windowArm_eq_none_iff (s : State) (j : SpanId) :
    s.windowArm j = none ↔ ∀ e ∈ s.crossings j, timeDiff e s.time ≤ 0 := by
  simp [State.windowArm, earliest_eq_none_iff]

theorem windowRearmed_of_owed {s : State} {j : SpanId} {t : Time} (hr : 0 ≤ timeDiff s.time t)
    (ht : t ∈ s.crossings j) : s.windowRearmed j (some t) = some t := by
  simp [State.windowRearmed, reached, hr, ht]

theorem windowRearmed_of_not_owed {s : State} {j : SpanId} {r : Option Time}
    (h : ∀ t, r = some t → timeDiff s.time t < 0 ∨ t ∉ s.crossings j) : s.windowRearmed j r = s.windowArm j := by
  cases r with
  | none => rfl
  | some t =>
    have hno : ¬ (reached s.time t = true ∧ t ∈ s.crossings j) := by
      rintro ⟨hr, ht⟩
      rcases h t rfl with h | h
      · simp [reached] at hr; omega
      · exact h ht
    simp only [State.windowRearmed, if_neg hno]

/-! ## Readings of a list that survive a change elsewhere -/

theorem State.listDeadlines_congr {s t : State} {j : SpanId}
    (hl : (t.span j).queue.deadlines = (s.span j).queue.deadlines)
    (hd : ∀ q ∈ (s.span j).queue.deadlines, t.deadlineOf q = s.deadlineOf q) : t.listDeadlines j = s.listDeadlines j := by
  unfold State.listDeadlines
  rw [hl]
  exact List.filterMap_congr hd

theorem State.deadlineArm_congr {s t : State} {j : SpanId} (hl : t.listDeadlines j = s.listDeadlines j)
    (ht : t.time = s.time) : t.deadlineArm j = s.deadlineArm j := by
  simp only [State.deadlineArm, hl, ht]

theorem State.crossings_congr {s t : State} {j : SpanId} (hl : t.listDeadlines j = s.listDeadlines j)
    (ha : (t.span j).arbiter = (s.span j).arbiter) : t.crossings j = s.crossings j := by
  simp only [State.crossings, hl, ha]

theorem State.windowRearmed_congr {s t : State} {j : SpanId} (hl : t.listDeadlines j = s.listDeadlines j)
    (ha : (t.span j).arbiter = (s.span j).arbiter) (ht : t.time = s.time) (r : Option Time) :
    t.windowRearmed j r = s.windowRearmed j r := by
  simp only [State.windowRearmed, State.windowArm, State.crossings_congr hl ha, ht]

/-- A window-opening timer re-armed twice stands as one re-armed once after both changes, where every crossing that the
second change adds was one before it. -/
theorem State.windowRearmed_twice {s t : State} {j : SpanId} (ht : t.time = s.time)
    (hsub : ∀ x ∈ t.crossings j, x ∈ s.crossings j) (r : Option Time) :
    t.windowRearmed j (s.windowRearmed j r) = t.windowRearmed j r := by
  by_cases howed : ∃ x, r = some x ∧ 0 ≤ timeDiff s.time x ∧ x ∈ s.crossings j
  · obtain ⟨x, rfl, hr, hx⟩ := howed
    rw [windowRearmed_of_owed hr hx]
  · have hs : s.windowRearmed j r = s.windowArm j := windowRearmed_of_not_owed fun x hx =>
      or_iff_not_imp_left.2 fun hneg hm => howed ⟨x, hx, by omega, hm⟩
    have ht' : t.windowRearmed j r = t.windowArm j := windowRearmed_of_not_owed fun x hx =>
      or_iff_not_imp_left.2 fun hneg hm => howed ⟨x, hx, by rw [← ht]; omega, hsub x hm⟩
    rw [hs, ht']
    refine windowRearmed_of_not_owed fun x hx => .inl ?_
    have hahead := (windowArm_spec hx).2.1
    have hnot := reached_eq_false_of_ahead hahead
    rw [ht]
    simpa [reached] using hnot

/-! ## Deadlines of pieces -/

theorem State.deadlineOf_eq_some_iff (s : State) (p : Nat) (d : Time) : s.deadlineOf p = some d ↔
    ∃ pc f, s.pieces.get p = some pc ∧ s.frames.get pc.frame = some f ∧ f.deadline = some d := by
  unfold State.deadlineOf
  split
  · simp_all
  · split <;> simp_all

/-- A piece in use has its frame's deadline. -/
theorem State.deadlineOf_of_get {s : State} {p : Nat} {pc : Piece} (h : s.pieces.get p = some pc) :
    s.deadlineOf p = (s.frames.get pc.frame).bind Frame.deadline := by
  simp only [State.deadlineOf, h]
  cases s.frames.get pc.frame <;> rfl

theorem State.deadlineOf_modPiece (s : State) (p q : Nat) (g : Piece → Piece) (hg : ∀ pc, (g pc).frame = pc.frame) :
    (s.modPiece p g).deadlineOf q = s.deadlineOf q := by
  by_cases h : q = p
  · subst h
    simp only [State.deadlineOf, State.modPiece_pieces, Pool.get_modify, if_true, State.modPiece_frames]
    cases s.pieces.get q <;> simp [hg]
  · simp [State.deadlineOf, Pool.get_modify, h]

theorem State.newerThan_iff (s : State) (a : ArrivalSeq) (q : Nat) : s.newerThan a q = true ↔
    ∃ pc b, s.pieces.get q = some pc ∧ pc.seq = some b ∧ (a - b).toInt < 0 := by
  unfold State.newerThan
  split
  · simp_all
  · split <;> simp_all [olderSeq]

theorem State.standsAfter_iff (s : State) (d : Time) (a : ArrivalSeq) (q : Nat) : s.standsAfter d a q = true ↔
    ∃ e, s.deadlineOf q = some e ∧ (0 < timeDiff e d ∨ (e = d ∧ s.newerThan a q = true)) := by
  unfold State.standsAfter
  split <;> simp_all

theorem State.newerThan_congr {s t : State} {q : Nat} (h : t.pieces.get q = s.pieces.get q) (a : ArrivalSeq) :
    t.newerThan a q = s.newerThan a q := by
  simp only [State.newerThan, h]

theorem State.standsAfter_congr {s t : State} {q : Nat} (hd : t.deadlineOf q = s.deadlineOf q)
    (h : t.pieces.get q = s.pieces.get q) (d : Time) (a : ArrivalSeq) : t.standsAfter d a q = s.standsAfter d a q := by
  simp only [State.standsAfter, hd, State.newerThan_congr h]

/-! ## Insertion in a list -/

theorem insertBefore_congr {after after' : Nat → Bool} {p : Nat} {l : List Nat} (h : ∀ q ∈ l, after q = after' q) :
    insertBefore after p l = insertBefore after' p l := by
  induction l with
  | nil => rfl
  | cons q r ih =>
    simp only [insertBefore, h q (by simp), ih fun x hx => h x (List.mem_cons_of_mem _ hx)]

/-- An entered piece stands before the first piece that stands after it. -/
theorem insertBefore_split (after : Nat → Bool) (p : Nat) (l : List Nat) : ∃ front back,
    insertBefore after p l = front ++ p :: back ∧ l = front ++ back ∧ (∀ q ∈ front, after q = false) ∧
      ∀ q r, back = q :: r → after q = true := by
  induction l with
  | nil => exact ⟨[], [], rfl, rfl, by simp, by simp⟩
  | cons q r ih =>
    simp only [insertBefore]
    split
    · rename_i h
      refine ⟨[], q :: r, rfl, rfl, by simp, fun x y e => ?_⟩
      cases e
      exact h
    · rename_i h
      obtain ⟨front, back, hi, hl, hf, hb⟩ := ih
      exact ⟨q :: front, back, by simp [hi], by simp [hl], by simpa [Bool.not_eq_true] using And.intro (Bool.eq_false_iff.2 h) hf, hb⟩

theorem insertBefore_perm (after : Nat → Bool) (p : Nat) (l : List Nat) : (insertBefore after p l).Perm (p :: l) := by
  obtain ⟨front, back, hi, hl, -, -⟩ := insertBefore_split after p l
  rw [hi, hl]
  exact List.perm_middle

theorem mem_insertBefore {after : Nat → Bool} {p q : Nat} {l : List Nat} :
    q ∈ insertBefore after p l ↔ q = p ∨ q ∈ l := by
  rw [(insertBefore_perm after p l).mem_iff, List.mem_cons]

theorem sublist_insertBefore (after : Nat → Bool) (p : Nat) (l : List Nat) : l.Sublist (insertBefore after p l) := by
  obtain ⟨front, back, hi, hl, -, -⟩ := insertBefore_split after p l
  rw [hi, hl]
  exact List.Sublist.append_left (List.sublist_cons_self p back) front

/-! ## Re-arming, entry and removal -/

theorem State.modQueue_modQueue (s : State) (j : SpanId) (f g : SpanQueue → SpanQueue) :
    (s.modQueue j f).modQueue j g = s.modQueue j fun q => g (f q) := State.modSpan_modSpan ..

theorem State.modQueue_congr {s : State} {j : SpanId} {f g : SpanQueue → SpanQueue}
    (h : f (s.span j).queue = g (s.span j).queue) : s.modQueue j f = s.modQueue j g :=
  State.modSpan_congr (by rw [h])

/-- Both timers armed anew are one change of the queue (R43, R96). -/
theorem State.rearm_eq (s : State) (j : SpanId) : s.rearm j = s.modQueue j fun q => { q with
    deadlineTimer := s.deadlineArm j, windowTimer := s.windowRearmed j q.windowTimer } := by
  have hl : (s.rearmDeadline j).listDeadlines j = s.listDeadlines j :=
    State.listDeadlines_congr (by simp [State.rearmDeadline]) fun _ _ => rfl
  have hw : (s.rearmDeadline j).windowRearmed j = s.windowRearmed j :=
    funext (State.windowRearmed_congr hl (by simp) (by simp))
  rw [State.rearm, State.rearmWindow, hw, State.rearmDeadline, State.modQueue_modQueue]

/-- A queue whose deadline list is changed, with both timers armed anew after it. -/
theorem State.rearm_relisted (s : State) (j : SpanId) (l : List Nat) :
    ((s.modQueue j fun q => { q with deadlines := l }).rearm j) = s.modQueue j fun q => {
      deadlines := l, background := q.background,
      deadlineTimer := (s.modQueue j fun q => { q with deadlines := l }).deadlineArm j,
      windowTimer := (s.modQueue j fun q => { q with deadlines := l }).windowRearmed j q.windowTimer } := by
  rw [State.rearm_eq, State.modQueue_modQueue]

/-- The timers of a state with the same deadline list, deadlines, bounds and time are armed alike. -/
theorem State.armed_congr {s t : State} {j : SpanId} (hl : (t.span j).queue.deadlines = (s.span j).queue.deadlines)
    (hd : ∀ q ∈ (s.span j).queue.deadlines, t.deadlineOf q = s.deadlineOf q)
    (ha : (t.span j).arbiter = (s.span j).arbiter) (ht : t.time = s.time) :
    t.deadlineArm j = s.deadlineArm j ∧ t.windowRearmed j = s.windowRearmed j := by
  have h := State.listDeadlines_congr hl hd
  exact ⟨State.deadlineArm_congr h ht, funext (State.windowRearmed_congr h ha ht)⟩

/-- The queue of span `j` after its deadline list has become `l` and both timers have been armed anew (R43, R96). -/
def State.relistedQueue (s : State) (j : SpanId) (l : List Nat) : SpanQueue where
  deadlines := l
  background := (s.span j).queue.background
  deadlineTimer := (s.modQueue j fun q => { q with deadlines := l }).deadlineArm j
  windowTimer := (s.modQueue j fun q => { q with deadlines := l }).windowRearmed j (s.span j).queue.windowTimer

/-- The timers of a relisted queue are those that any state with that list, and with the same deadlines, bounds and time,
arms. -/
theorem State.relistedQueue_eq {s t : State} {j : SpanId} {l : List Nat} (hl : (t.span j).queue.deadlines = l)
    (hd : ∀ q ∈ l, t.deadlineOf q = s.deadlineOf q) (ha : (t.span j).arbiter = (s.span j).arbiter)
    (ht : t.time = s.time) : s.relistedQueue j l = {
      deadlines := l, background := (s.span j).queue.background, deadlineTimer := t.deadlineArm j,
      windowTimer := t.windowRearmed j (s.span j).queue.windowTimer } := by
  obtain ⟨hdl, hwin⟩ := State.armed_congr (s := s.modQueue j fun q => { q with deadlines := l }) (t := t) (j := j)
    (by simpa using hl) (fun q hq => hd q (by simpa using hq)) (by simpa using ha) ht
  rw [State.relistedQueue, hdl, hwin]

/-- A piece made QUEUED with the next arrival sequence (R58). -/
def State.stamped (s : State) (p : Nat) : State :=
  { s.modPiece p fun pc => { pc with state := .queued, seq := some s.arrival } with arrival := s.arrival + 1 }

theorem State.deadlineOf_stamped (s : State) (p q : Nat) : (s.stamped p).deadlineOf q = s.deadlineOf q :=
  State.deadlineOf_modPiece s p q _ fun _ => rfl

theorem State.pieces_stamped_ne (s : State) {p q : Nat} (h : q ≠ p) :
    (s.stamped p).pieces.get q = s.pieces.get q := by
  simp [State.stamped, Pool.get_modify, h]

/-- The queue of a piece's span after the piece has entered it (R84, R85). -/
def State.enteredQueue (s : State) (p : Nat) (j : SpanId) : SpanQueue :=
  match s.deadlineOf p with
  | some d =>
    (s.stamped p).relistedQueue j (insertBefore ((s.stamped p).standsAfter d s.arrival) p (s.span j).queue.deadlines)
  | none =>
    { (s.span j).queue with background := insertBefore ((s.stamped p).newerThan s.arrival) p (s.span j).queue.background }

theorem State.enqueue_eq_stamped (s : State) (p : Nat) (pc : Piece) : s.enqueue p pc =
    match (s.stamped p).deadlineOf p with
    | some d => (((s.stamped p).modQueue pc.span fun q =>
        { q with deadlines := insertBefore ((s.stamped p).standsAfter d s.arrival) p q.deadlines }).rearm pc.span).post
          (.select pc.span)
    | none => ((s.stamped p).modQueue pc.span fun q =>
        { q with background := insertBefore ((s.stamped p).newerThan s.arrival) p q.background }).post
          (.select pc.span) := rfl

/-- An entry changes the piece's record, the arrival counter, its span's queue and the reports, and nothing else. -/
theorem State.enqueue_eq (s : State) (p : Nat) (pc : Piece) : s.enqueue p pc = { s with
    pieces := s.pieces.modify p fun pc => { pc with state := .queued, seq := some s.arrival },
    arrival := s.arrival + 1, reports := s.reports ++ [.select pc.span],
    spans := s.spans.set pc.span { s.span pc.span with queue := s.enteredQueue p pc.span } } := by
  rw [State.enqueue_eq_stamped, State.deadlineOf_stamped, State.enteredQueue]
  cases s.deadlineOf p with
  | none => rfl
  | some d =>
    have relisted := State.rearm_relisted (s.stamped p) pc.span
      (insertBefore ((s.stamped p).standsAfter d s.arrival) p (s.span pc.span).queue.deadlines)
    rw [← State.modQueue_congr (f := fun q => { q with
      deadlines := insertBefore ((s.stamped p).standsAfter d s.arrival) p q.deadlines }) rfl] at relisted
    simp only [relisted]
    rfl

theorem State.span_enqueue (s : State) (p : Nat) (pc : Piece) (k : SpanId) : (s.enqueue p pc).span k =
    if k = pc.span then { s.span k with queue := s.enteredQueue p k } else s.span k := by
  rw [State.enqueue_eq]
  simp only [State.span, Fin.getElem_fin, Vector.getElem_set]
  by_cases h : k = pc.span
  · subst h; simp
  · simp [h, Fin.val_ne_of_ne (Ne.symm h)]

theorem State.enqueue_deadlineOf (s : State) (p q : Nat) (pc : Piece) :
    (s.enqueue p pc).deadlineOf q = s.deadlineOf q := by
  rw [State.enqueue_eq]
  exact State.deadlineOf_stamped s p q

/-- The queue that a piece with a deadline enters: its timers are armed for what stands after the entry. -/
theorem State.enteredQueue_timed {s : State} {p : Nat} {pc : Piece} {d : Time} (hd : s.deadlineOf p = some d)
    (hp : p ∉ (s.span pc.span).queue.deadlines) : s.enteredQueue p pc.span = {
      deadlines := insertBefore (s.standsAfter d s.arrival) p (s.span pc.span).queue.deadlines,
      background := (s.span pc.span).queue.background, deadlineTimer := (s.enqueue p pc).deadlineArm pc.span,
      windowTimer := (s.enqueue p pc).windowRearmed pc.span (s.span pc.span).queue.windowTimer } := by
  have hin : insertBefore ((s.stamped p).standsAfter d s.arrival) p (s.span pc.span).queue.deadlines =
      insertBefore (s.standsAfter d s.arrival) p (s.span pc.span).queue.deadlines :=
    insertBefore_congr fun q hq => State.standsAfter_congr (State.deadlineOf_stamped s p q)
      (State.pieces_stamped_ne s fun e => hp (e ▸ hq)) _ _
  have hq : s.enteredQueue p pc.span = (s.stamped p).relistedQueue pc.span
      (insertBefore (s.standsAfter d s.arrival) p (s.span pc.span).queue.deadlines) := by
    simp only [State.enteredQueue, hd, hin]
  rw [hq]
  exact State.relistedQueue_eq (by simp [State.span_enqueue, hq, State.relistedQueue])
    (fun q _ => by rw [State.enqueue_deadlineOf, State.deadlineOf_stamped]) (by simp; rfl) (by simp; rfl)

theorem State.enteredQueue_untimed {s : State} {p : Nat} {j : SpanId} (hd : s.deadlineOf p = none)
    (hp : p ∉ (s.span j).queue.background) : s.enteredQueue p j = { (s.span j).queue with
      background := insertBefore (s.newerThan s.arrival) p (s.span j).queue.background } := by
  have hin := insertBefore_congr (p := p) fun q (hq : q ∈ (s.span j).queue.background) =>
    State.newerThan_congr (State.pieces_stamped_ne s (fun e => hp (e ▸ hq) : q ≠ p)) s.arrival
  simp only [State.enteredQueue, hd, hin]

/-! ## Removal -/

/-- A removal changes its span's queue and nothing else (R86). -/
theorem State.unlist_eq (s : State) (j : SpanId) (p : Nat) : s.unlist j p = s.modQueue j fun q =>
    if p ∈ q.deadlines then s.relistedQueue j (q.deadlines.erase p) else { q with background := q.background.erase p } := by
  unfold State.unlist
  split
  · rename_i h
    rw [State.modQueue_congr (g := fun q => { q with deadlines := (s.span j).queue.deadlines.erase p }) rfl,
      State.rearm_relisted]
    exact State.modQueue_congr (by simp [h, State.relistedQueue])
  · rename_i h
    exact State.modQueue_congr (by simp [h])

theorem State.unlist_deadlineOf (s : State) (j : SpanId) (p q : Nat) : (s.unlist j p).deadlineOf q = s.deadlineOf q := by
  rw [State.unlist_eq]
  rfl

theorem State.unlist_queue_listed {s : State} {j : SpanId} {p : Nat} (h : p ∈ (s.span j).queue.deadlines) :
    ((s.unlist j p).span j).queue = {
      deadlines := (s.span j).queue.deadlines.erase p, background := (s.span j).queue.background,
      deadlineTimer := (s.unlist j p).deadlineArm j,
      windowTimer := (s.unlist j p).windowRearmed j (s.span j).queue.windowTimer } := by
  have hq : ((s.unlist j p).span j).queue = s.relistedQueue j ((s.span j).queue.deadlines.erase p) := by
    rw [State.unlist_eq]
    simp [h]
  rw [hq]
  exact State.relistedQueue_eq (by rw [hq]; rfl) (fun q _ => State.unlist_deadlineOf s j p q) (by simp) (by simp)

theorem State.unlist_queue_unlisted {s : State} {j : SpanId} {p : Nat} (h : p ∉ (s.span j).queue.deadlines) :
    ((s.unlist j p).span j).queue = { (s.span j).queue with background := (s.span j).queue.background.erase p } := by
  rw [State.unlist_eq]
  simp [h]

theorem State.unlist_span_ne (s : State) {j k : SpanId} (h : k ≠ j) (p : Nat) : (s.unlist j p).span k = s.span k := by
  rw [State.unlist_eq, State.span_modQueue, if_neg h]

end Sys2Proof.Machine
end

section
/-! PROOFS. The queue's timers and their expiries; a piece's entry, its leaving and its withdrawal. -/

namespace Sys2Proof.Machine

open Host (Outcome)

/-! ## The expiries -/

theorem exec_deadlineExpiry {s : State} {j : SpanId} {d : Time} (hd : (s.span j).queue.deadlineTimer = some d)
    (hp : 0 < timeDiff s.time d) : exec (.deadlineExpiry j) s =
      .next ((s.postAll ((s.dueBy j d).filterMap (s.lateReportOf j))).rearmDeadline j) := by
  change execDeadlineExpiry j s = _
  simp [execDeadlineExpiry, hd, passed, hp]

theorem exec_windowOpeningExpiry {s : State} {j : SpanId} {t : Time} (ht : (s.span j).queue.windowTimer = some t)
    (hr : 0 ≤ timeDiff s.time t) : exec (.windowOpeningExpiry j) s =
      .next ((s.modQueue j fun q => { q with windowTimer := s.windowArm j }).post (.select j)) := by
  change execWindowOpeningExpiry j s = _
  simp [execWindowOpeningExpiry, ht, reached, hr]

/-- The frame that a piece of the deadline list is reported late by, at the expiry for deadline `d` (R43). -/
theorem lateReportOf_eq (s : State) (j : SpanId) (d : Time) (p : Nat) :
    (if (match s.deadlineOf p with
      | none => false
      | some e => decide (timeDiff e d ≤ 0)) = true then s.lateReportOf j p else none) =
      match s.pieces.get p with
      | none => none
      | some pc => match s.frames.get pc.frame with
        | none => none
        | some f => match f.deadline with
          | none => none
          | some e => if timeDiff e d ≤ 0 then some (.late j {
              record := pc.frame, stream := f.stream, number := f.number, accepted := f.accepted }) else none := by
  cases hpc : s.pieces.get p with
  | none => simp [State.deadlineOf, hpc]
  | some pc =>
    cases hf : s.frames.get pc.frame with
    | none => simp [State.deadlineOf, hpc, hf]
    | some f => cases hd : f.deadline <;> simp [State.deadlineOf, State.lateReportOf, hpc, hf, hd]

theorem dueReports_eq (s : State) (j : SpanId) (d : Time) : (s.dueBy j d).filterMap (s.lateReportOf j) =
    (s.span j).queue.deadlines.filterMap fun p =>
      match s.pieces.get p with
      | none => none
      | some pc => match s.frames.get pc.frame with
        | none => none
        | some f => match f.deadline with
          | none => none
          | some e => if timeDiff e d ≤ 0 then some (.late j {
              record := pc.frame, stream := f.stream, number := f.number, accepted := f.accepted }) else none := by
  rw [State.dueBy, List.filterMap_filter]
  exact List.filterMap_congr fun p _ => lateReportOf_eq s j d p

/-! ## An expiry owed through a change of the list -/

theorem mem_crossings {s : State} {j : SpanId} {t : Time} : t ∈ s.crossings j ↔
    ∃ q ∈ (s.span j).queue.deadlines, ∃ d, s.deadlineOf q = some d ∧
      (t = d - BitVec.ofNat 48 (s.span j).arbiter.lookahead ∨ t = d - BitVec.ofNat 48 (s.span j).arbiter.due) := by
  simp only [State.crossings, State.listDeadlines, List.mem_flatMap, List.mem_filterMap, List.mem_cons, List.not_mem_nil,
    or_false]
  constructor
  · rintro ⟨d, ⟨q, hq, hd⟩, ht⟩
    exact ⟨q, hq, d, hd, ht⟩
  · rintro ⟨q, hq, d, hd, ht⟩
    exact ⟨d, ⟨q, hq, hd⟩, ht⟩

/-- A window-opening timer whose time has been reached keeps it while a piece of the new list crosses at that time. -/
theorem relistedQueue_windowTimer_owed {s : State} {j : SpanId} {l : List Nat} {t : Time}
    (ht : (s.span j).queue.windowTimer = some t) (hr : 0 ≤ timeDiff s.time t)
    (hc : ∃ q ∈ l, ∃ d, s.deadlineOf q = some d ∧ (t = d - BitVec.ofNat 48 (s.span j).arbiter.lookahead ∨
      t = d - BitVec.ofNat 48 (s.span j).arbiter.due)) : (s.relistedQueue j l).windowTimer = some t := by
  have hin : t ∈ (s.modQueue j fun q => { q with deadlines := l }).crossings j := by
    obtain ⟨q, hq, d, hd, ht⟩ := hc
    exact mem_crossings.2 ⟨q, by simpa using hq, d, hd, by simpa using ht⟩
  simp only [State.relistedQueue, ht]
  exact windowRearmed_of_owed hr hin

/-- Settles O35: what the timers are armed for, their expiries, and the expiry owed through an entry and a leaving. -/
theorem queueTimersArmForTheEarliestAndExpire : Obligations.QueueTimersArmForTheEarliestAndExpire := by
  refine ⟨fun s j => ?_, fun s j d hd hp => ?_, fun s j t ht hr => ?_, fun s j p pc t ht hr => ?_⟩
  · exact ⟨fun d h => deadlineArm_spec h, deadlineArm_eq_none_iff s j, fun d h => windowArm_spec h,
      windowArm_eq_none_iff s j, fun t hr ht => windowRearmed_of_owed hr ht, fun r h => windowRearmed_of_not_owed h⟩
  · rw [exec_deadlineExpiry hd hp, dueReports_eq]
    rfl
  · rw [exec_windowOpeningExpiry ht hr]
    rfl
  · intro crosses
    constructor
    · rintro - rfl ⟨q, hq, hc⟩
      have htimer : ((s.enqueue p pc).span pc.span).queue.windowTimer = some t := by
        simp only [State.span_enqueue, if_true]
        unfold State.enteredQueue
        split
        · refine relistedQueue_windowTimer_owed ht hr ⟨q, mem_insertBefore.2 (.inr hq), ?_⟩
          rw [State.deadlineOf_stamped]
          exact hc
        · exact ht
      refine ⟨_, exec_windowOpeningExpiry htimer (by simpa using hr), ?_⟩
      simp [State.enqueue_eq]
    · intro hc
      have htimer : ((s.unlist j p).span j).queue.windowTimer = some t := by
        simp only [State.unlist_eq, State.modQueue_queue_self]
        split
        · exact relistedQueue_windowTimer_owed ht hr hc
        · exact ht
      exact ⟨_, exec_windowOpeningExpiry htimer (by simpa using hr), by simp⟩

/-! ## Withdrawal of one piece -/

/-- The Frame Table without piece `p`, its outcome at its position (R60). -/
theorem State.recordOutcome_of_get {s : State} {p : Nat} {pc : Piece} (h : s.pieces.get p = some pc) (o : PieceOutcome) :
    s.recordOutcome p o = { s with
      pieces := s.pieces.free p,
      frames := s.frames.modify pc.frame fun f => { f with positions := f.positions.set pc.position (.finished o) } } := by
  simp only [State.recordOutcome, h]
  rfl

theorem State.waits_of_get {s : State} {p : Nat} {pc : Piece} (h : s.pieces.get p = some pc) :
    s.waits p = decide (pc.state ≠ .inService) := by
  simp [State.waits, h]

theorem State.withdrawPiece_of_waits {s : State} {p : Nat} {pc : Piece} (h : s.pieces.get p = some pc)
    (hw : pc.state ≠ .inService) (o : PieceOutcome) : State.withdrawPiece o s p =
      (if pc.state = .queued then (s.unlist pc.span p).post (.select pc.span) else s).recordOutcome p o := by
  simp [State.withdrawPiece, State.waits_of_get h, h, hw]

theorem State.withdrawPiece_of_inService {s : State} {p : Nat} (hw : s.waits p = false) (o : PieceOutcome) :
    State.withdrawPiece o s p = s := by
  simp [State.withdrawPiece, hw]

/-! ## The order of the deadline list -/

/-- The list of pieces stands earliest deadline first, as seen from a moment. -/
def State.earliestFirst (s : State) (l : List Nat) : Prop :=
  l.Pairwise fun q r => ∀ e g, s.deadlineOf q = some e → s.deadlineOf r = some g → timeDiff e s.time ≤ timeDiff g s.time

/-- A time within 2^46 µs of the time base. -/
def State.near (s : State) (x : Time) : Prop := -(2 ^ 46 : Int) < timeDiff x s.time ∧ timeDiff x s.time < 2 ^ 46

section

variable {s : State} {d : Time} (hd : s.near d) {a : ArrivalSeq}
include hd

theorem deadline_le_of_not_standsAfter {q : Nat} {e : Time} (he : s.deadlineOf q = some e) (hn : s.near e)
    (h : s.standsAfter d a q = false) : timeDiff e s.time ≤ timeDiff d s.time := by
  have hdiff := timeDiff_eq_sub_of_near (le_refl _) hn hd
  have hnot : ¬ 0 < timeDiff e d := fun hlt =>
    absurd ((s.standsAfter_iff d a q).2 ⟨e, he, .inl hlt⟩) (by simp [h])
  omega

theorem le_deadline_of_standsAfter {q : Nat} {e : Time} (he : s.deadlineOf q = some e) (hn : s.near e)
    (h : s.standsAfter d a q = true) : timeDiff d s.time ≤ timeDiff e s.time := by
  obtain ⟨e', he', hlt | ⟨rfl, -⟩⟩ := (s.standsAfter_iff d a q).1 h
  · have hdiff := timeDiff_eq_sub_of_near (le_refl _) hn hd
    rw [he] at he'
    cases he'
    omega
  · rw [he] at he'
    cases he'
    exact le_refl _

variable {l front back : List Nat} (hnear : ∀ q ∈ front ++ back, ∃ e, s.deadlineOf q = some e ∧ s.near e)
  (hord : s.earliestFirst (front ++ back)) (hback : ∀ q r, back = q :: r → s.standsAfter d a q = true)
include hnear hord hback

/-- Every piece behind the place of entry has a deadline no earlier. -/
theorem le_deadline_of_mem_back {q : Nat} (hq : q ∈ back) {e : Time} (he : s.deadlineOf q = some e) :
    timeDiff d s.time ≤ timeDiff e s.time := by
  cases back with
  | nil => cases hq
  | cons b r =>
    obtain ⟨e₀, he₀, hn₀⟩ := hnear b (by simp)
    have hfirst := le_deadline_of_standsAfter hd he₀ hn₀ (hback b r rfl)
    rcases List.mem_cons.1 hq with rfl | hr
    · rw [he] at he₀
      cases he₀
      exact hfirst
    · have hrest := (List.pairwise_cons.1 (List.pairwise_append.1 hord).2.1).1 q hr e₀ e he₀ he
      exact hfirst.trans hrest

theorem earliestFirst_insert (hfront : ∀ q ∈ front, s.standsAfter d a q = false) {p : Nat}
    (hp : s.deadlineOf p = some d) : s.earliestFirst (front ++ p :: back) := by
  obtain ⟨hf, hb, hfb⟩ := List.pairwise_append.1 hord
  refine List.pairwise_append.2 ⟨hf, List.pairwise_cons.2 ⟨fun q hq e g he hg => ?_, hb⟩, fun q hq r hr e g he hg => ?_⟩
  · rw [hp] at he
    cases he
    exact le_deadline_of_mem_back hd hnear hord hback hq hg
  · rcases List.mem_cons.1 hr with rfl | hr
    · rw [hp] at hg
      cases hg
      obtain ⟨e', he', hn⟩ := hnear q (by simp [hq])
      rw [he] at he'
      cases he'
      exact deadline_le_of_not_standsAfter hd he hn (hfront q hq)
    · exact hfb q hq r hr e g he hg

/-- Where no piece of the same deadline is newer, every piece of it stands in front of the place of entry (R85). -/
theorem mem_front_of_same_deadline (hold : ∀ q ∈ front ++ back, s.deadlineOf q = some d → s.newerThan a q = false)
    {q : Nat} (hq : q ∈ front ++ back) (hqd : s.deadlineOf q = some d) : q ∈ front := by
  rcases List.mem_append.1 hq with hf | hb
  · exact hf
  · cases back with
    | nil => cases hb
    | cons b r =>
      obtain ⟨e, he, hlt | ⟨rfl, hnew⟩⟩ := (s.standsAfter_iff d a b).1 (hback b r rfl)
      · obtain ⟨e', he', hn⟩ := hnear b (by simp)
        rw [he] at he'
        cases he'
        have hdiff := timeDiff_eq_sub_of_near (le_refl _) hn hd
        rcases List.mem_cons.1 hb with rfl | hr
        · rw [he] at hqd
          cases hqd
          rw [timeDiff_self] at hlt
          omega
        · have := (List.pairwise_cons.1 (List.pairwise_append.1 hord).2.1).1 q hr e d he hqd
          omega
      · rw [hold b (by simp) he] at hnew
        cases hnew

end

/-- Settles O39: an entry, the order it keeps, a leaving, and a withdrawal. -/
theorem piecesEnterAndLeaveTheirQueueInOrder : Obligations.PiecesEnterAndLeaveTheirQueueInOrder := by
  refine ⟨fun s p pc hpc hp => ?_, fun s p d a q => ?_, fun s j p d a => ?_, fun s j p => ?_, fun s o p pc hpc => ?_⟩
  · intro t q
    obtain ⟨hpd, hpb⟩ := not_or.1 (mt List.mem_append.2 hp)
    have hq : (t.span pc.span).queue = s.enteredQueue p pc.span := by simp [t, State.span_enqueue]
    refine ⟨?_, fun d hd => ?_, fun hd => ?_⟩
    · rw [hq]
      exact State.enqueue_eq s p pc
    · rw [hq]
      exact State.enteredQueue_timed hd hpd
    · rw [hq]
      exact State.enteredQueue_untimed hd hpb
  · exact ⟨s.standsAfter_iff d a q, s.newerThan_iff a q, s.deadlineOf_eq_some_iff p d⟩
  · intro l near hp hd hnear ordered hord
    obtain ⟨front, back, hi, hl, hfront, hback⟩ := insertBefore_split (s.standsAfter d a) p l
    rw [hl] at hnear hord
    refine ⟨?_, insertBefore_perm .., sublist_insertBefore .., fun hold => ⟨front, back, hi, fun q hq hqd => ?_⟩⟩
    · rw [hi]
      exact earliestFirst_insert hd hnear hord hback hfront hp
    · rw [hl] at hold hq
      exact mem_front_of_same_deadline hd hnear hord hback hold hq hqd
  · intro t q
    refine ⟨?_, fun h => State.unlist_queue_listed h, fun h => State.unlist_queue_unlisted h⟩
    have ht : t = _ := State.unlist_eq s j p
    rw [ht]
    simp only [State.modQueue_queue_self]
    rfl
  · intro gone
    refine ⟨fun hk => ?_, fun hk => ?_, fun hk => ?_⟩
    · rw [State.withdrawPiece_of_waits hpc (by simp [hk]), if_neg (by simp [hk]), State.recordOutcome_of_get hpc]
    · have hpc' : ((s.unlist pc.span p).post (.select pc.span)).pieces.get p = some pc := by simpa using hpc
      rw [State.withdrawPiece_of_waits hpc (by simp [hk]), if_pos hk, State.recordOutcome_of_get hpc']
      simp [gone, State.post]
    · exact State.withdrawPiece_of_inService (by simp [State.waits_of_get hpc, hk]) o

end Sys2Proof.Machine
end

section
/-! PROOFS. A piece's outcome: how it is recorded, and how its frame finishes. -/

namespace Sys2Proof.Machine

/-! ## Pools: changes that do the same -/

theorem Pool.modify_congr {α : Type} {p : Pool α} {i : Nat} {f g : α → α} (h : ∀ v, Pool.get p i = some v → f v = g v) :
    Pool.modify p i f = Pool.modify p i g := by
  induction p with
  | nil => rfl
  | cons x r ih =>
    obtain ⟨k, w⟩ := x
    simp only [Pool.modify]
    split
    · rename_i hk
      rw [h w (by simp [Pool.get, hk])]
    · rename_i hk
      rw [ih fun v hv => h v (by simpa [Pool.get, hk] using hv)]

theorem Pool.modify_modify {α : Type} (p : Pool α) (i : Nat) (f g : α → α) :
    Pool.modify (Pool.modify p i f) i g = Pool.modify p i fun v => g (f v) := by
  induction p with
  | nil => rfl
  | cons x r ih =>
    obtain ⟨k, w⟩ := x
    simp only [Pool.modify]
    split <;> rename_i hk <;> simp [Pool.modify, hk, ih]

theorem Pool.modify_id {α : Type} {p : Pool α} {i : Nat} {f : α → α} (h : ∀ v, Pool.get p i = some v → f v = v) :
    Pool.modify p i f = p := by
  induction p with
  | nil => rfl
  | cons x r ih =>
    obtain ⟨k, w⟩ := x
    simp only [Pool.modify]
    split
    · rename_i hk
      rw [h w (by simp [Pool.get, hk])]
    · rename_i hk
      rw [ih fun v hv => h v (by simpa [Pool.get, hk] using hv)]

/-! ## The finish of a frame -/

/-- The outcomes of a FRAME_DONE are a count, the codes and absent slots (R179). -/
theorem frameDoneBody_eq (i : StreamId) (c : Cookie) (number : Nat) (kind : FrameKind) (late : Bool)
    (lateness : Option Int) (l : List PieceOutcome) : frameDoneBody i c number (some kind) late lateness l =
    [fNat (i.handle.toNat + 256 * i.gen.toNat), fNat c.toNat, fNat number, fNat kind.code, fBool late,
      fOpt fInt lateness] ++ eightFields (l.map PieceOutcome.code) := by
  have hflat : (l.map fun o => [fNat o.code]).flatten = (l.map PieceOutcome.code).map fNat := by
    induction l with
    | nil => rfl
    | cons o r ih => simp [ih]
  simp [frameDoneBody, fList, eightFields, hflat, fStreamId, fOpt]

/-- A stream's counters advanced by a status, counter by counter (R65). -/
theorem Stream.count_eq (st : Stream) (status : FrameStatus) (late : Bool) :
    let up (c : Bool) (v : Nat) := if c = true ∧ v < 4294967295 then v + 1 else v
    st.count status late = { st with
      framesOk := up (decide (status = .ok)) st.framesOk,
      framesLate := up (decide (status = .ok) && late) st.framesLate,
      framesSkipped := up (decide (status = .lateSkipped)) st.framesSkipped,
      framesFailed := up (decide (status = .failed) || decide (status = .partialOk)) st.framesFailed } := by
  intro up
  have counted (v : Nat) : up true v = advance Config.counterTop v := by
    unfold advance Config.counterTop
    exact if_congr (by simp) rfl rfl
  have kept (v : Nat) : up false v = v := if_neg (by simp)
  cases status <;> cases late <;> simp [Stream.count, counted, kept]

/-- A frame's status by its cancel reason and its outcomes (R63). -/
theorem Frame.status_eq (g : Frame) : g.status = match g.cancel with
    | some .cancelled => .cancelled
    | some .superseded => .superseded
    | some .skipped => .lateSkipped
    | none => if ∀ x ∈ g.outcomes, x = .ok then .ok else if ∀ x ∈ g.outcomes, x ≠ .ok then .failed else .partialOk := by
  unfold Frame.status
  cases g.cancel with
  | none => exact if_congr (by simp) rfl (if_congr (by simp) rfl rfl)
  | some reason => cases reason <;> rfl

/-- A frame finished: FRAME_DONE written or dropped, record freed, counters advanced, outstanding lowered (R62). -/
theorem State.finishFrame_eq (u : State) (i : Nat) (g : Frame) : u.finishFrame i g =
    { (if (u.node g.node).state = .attached ∧ (u.node g.node).epoch = g.epoch then
        u.frameDone g.node g.status (frameDoneBody g.stream g.cookie g.number (some g.kind) (isLate (g.lateness u.time))
          (g.lateness u.time) g.outcomes)
       else u) with
      frames := u.frames.free i,
      streams := u.streams.modify g.stream.handle.toNat fun st =>
        { st.count g.status (isLate (g.lateness u.time)) with
          outstanding := st.outstanding - 1, scrubList := st.scrubList.erase i } } := by
  unfold State.finishFrame State.deliver
  split <;> rfl

/-- A frame all of whose pieces are finished finishes, and any other stays (R60). -/
theorem State.finishIfDone_of_get {s : State} {i : Nat} {f : Frame} (h : s.frames.get i = some f) :
    s.finishIfDone i = if f.pieceRefs = [] then s.finishFrame i f else s := by
  simp only [State.finishIfDone, h, Frame.unfinished, List.length_eq_zero_iff]

/-- A finish does not see what the record held before its last change. -/
theorem State.finishFrame_modFrames (s : State) (i : Nat) (f : Frame → Frame) (g : Frame) :
    ({ s with frames := s.frames.modify i f } : State).finishFrame i g = s.finishFrame i g := by
  have hnode : ({ s with frames := s.frames.modify i f } : State).node = s.node := rfl
  simp only [State.finishFrame_eq, Pool.free_modify, hnode]
  split <;> rfl

theorem exec_pieceOutcome {s : State} {p : Nat} {o : PieceOutcome} {before after : List Report}
    (h : s.offers (fun | .outcome q _ => decide (q = p) | _ => false) (.outcome p o) before after) :
    exec (.pieceOutcome p) s = .next ({ s with reports := before ++ after }.takeOutcome p o) := by
  change execPieceOutcome p s = _
  exact withReport_next h rfl

/-- Settles O30: the finish of a frame, the taking of an outcome, and the event that takes one. -/
theorem pieceOutcomeIsRecordedAndFinishesItsFrame : Obligations.PieceOutcomeIsRecordedAndFinishesItsFrame := by
  unfold Obligations.PieceOutcomeIsRecordedAndFinishesItsFrame
  intro finished
  have hfinish (u : State) (i : Nat) (g : Frame) : u.finishFrame i g = finished u i g := by
    rw [State.finishFrame_eq, frameDoneBody_eq, Frame.status_eq]
    simp only [Stream.count_eq]
    rfl
  refine ⟨hfinish, fun u p o => ⟨fun hp => ?_, fun pc f hpc hback hpos => ?_⟩, fun s p o before after h => exec_pieceOutcome h⟩
  · simp only [State.takeOutcome, hp]
  · intro g
    obtain ⟨hf, -⟩ := hback
    have htake : u.takeOutcome p o = (u.recordOutcome p o).finishIfDone pc.frame := by
      simp only [State.takeOutcome, hpc]
    rw [htake, State.recordOutcome_of_get hpc]
    have hg : u.frames.modify pc.frame (fun f => { f with positions := f.positions.set pc.position (.finished o) }) =
        u.frames.modify pc.frame fun _ => g := Pool.modify_congr fun v hv => by
      rw [hf] at hv
      cases hv
      rfl
    rw [hg, State.finishIfDone_of_get (f := g) (by simp [Pool.get_modify, hf])]
    constructor
    · exact fun hleft => if_neg hleft
    · intro hnone
      rw [if_pos hnone, ← hfinish]
      exact State.finishFrame_modFrames { u with pieces := u.pieces.free p } pc.frame _ g

end Sys2Proof.Machine
end

section
/-! PROOFS. A frame and its pieces: positions finished in one go, and the records that refer to each other. -/

namespace Sys2Proof.Machine

/-! ## Positions finished -/

/-- A position whose piece is one of `gone` holds the outcome instead. -/
def Position.finishing (gone : Nat → Bool) (o : PieceOutcome) : Position → Position
  | .piece p => if gone p then .finished o else .piece p
  | .finished x => .finished x

/-- A frame with the pieces of `gone` finished with one outcome. -/
def Frame.finishing (f : Frame) (gone : Nat → Bool) (o : PieceOutcome) : Frame :=
  { f with positions := f.positions.map (Position.finishing gone o) }

section

variable (f : Frame) (gone : Nat → Bool) (o : PieceOutcome)


/-- What is left to a frame are the pieces that were not finished. -/
theorem Frame.pieceRefs_finishing : (f.finishing gone o).pieceRefs = f.pieceRefs.filter fun p => !gone p := by
  unfold Frame.pieceRefs Frame.finishing
  induction f.positions with
  | nil => rfl
  | cons x r ih =>
    cases x with
    | finished x => exact ih
    | piece p => cases hp : gone p <;> simp_all [Position.finishing]

theorem Frame.mem_pieceRefs {p : Nat} : p ∈ f.pieceRefs ↔ ∃ k : Nat, f.positions[k]? = some (Position.piece p) := by
  simp only [Frame.pieceRefs, List.mem_filterMap, ← List.mem_iff_getElem?]
  constructor
  · rintro ⟨x, hx, hp⟩
    cases x with
    | finished o => cases hp
    | piece q =>
      cases hp
      exact hx
  · exact fun h => ⟨_, h, rfl⟩

theorem Frame.finishing_finishing (later : Nat → Bool) :
    (f.finishing gone o).finishing later o = f.finishing (fun p => gone p || later p) o := by
  have hone (x : Position) : Position.finishing later o (Position.finishing gone o x) =
      Position.finishing (fun p => gone p || later p) o x := by
    cases x with
    | finished x => rfl
    | piece p => cases hp : gone p <;> simp [Position.finishing, hp]
  simp only [Frame.finishing, List.map_map]
  congr 1
  exact List.map_congr_left fun x _ => hone x

variable {f gone}

theorem Frame.finishing_congr {gone' : Nat → Bool} (h : ∀ p ∈ f.pieceRefs, gone p = gone' p) :
    f.finishing gone o = f.finishing gone' o := by
  unfold Frame.finishing
  congr 1
  refine List.map_congr_left fun x hx => ?_
  cases x with
  | finished x => rfl
  | piece p =>
    have hp : p ∈ f.pieceRefs := List.mem_filterMap.2 ⟨_, hx, rfl⟩
    simp only [Position.finishing, h p hp]

theorem Frame.finishing_none (h : ∀ p ∈ f.pieceRefs, gone p = false) : f.finishing gone o = f := by
  rw [Frame.finishing_congr o (gone' := fun _ => false) h]
  have hone : Position.finishing (fun _ => false) o = id := by
    funext x
    cases x <;> rfl
  simp [Frame.finishing, hone]

/-- An outcome at the one position of a piece. -/
theorem Frame.set_eq_finishing {p k₀ : Nat} (h : ∀ k : Nat, f.positions[k]? = some (Position.piece p) ↔ k = k₀) :
    { f with positions := f.positions.set k₀ (.finished o) } = f.finishing (fun q => decide (q = p)) o := by
  unfold Frame.finishing
  congr 1
  refine List.ext_getElem? fun k => ?_
  rw [List.getElem?_set, List.getElem?_map]
  by_cases hk : k₀ = k
  · subst hk
    have hin := (h k₀).2 rfl
    have hlt : k₀ < f.positions.length := (List.getElem?_eq_some_iff.1 hin).1
    simp only [if_true, hlt, hin, Option.map_some, Position.finishing, decide_true]
  · rw [if_neg hk]
    cases hx : f.positions[k]? with
    | none => rfl
    | some x =>
      cases x with
      | finished x => rfl
      | piece q =>
        have hq : q ≠ p := fun e => hk ((h k).1 (by rw [hx, e])).symm
        simp [Position.finishing, hq]

end

/-! ## A frame and the pieces that refer back to it -/

section

variable {s : State} {i : Nat} {f : Frame} (h : s.refersBack i f)
include h

theorem State.refersBack.piece {p : Nat} (hp : p ∈ f.pieceRefs) :
    ∃ pc, s.pieces.get p = some pc ∧ pc.frame = i ∧
      ∀ k : Nat, f.positions[k]? = some (Position.piece p) ↔ k = pc.position := by
  obtain ⟨k, hk⟩ := f.mem_pieceRefs.1 hp
  obtain ⟨-, -, -, hrefs⟩ := h
  obtain ⟨pc, hpc, hfr, hpos⟩ := hrefs k p hk
  refine ⟨pc, hpc, hfr, fun k' => ⟨fun hk' => ?_, fun e => by rw [e, hpos]; exact hk⟩⟩
  obtain ⟨pc', hpc', -, hpos'⟩ := hrefs k' p hk'
  rw [hpc] at hpc'
  cases hpc'
  exact hpos'.symm

/-- A frame names no piece twice. -/
theorem State.refersBack.nodup : f.pieceRefs.Nodup := by
  have hpos : f.positions.Pairwise fun x y => ∀ p, ¬ (x = .piece p ∧ y = .piece p) := by
    refine List.pairwise_iff_getElem.2 fun a b ha hb hlt p hab => ?_
    obtain ⟨hx, hy⟩ := hab
    have hx' : f.positions[a]? = some (.piece p) := by rw [List.getElem?_eq_getElem ha, hx]
    have hy' : f.positions[b]? = some (.piece p) := by rw [List.getElem?_eq_getElem hb, hy]
    obtain ⟨pc, -, -, hk⟩ := State.refersBack.piece h (f.mem_pieceRefs.2 ⟨a, hx'⟩)
    have := (hk a).1 hx'
    have := (hk b).1 hy'
    omega
  refine List.Pairwise.filterMap _ (fun x y hxy p hp q hq e => ?_) hpos
  subst e
  cases x with
  | finished => cases hp
  | piece a =>
    cases y with
    | finished => cases hq
    | piece b =>
      cases hp
      cases hq
      exact hxy _ ⟨rfl, rfl⟩

/-- Frame and pieces after a change of a piece record that keeps what the record refers to. -/
theorem State.refersBack.modifyPiece {t : State} (p : Nat) (g : Piece → Piece) (hf : t.frames = s.frames)
    (ht : t.pieces = s.pieces.modify p g) (hg : ∀ pc, (g pc).frame = pc.frame ∧ (g pc).position = pc.position) :
    t.refersBack i f := by
  obtain ⟨hget, hsf, hsp, hrefs⟩ := h
  refine ⟨by rw [hf, hget], by rw [hf]; exact hsf, by rw [ht]; simpa [Pool.sorted] using hsp, fun k q hk => ?_⟩
  obtain ⟨pc, hpc, hfr, hpos⟩ := hrefs k q hk
  rw [ht, Pool.get_modify]
  by_cases hq : q = p
  · subst hq
    exact ⟨g pc, by simp [hpc], (hg pc).1.trans hfr, (hg pc).2.trans hpos⟩
  · exact ⟨pc, by simp [hq, hpc], hfr, hpos⟩

/-- An outcome recorded: the piece's record is free, its position finished (R60). -/
theorem State.refersBack.recordOutcome_eq {p : Nat} (hp : p ∈ f.pieceRefs) (o : PieceOutcome) : s.recordOutcome p o =
    { s with
      pieces := s.pieces.free p, frames := s.frames.modify i fun f => f.finishing (fun q => decide (q = p)) o } := by
  obtain ⟨pc, hpc, rfl, hk⟩ := State.refersBack.piece h hp
  rw [State.recordOutcome_of_get hpc]
  congr 1
  refine Pool.modify_congr fun g hg => ?_
  rw [h.1] at hg
  cases hg
  exact Frame.set_eq_finishing o hk

/-- Another piece keeps its frame's deadline. -/
theorem State.refersBack.recordOutcome_deadlineOf {p q : Nat} (hp : p ∈ f.pieceRefs) (o : PieceOutcome) (hq : q ≠ p) :
    (s.recordOutcome p o).deadlineOf q = s.deadlineOf q := by
  rw [State.refersBack.recordOutcome_eq h hp]
  simp only [State.deadlineOf, Pool.get_free_ne _ hq, Pool.get_modify]
  cases s.pieces.get q with
  | none => rfl
  | some pc =>
    by_cases hi : pc.frame = i
    · simp only [hi, if_true]
      cases s.frames.get i <;> rfl
    · simp only [hi, if_false]

/-- Frame and pieces after an outcome recorded. -/
theorem State.refersBack.recordOutcome {p : Nat} (hp : p ∈ f.pieceRefs) (o : PieceOutcome) :
    (s.recordOutcome p o).refersBack i (f.finishing (fun q => decide (q = p)) o) := by
  rw [State.refersBack.recordOutcome_eq h hp]
  obtain ⟨hget, hsf, hsp, hrefs⟩ := h
  refine ⟨by simp [Pool.get_modify, hget], by simpa [Pool.sorted] using hsf, Pool.sorted_free hsp p, fun k q hk => ?_⟩
  have hq : f.positions[k]? = some (.piece q) ∧ q ≠ p := by
    rw [Frame.finishing, List.getElem?_map] at hk
    cases hx : f.positions[k]? with
    | none => simp [hx] at hk
    | some x =>
      cases x with
      | finished x => simp [hx, Position.finishing] at hk
      | piece r =>
        by_cases hr : r = p
        · simp [hx, Position.finishing, hr] at hk
        · simp only [hx, Position.finishing, hr, decide_false, Option.map_some, Option.some.injEq] at hk
          cases hk
          exact ⟨rfl, hr⟩
  obtain ⟨pc, hpc, hfr, hpos⟩ := hrefs k q hq.1
  exact ⟨pc, by rw [← hpc]; exact Pool.get_free_ne _ hq.2, hfr, hpos⟩

end

end Sys2Proof.Machine
end

section
/-! PROOFS. Pieces placed in their queues, one after the other (R57, R58, R84, R85). -/

namespace Sys2Proof.Machine

/-! ## One placement -/

/-- Piece `p` would pass the placement test for stream `h` (R57). -/
def State.passes (s : State) (h : Handle) (p : Nat) : Bool :=
  match s.pieces.get p with
  | none => false
  | some pc => s.placeable h pc.span

theorem State.passes_of_get {s : State} {p : Nat} {pc : Piece} (hpc : s.pieces.get p = some pc) (h : Handle) :
    s.passes h p = s.placeable h pc.span := by
  simp only [State.passes, hpc]

theorem State.placePiece_of_passes {s : State} {h : Handle} {p : Nat} {pc : Piece} (hpc : s.pieces.get p = some pc)
    (ha : s.passes h p = true) : State.placePiece false h s p = s.enqueue p pc := by
  rw [State.passes_of_get hpc] at ha
  simp [State.placePiece, hpc, ha]

theorem State.placePiece_of_not_passes {s : State} {h : Handle} {p : Nat} (ha : s.passes h p = false) (hold : Bool) :
    State.placePiece hold h s p = s.recordOutcome p .spanLost := by
  cases hpc : s.pieces.get p with
  | none => simp [State.placePiece, State.recordOutcome, hpc]
  | some pc =>
    rw [State.passes_of_get hpc] at ha
    simp [State.placePiece, hpc, ha]

theorem State.passes_congr {s t : State} (hp : ∀ j, (t.span j).service = (s.span j).service)
    (hs : t.streams = s.streams) {p : Nat} (hpc : t.pieces.get p = s.pieces.get p) (h : Handle) :
    t.passes h p = s.passes h p := by
  have hplace : t.placeable h = s.placeable h := by
    funext j
    simp only [State.placeable, State.linkUp, State.stream, hp, hs]
  simp only [State.passes, hpc, hplace]

/-! ## A run of placements -/

/-- The pieces `ps` of the frame in record `i` are about to be placed for stream `h`: those of `ok` in their queues, the
others nowhere. `base` holds their records as they stand. -/
structure State.Placing (s : State) (h : Handle) (i : Nat) (f : Frame) (base : Pool Piece) (ok : Nat → Bool)
    (ps : List Nat) : Prop where
  back : s.refersBack i f
  refs : ∀ p ∈ ps, p ∈ f.pieceRefs
  nodup : ps.Nodup
  same : ∀ p ∈ ps, s.pieces.get p = base.get p
  test : ∀ p ∈ ps, ok p = s.passes h p
  unlisted : ∀ j, ∀ q ∈ s.queued j, q ∉ ps

/-- The pieces of a list, each with its arrival sequence, counted on from `a` (R58). -/
def numbered (a : ArrivalSeq) : List Nat → List (Nat × ArrivalSeq)
  | [] => []
  | p :: r => (p, a) :: numbered (a + 1) r

/-- A piece of span `j`. -/
def Pool.onSpan (base : Pool Piece) (j : SpanId) (p : Nat) : Bool :=
  match base.get p with
  | none => false
  | some pc => decide (pc.span = j)

theorem fst_mem_of_mem_numbered {a : ArrivalSeq} {l : List Nat} {x : Nat × ArrivalSeq} (h : x ∈ numbered a l) :
    x.1 ∈ l := by
  induction l generalizing a with
  | nil => cases h
  | cons p r ih =>
    rcases List.mem_cons.1 h with rfl | h
    · exact List.mem_cons_self ..
    · exact List.mem_cons_of_mem _ (ih h)

theorem mem_foldl_insertBefore {mine : List (Nat × ArrivalSeq)} {after : ArrivalSeq → Nat → Bool} {l : List Nat}
    {q : Nat} : q ∈ mine.foldl (fun l x => insertBefore (after x.2) x.1 l) l ↔ (∃ x ∈ mine, x.1 = q) ∨ q ∈ l := by
  induction mine generalizing l with
  | nil => simp
  | cons x r ih =>
    rw [List.foldl_cons, ih, mem_insertBefore]
    simp only [List.mem_cons, exists_eq_or_imp, eq_comm (a := q)]
    rw [or_left_comm, or_assoc]

section

variable {s : State} {h : Handle} {i : Nat} {f : Frame} {base : Pool Piece} {ok : Nat → Bool} {p : Nat} {ps : List Nat}

theorem State.queued_enqueue {pc : Piece} {j : SpanId} {q : Nat} (hq : q ∈ (s.enqueue p pc).queued j) :
    q = p ∨ q ∈ s.queued j := by
  by_cases hj : j = pc.span
  · subst hj
    simp only [State.queued, State.span_enqueue, if_true, State.enteredQueue] at hq ⊢
    cases hd : s.deadlineOf p with
    | none =>
      simp only [hd, List.mem_append, mem_insertBefore] at hq ⊢
      tauto
    | some d =>
      simp only [hd, State.relistedQueue, List.mem_append, mem_insertBefore] at hq ⊢
      have hkeep : ((s.stamped p).span pc.span).queue = (s.span pc.span).queue := rfl
      rw [hkeep] at hq
      tauto
  · simp only [State.queued, State.span_enqueue, if_neg hj] at hq
    exact .inr hq

/-- The next piece is placed or finished, and the rest stand to be placed as before. -/
theorem State.Placing.step (hp : s.Placing h i f base ok (p :: ps)) : ∃ pc, s.pieces.get p = some pc ∧ pc.frame = i ∧
    ((ok p = true ∧ State.placePiece false h s p = s.enqueue p pc ∧ (s.enqueue p pc).Placing h i f base ok ps) ∨
     (ok p = false ∧ (∀ hold, State.placePiece hold h s p = s.recordOutcome p .spanLost) ∧
      (s.recordOutcome p .spanLost).Placing h i (f.finishing (fun q => decide (q = p)) .spanLost) base ok ps)) := by
  obtain ⟨back, refs, nodup, same, test, unlisted⟩ := hp
  have hmem : p ∈ f.pieceRefs := refs p (by simp)
  obtain ⟨pc, hpc, hfr, -⟩ := back.piece hmem
  obtain ⟨hnot, hnodup⟩ := List.nodup_cons.1 nodup
  have hne {q : Nat} (hq : q ∈ ps) : q ≠ p := fun e => hnot (e ▸ hq)
  have hkeep {t : State} (hp : ∀ j, (t.span j).service = (s.span j).service) (hs : t.streams = s.streams)
      (hget : ∀ q, q ≠ p → t.pieces.get q = s.pieces.get q) :
      (∀ q ∈ ps, t.pieces.get q = base.get q) ∧ ∀ q ∈ ps, ok q = t.passes h q :=
    ⟨fun q hq => (hget q (hne hq)).trans (same q (by simp [hq])), fun q hq => by
      rw [test q (by simp [hq]), State.passes_congr hp hs (hget q (hne hq))]⟩
  refine ⟨pc, hpc, hfr, ?_⟩
  rw [test p (by simp)]
  cases ha : s.passes h p with
  | true =>
    have hpieces : (s.enqueue p pc).pieces = s.pieces.modify p fun pc =>
      { pc with state := .queued, seq := some s.arrival } := by rw [State.enqueue_eq]
    obtain ⟨hsame, htest⟩ := hkeep (t := s.enqueue p pc) (by simp) (by simp) fun q hq => by
      rw [hpieces, Pool.get_modify, if_neg hq]
    refine .inl ⟨rfl, State.placePiece_of_passes hpc ha, ?_, fun q hq => refs q (by simp [hq]), hnodup, hsame, htest,
      fun j q hq => ?_⟩
    · exact back.modifyPiece p _ (by simp) hpieces fun _ => ⟨rfl, rfl⟩
    · rcases State.queued_enqueue hq with rfl | hq
      · exact hnot
      · exact fun hin => unlisted j q hq (by simp [hin])
  | false =>
    have hrec := back.recordOutcome_eq hmem .spanLost
    obtain ⟨hsame, htest⟩ := hkeep (t := s.recordOutcome p .spanLost) (by simp) (by simp) fun q hq => by
      rw [hrec]
      exact Pool.get_free_ne _ hq
    refine .inr ⟨rfl, fun hold => State.placePiece_of_not_passes ha hold, back.recordOutcome hmem _, fun q hq => ?_, hnodup,
      hsame, htest, fun j q hq hin => unlisted j q (by simpa [State.queued] using hq) (by simp [hin])⟩
    rw [Frame.pieceRefs_finishing]
    exact List.mem_filter.2 ⟨refs q (by simp [hq]), by simp [hne hq]⟩

/-- The state after a run of placements. -/
def State.placed (s : State) (h : Handle) (ps : List Nat) : State := ps.foldl (State.placePiece false h) s

/-- Where no piece of a run can be placed, it makes no difference whether pieces are to be held. -/
theorem State.Placing.foldl_hold (hp : s.Placing h i f base ok ps) (hno : ∀ p ∈ ps, ok p = false) (hold : Bool) :
    ps.foldl (State.placePiece hold h) s = s.placed h ps := by
  induction ps generalizing s f with
  | nil => rfl
  | cons p ps ih =>
    obtain ⟨pc, -, -, ⟨hok, -⟩ | ⟨-, hplace, next⟩⟩ := hp.step
    · rw [hno p (by simp)] at hok
      cases hok
    · rw [State.placed, List.foldl_cons, List.foldl_cons, hplace, hplace]
      exact ih next fun q hq => hno q (by simp [hq])

/-! ## What a run of placements leaves -/

/-- The frame keeps the pieces placed, and the positions of the others are finished SPAN_LOST. -/
theorem State.Placing.frames (hp : s.Placing h i f base ok ps) : (s.placed h ps).frames =
    s.frames.modify i fun f => f.finishing (fun p => decide (p ∈ ps) && !ok p) .spanLost := by
  induction ps generalizing s f with
  | nil =>
    refine (Pool.modify_id ?_).symm
    exact fun g hg => Frame.finishing_none _ (by simp)
  | cons p ps ih =>
    obtain ⟨pc, -, -, ⟨hok, hplace, next⟩ | ⟨hok, hplace, next⟩⟩ := hp.step
    · rw [State.placed, List.foldl_cons, hplace, ← State.placed, ih next, State.enqueue_frames]
      refine Pool.modify_congr fun g _ => Frame.finishing_congr _ fun q _ => ?_
      by_cases hq : q = p <;> simp [hq, hok]
    · rw [State.placed, List.foldl_cons, hplace, ← State.placed, ih next, hp.back.recordOutcome_eq (hp.refs p (by simp)),
        Pool.modify_modify]
      refine Pool.modify_congr fun g _ => ?_
      rw [Frame.finishing_finishing]
      refine Frame.finishing_congr _ fun q _ => ?_
      by_cases hq : q = p <;> simp [hq, hok]

theorem State.Placing.get_frame (hp : s.Placing h i f base ok ps) : (s.placed h ps).frames.get i =
    some (f.finishing (fun p => decide (p ∈ ps) && !ok p) .spanLost) := by
  rw [hp.frames, Pool.get_modify, if_pos rfl, hp.back.1]
  rfl

theorem State.Placing.pieces_other (hp : s.Placing h i f base ok ps) {q : Nat} (hq : q ∉ ps) :
    (s.placed h ps).pieces.get q = s.pieces.get q := by
  induction ps generalizing s f with
  | nil => rfl
  | cons p ps ih =>
    obtain ⟨hqp, hqps⟩ := not_or.1 (mt List.mem_cons.2 hq)
    obtain ⟨pc, -, -, ⟨-, hplace, next⟩ | ⟨-, hplace, next⟩⟩ := hp.step
    · rw [State.placed, List.foldl_cons, hplace, ← State.placed, ih next hqps, State.enqueue_eq, Pool.get_modify, if_neg hqp]
    · rw [State.placed, List.foldl_cons, hplace, ← State.placed, ih next hqps,
        hp.back.recordOutcome_eq (hp.refs p (by simp)), Pool.get_free_ne _ hqp]

theorem State.Placing.pieces_lost (hp : s.Placing h i f base ok ps) {q : Nat} (hq : q ∈ ps) (hno : ok q = false) :
    (s.placed h ps).pieces.get q = none := by
  induction ps generalizing s f with
  | nil => cases hq
  | cons p ps ih =>
    obtain ⟨hnot, -⟩ := List.nodup_cons.1 hp.nodup
    obtain ⟨pc, -, -, ⟨hok, hplace, next⟩ | ⟨-, hplace, next⟩⟩ := hp.step
    · rw [State.placed, List.foldl_cons, hplace, ← State.placed]
      rcases List.mem_cons.1 hq with rfl | hq
      · rw [hno] at hok
        cases hok
      · exact ih next hq
    · rw [State.placed, List.foldl_cons, hplace, ← State.placed]
      rcases List.mem_cons.1 hq with rfl | hq
      · rw [next.pieces_other hnot, hp.back.recordOutcome_eq (hp.refs q (by simp))]
        exact Pool.get_free_self hp.back.2.2.1 q
      · exact ih next hq

/-- A piece placed is QUEUED under its arrival sequence. -/
theorem State.Placing.pieces_placed (hp : s.Placing h i f base ok ps) {q : Nat} {a : ArrivalSeq}
    (hq : (q, a) ∈ numbered s.arrival (ps.filter ok)) : (s.placed h ps).pieces.get q =
      (base.get q).map fun pc => { pc with state := .queued, seq := some a } := by
  induction ps generalizing s f with
  | nil => cases hq
  | cons p ps ih =>
    obtain ⟨hnot, -⟩ := List.nodup_cons.1 hp.nodup
    obtain ⟨pc, -, -, ⟨hok, hplace, next⟩ | ⟨hok, hplace, next⟩⟩ := hp.step
    · rw [State.placed, List.foldl_cons, hplace, ← State.placed]
      rw [List.filter_cons_of_pos hok] at hq
      rcases List.mem_cons.1 hq with e | hq
      · cases e
        rw [next.pieces_other hnot, State.enqueue_eq, Pool.get_modify, if_pos rfl, hp.same q (by simp)]
      · exact ih next (by rw [State.enqueue_eq]; exact hq)
    · rw [State.placed, List.foldl_cons, hplace, ← State.placed]
      rw [List.filter_cons_of_neg (by simp [hok])] at hq
      exact ih next (by simpa using hq)

theorem State.Placing.arrival (hp : s.Placing h i f base ok ps) : (s.placed h ps).arrival =
    s.arrival + BitVec.ofNat 32 (ps.filter ok).length := by
  induction ps generalizing s f with
  | nil => simp [State.placed]
  | cons p ps ih =>
    obtain ⟨pc, -, -, ⟨hok, hplace, next⟩ | ⟨hok, hplace, next⟩⟩ := hp.step
    · rw [State.placed, List.foldl_cons, hplace, ← State.placed, ih next, State.enqueue_eq, List.filter_cons_of_pos hok]
      simp only [List.length_cons]
      bv_omega
    · rw [State.placed, List.foldl_cons, hplace, ← State.placed, ih next, List.filter_cons_of_neg (by simp [hok])]
      simp

theorem State.Placing.reports (hp : s.Placing h i f base ok ps) : (s.placed h ps).reports =
    s.reports ++ (ps.filter ok).filterMap fun p => (base.get p).map fun pc => .select pc.span := by
  induction ps generalizing s f with
  | nil => simp [State.placed]
  | cons p ps ih =>
    obtain ⟨pc, hpc, -, ⟨hok, hplace, next⟩ | ⟨hok, hplace, next⟩⟩ := hp.step
    · have hbase : base.get p = some pc := (hp.same p (by simp)).symm.trans hpc
      rw [State.placed, List.foldl_cons, hplace, ← State.placed, ih next, State.enqueue_eq, List.filter_cons_of_pos hok]
      simp [hbase]
    · rw [State.placed, List.foldl_cons, hplace, ← State.placed, ih next, List.filter_cons_of_neg (by simp [hok])]
      simp

@[simp] theorem State.placed_pending : (s.placed h ps).pending = s.pending := foldl_keeps State.pending _ (by simp) ..
@[simp] theorem State.placed_time : (s.placed h ps).time = s.time := foldl_keeps State.time _ (by simp) ..
@[simp] theorem State.placed_gens : (s.placed h ps).gens = s.gens := foldl_keeps State.gens _ (by simp) ..
@[simp] theorem State.placed_streams : (s.placed h ps).streams = s.streams := foldl_keeps State.streams _ (by simp) ..
@[simp] theorem State.placed_defaultSettle : (s.placed h ps).defaultSettle = s.defaultSettle := foldl_keeps State.defaultSettle _ (by simp) ..
@[simp] theorem State.placed_orphanGrace : (s.placed h ps).orphanGrace = s.orphanGrace := foldl_keeps State.orphanGrace _ (by simp) ..
@[simp] theorem State.placed_deadlineUnit : (s.placed h ps).deadlineUnit = s.deadlineUnit := foldl_keeps State.deadlineUnit _ (by simp) ..
@[simp] theorem State.placed_nodes : (s.placed h ps).nodes = s.nodes := foldl_keeps State.nodes _ (by simp) ..
@[simp] theorem State.placed_config : (s.placed h ps).config = s.config := foldl_keeps State.config _ (by simp) ..
@[simp] theorem State.placed_arbiter (j : SpanId) : ((s.placed h ps).span j).arbiter = (s.span j).arbiter :=
  foldl_keeps (fun u : State => (u.span j).arbiter) _ (by simp) ..
@[simp] theorem State.placed_service (j : SpanId) : ((s.placed h ps).span j).service = (s.span j).service :=
  foldl_keeps (fun u : State => (u.span j).service) _ (by simp) ..
@[simp] theorem State.placed_monitor (j : SpanId) : ((s.placed h ps).span j).monitor = (s.span j).monitor :=
  foldl_keeps (fun u : State => (u.span j).monitor) _ (by simp) ..
@[simp] theorem State.placed_budget (j : SpanId) : ((s.placed h ps).span j).budget = (s.span j).budget :=
  foldl_keeps (fun u : State => (u.span j).budget) _ (by simp) ..

theorem State.sorted_pieces_placed (hs : s.pieces.sorted) : (s.placed h ps).pieces.sorted := by
  refine foldl_inv (fun u : State => u.pieces.sorted) _ (fun u p hu => ?_) ps s hs
  unfold State.placePiece
  split
  · exact hu
  · split
    · rw [if_neg (by simp), State.enqueue_eq]
      simpa [Pool.sorted] using hu
    · rename_i pc hpc _
      rw [State.recordOutcome_of_get hpc]
      exact Pool.sorted_free hu p

/-- A piece that is not finished keeps its frame's deadline. -/
theorem State.Placing.deadlineOf (hp : s.Placing h i f base ok ps) {q : Nat} (hq : q ∈ ps → ok q = true) :
    (s.placed h ps).deadlineOf q = s.deadlineOf q := by
  induction ps generalizing s f with
  | nil => rfl
  | cons p ps ih =>
    obtain ⟨pc, -, -, ⟨-, hplace, next⟩ | ⟨hok, hplace, next⟩⟩ := hp.step
    · rw [State.placed, List.foldl_cons, hplace, ← State.placed, ih next fun h => hq (by simp [h]), State.enqueue_deadlineOf]
    · rw [State.placed, List.foldl_cons, hplace, ← State.placed, ih next fun h => hq (by simp [h])]
      have hqp : q ≠ p := by
        rintro rfl
        rw [hq (by simp)] at hok
        cases hok
      exact hp.back.recordOutcome_deadlineOf (hp.refs p (by simp)) _ hqp

end

end Sys2Proof.Machine
end

section
/-! PROOFS. The queues after a run of placements (R84, R85, R96). -/

namespace Sys2Proof.Machine

/-- The queue of span `j` after pieces of deadline `d` have entered it one after the other. -/
structure State.Entered (t : State) (j : SpanId) (before : SpanQueue) (d : Time) (mine : List (Nat × ArrivalSeq)) :
    Prop where
  deadlines : (t.span j).queue.deadlines =
    mine.foldl (fun l x => insertBefore (t.standsAfter d x.2) x.1 l) before.deadlines
  background : (t.span j).queue.background = before.background
  timers : mine ≠ [] → (t.span j).queue.deadlineTimer = t.deadlineArm j ∧
    (t.span j).queue.windowTimer = t.windowRearmed j before.windowTimer
  kept : mine = [] → (t.span j).queue = before

/-- The pieces of a run that enter the queue of span `j`, each with its arrival sequence. -/
def entrants (base : Pool Piece) (j : SpanId) (a : ArrivalSeq) (placed : List Nat) : List (Nat × ArrivalSeq) :=
  (numbered a placed).filter fun x => base.onSpan j x.1

section

variable {s : State} {h : Handle} {i : Nat} {f : Frame} {base : Pool Piece} {ok : Nat → Bool} {p : Nat} {ps : List Nat}
  {pc : Piece} {d : Time}

theorem State.Placing.deadlineOf_ref (hp : s.Placing h i f base ok ps) (hq : p ∈ ps) : s.deadlineOf p = f.deadline := by
  obtain ⟨pc, hpc, hfr, -⟩ := hp.back.piece (hp.refs p hq)
  rw [State.deadlineOf_of_get hpc, hfr, hp.back.1]
  rfl

theorem mem_of_mem_entrants {j : SpanId} {a : ArrivalSeq} {x : Nat × ArrivalSeq} (hx : x ∈ entrants base j a (ps.filter ok)) :
    x.1 ∈ ps ∧ ok x.1 = true :=
  List.mem_filter.1 (fst_mem_of_mem_numbered (List.mem_filter.1 hx).1)

/-- The pieces of one deadline that follow a first into its queue add no crossing to it. -/
theorem State.Placing.crossings_sub (hp : (s.enqueue p pc).Placing h i f base ok ps) (hd : f.deadline = some d)
    (hpd : s.deadlineOf p = some d) {j : SpanId} (hin : p ∈ ((s.enqueue p pc).span j).queue.deadlines)
    (he : ((s.enqueue p pc).placed h ps).Entered j ((s.enqueue p pc).span j).queue d
      (entrants base j (s.enqueue p pc).arrival (ps.filter ok))) :
    ∀ x ∈ ((s.enqueue p pc).placed h ps).crossings j, x ∈ (s.enqueue p pc).crossings j := by
  intro x hx
  obtain ⟨q, hq, e, hqe, hx⟩ := mem_crossings.1 hx
  rw [State.placed_arbiter] at hx
  rw [he.deadlines, mem_foldl_insertBefore (after := fun a => State.standsAfter _ d a)] at hq
  rcases hq with ⟨y, hy, rfl⟩ | hq
  · obtain ⟨hy, hok⟩ := mem_of_mem_entrants hy
    rw [hp.deadlineOf fun _ => hok, hp.deadlineOf_ref hy, hd] at hqe
    cases hqe
    exact mem_crossings.2 ⟨p, hin, d, by rw [State.enqueue_deadlineOf, hpd], hx⟩
  · have hnot : q ∉ ps := hp.unlisted j q (List.mem_append.2 (.inl hq))
    rw [hp.deadlineOf fun h => absurd h hnot] at hqe
    exact mem_crossings.2 ⟨q, hq, e, hqe, hx⟩

/-- A piece enters, and then the rest of its run. -/
theorem State.Placing.entered_cons (hs : s.Placing h i f base ok (p :: ps)) (hd : f.deadline = some d)
    (hp : (s.enqueue p pc).Placing h i f base ok ps) (hplace : State.placePiece false h s p = s.enqueue p pc)
    (he : ((s.enqueue p pc).placed h ps).Entered pc.span ((s.enqueue p pc).span pc.span).queue d
      (entrants base pc.span (s.enqueue p pc).arrival (ps.filter ok))) :
    ((s.enqueue p pc).placed h ps).Entered pc.span (s.span pc.span).queue d
      ((p, s.arrival) :: entrants base pc.span (s.enqueue p pc).arrival (ps.filter ok)) := by
  have hpd : s.deadlineOf p = some d := (hs.deadlineOf_ref (by simp)).trans hd
  have hnot {q : Nat} (hq : q ∈ s.queued pc.span) : q ∉ p :: ps := hs.unlisted pc.span q hq
  have hplaced : s.placed h (p :: ps) = (s.enqueue p pc).placed h ps := by
    rw [State.placed, List.foldl_cons, hplace, State.placed]
  have hins : insertBefore (s.standsAfter d s.arrival) p (s.span pc.span).queue.deadlines =
      insertBefore (((s.enqueue p pc).placed h ps).standsAfter d s.arrival) p (s.span pc.span).queue.deadlines := by
    refine insertBefore_congr fun q hq => ?_
    have hq : q ∉ p :: ps := hnot (List.mem_append.2 (.inl hq))
    rw [← hplaced]
    exact (State.standsAfter_congr (hs.deadlineOf fun h => absurd h hq) (hs.pieces_other hq) d s.arrival).symm
  have hqueue : ((s.enqueue p pc).span pc.span).queue = {
      deadlines := insertBefore (((s.enqueue p pc).placed h ps).standsAfter d s.arrival) p (s.span pc.span).queue.deadlines,
      background := (s.span pc.span).queue.background, deadlineTimer := (s.enqueue p pc).deadlineArm pc.span,
      windowTimer := (s.enqueue p pc).windowRearmed pc.span (s.span pc.span).queue.windowTimer } := by
    rw [State.span_enqueue, if_pos rfl, ← hins]
    exact State.enteredQueue_timed hpd fun hin => hnot (List.mem_append.2 (.inl hin)) (by simp)
  refine ⟨?_, ?_, fun _ => ?_, fun e => by cases e⟩
  · rw [he.deadlines, hqueue]
    rfl
  · rw [he.background, hqueue]
  · by_cases hmine : entrants base pc.span (s.enqueue p pc).arrival (ps.filter ok) = []
    · obtain ⟨harm, hwin⟩ := State.armed_congr (s := s.enqueue p pc) (t := (s.enqueue p pc).placed h ps) (j := pc.span)
        (by rw [he.kept hmine]) (fun q hq => hp.deadlineOf fun h => absurd h (hp.unlisted _ q (List.mem_append.2 (.inl hq))))
        (by simp) (by simp)
      rw [he.kept hmine, harm, hwin, hqueue]
      exact ⟨rfl, rfl⟩
    · obtain ⟨harm, hwin⟩ := he.timers hmine
      refine ⟨harm, ?_⟩
      rw [hwin, hqueue]
      exact State.windowRearmed_twice (by simp)
        (hp.crossings_sub hd hpd (by rw [hqueue]; exact mem_insertBefore.2 (.inl rfl)) he) _

theorem entrants_cons_of_onSpan {j : SpanId} {a : ArrivalSeq} {l : List Nat} (hj : base.onSpan j p = true) :
    entrants base j a (p :: l) = (p, a) :: entrants base j (a + 1) l := List.filter_cons_of_pos hj

theorem entrants_cons_of_not_onSpan {j : SpanId} {a : ArrivalSeq} {l : List Nat} (hj : base.onSpan j p = false) :
    entrants base j a (p :: l) = entrants base j (a + 1) l := List.filter_cons_of_neg (by simp [hj])

theorem Pool.onSpan_of_get (hpc : base.get p = some pc) (j : SpanId) : base.onSpan j p = decide (pc.span = j) := by
  simp only [Pool.onSpan, hpc]

/-- Pieces of a frame with a deadline enter the deadline lists of their spans, and no other list changes. -/
theorem State.Placing.queue_timed (hp : s.Placing h i f base ok ps) (hd : f.deadline = some d) (j : SpanId) :
    (s.placed h ps).Entered j (s.span j).queue d (entrants base j s.arrival (ps.filter ok)) := by
  induction ps generalizing s f with
  | nil => exact ⟨rfl, rfl, fun h => absurd rfl h, fun _ => rfl⟩
  | cons p ps ih =>
    obtain ⟨pc, hpc, -, ⟨hok, hplace, next⟩ | ⟨hok, hplace, next⟩⟩ := hp.step
    · have hbase : base.get p = some pc := (hp.same p (by simp)).symm.trans hpc
      have hnext := ih next hd
      have harr : (s.enqueue p pc).arrival = s.arrival + 1 := by rw [State.enqueue_eq]
      rw [State.placed, List.foldl_cons, hplace, ← State.placed, List.filter_cons_of_pos hok]
      by_cases hj : pc.span = j
      · subst hj
        rw [entrants_cons_of_onSpan (by simp [Pool.onSpan_of_get hbase]), ← harr]
        exact hp.entered_cons hd next hplace hnext
      · rw [entrants_cons_of_not_onSpan (by simp [Pool.onSpan_of_get hbase, hj]), ← harr]
        rwa [State.span_enqueue, if_neg (Ne.symm hj)] at hnext
    · rw [State.placed, List.foldl_cons, hplace, ← State.placed, List.filter_cons_of_neg (by simp [hok])]
      simpa using ih next hd

/-- Pieces of a frame without deadline enter the background lists of their spans, and nothing else of a queue changes. -/
theorem State.Placing.queue_untimed (hp : s.Placing h i f base ok ps) (hd : f.deadline = none) (j : SpanId) :
    ((s.placed h ps).span j).queue = { (s.span j).queue with
      background := (entrants base j s.arrival (ps.filter ok)).foldl
        (fun l x => insertBefore ((s.placed h ps).newerThan x.2) x.1 l) (s.span j).queue.background } := by
  induction ps generalizing s f with
  | nil => rfl
  | cons p ps ih =>
    have hother {q : Nat} (hq : q ∉ p :: ps) := hp.pieces_other hq
    obtain ⟨pc, hpc, -, ⟨hok, hplace, next⟩ | ⟨hok, hplace, next⟩⟩ := hp.step
    · have hbase : base.get p = some pc := (hp.same p (by simp)).symm.trans hpc
      have hnext := ih next hd
      have harr : (s.enqueue p pc).arrival = s.arrival + 1 := by rw [State.enqueue_eq]
      rw [State.placed, List.foldl_cons, hplace, ← State.placed] at hother ⊢
      rw [List.filter_cons_of_pos hok]
      by_cases hj : pc.span = j
      · subst hj
        have hnot {q : Nat} (hq : q ∈ (s.span pc.span).queue.background) : q ∉ p :: ps :=
          hp.unlisted pc.span q (List.mem_append.2 (.inr hq))
        have hins : insertBefore (s.newerThan s.arrival) p (s.span pc.span).queue.background =
            insertBefore (((s.enqueue p pc).placed h ps).newerThan s.arrival) p (s.span pc.span).queue.background :=
          insertBefore_congr fun q hq => (State.newerThan_congr (hother (hnot hq)) _).symm
        rw [entrants_cons_of_onSpan (by simp [Pool.onSpan_of_get hbase]), ← harr, hnext, State.span_enqueue, if_pos rfl,
          State.enteredQueue_untimed ((hp.deadlineOf_ref (by simp)).trans hd) fun hin => hnot hin (by simp)]
        simp only [List.foldl_cons, hins]
      · rw [entrants_cons_of_not_onSpan (by simp [Pool.onSpan_of_get hbase, hj]), ← harr]
        rwa [State.span_enqueue, if_neg (Ne.symm hj)] at hnext
    · rw [State.placed, List.foldl_cons, hplace, ← State.placed, List.filter_cons_of_neg (by simp [hok])]
      simpa using ih next hd

end

end Sys2Proof.Machine
end

section
/-! PROOFS. The settle timer's expiry and the release of a held frame (R76, R77). -/

namespace Sys2Proof.Machine

/-! ## Arrival sequences and positions of a run -/

theorem numbered_eq_zipIdx (a : ArrivalSeq) (l : List Nat) (k : Nat) : numbered (a + BitVec.ofNat 32 k) l =
    (l.zipIdx k).map fun x => (x.1, a + BitVec.ofNat 32 x.2) := by
  induction l generalizing k with
  | nil => rfl
  | cons p r ih =>
    have hnext : a + BitVec.ofNat 32 k + 1 = a + BitVec.ofNat 32 (k + 1) := by bv_omega
    rw [numbered, hnext, ih, List.zipIdx_cons, List.map_cons]

theorem numbered_eq (a : ArrivalSeq) (l : List Nat) :
    numbered a l = l.zipIdx.map fun x => (x.1, a + BitVec.ofNat 32 x.2) := by
  simpa using numbered_eq_zipIdx a l 0

theorem entrants_eq (base : Pool Piece) (j : SpanId) (a : ArrivalSeq) (l : List Nat) : entrants base j a l =
    (l.zipIdx.filter fun x => base.onSpan j x.1).map fun x => (x.1, a + BitVec.ofNat 32 x.2) := by
  rw [entrants, numbered_eq, List.filter_map]
  rfl

/-! ## The finish of a frame in another state -/

theorem State.finishFrame_streams_congr {s t : State} (hs : t.streams = s.streams) (ht : t.time = s.time) (i : Nat)
    (g : Frame) : (t.finishFrame i g).streams = (s.finishFrame i g).streams := by
  simp only [State.finishFrame_eq, hs, ht]

theorem State.frameDone_nodes_congr {s t : State} (hn : t.nodes = s.nodes) (ht : t.time = s.time) (n : NodeId)
    (status : FrameStatus) (body : List Field) : (t.frameDone n status body).nodes = (s.frameDone n status body).nodes := by
  simp only [State.frameDone, State.modNode, State.node, hn, ht]

theorem State.finishFrame_nodes_congr {s t : State} (hn : t.nodes = s.nodes) (ht : t.time = s.time) (i : Nat) (g : Frame) :
    (t.finishFrame i g).nodes = (s.finishFrame i g).nodes := by
  have hnode (m : NodeId) : t.node m = s.node m := by simp only [State.node, hn]
  simp only [State.finishFrame_eq, hnode, ht]
  split
  · exact State.frameDone_nodes_congr hn ht ..
  · exact hn

theorem State.finishFrame_frames (s : State) (i : Nat) (g : Frame) : (s.finishFrame i g).frames = s.frames.free i := by
  rw [State.finishFrame_eq]

/-! ## The release of one frame -/

/-- The HELD pieces of a frame, in stripe order. -/
def State.heldOf (s : State) (f : Frame) : List Nat := f.pieceRefs.filter fun p => decide (s.pieceState p = some .held)

/-- A frame about to be released, under its deadline (R38). -/
def State.dueFrame (s : State) (i : Nat) : State :=
  s.modFrame i fun f => { f with deadline := some (plusMicros s.time s.deadlineUnit.scrubTarget) }

theorem State.releaseFrame_of_held {s : State} {i : Nat} {f : Frame} (hf : s.frames.get i = some f)
    (hheld : s.heldOf f ≠ []) : s.releaseFrame i =
      ((s.dueFrame i).placed f.stream.handle (s.heldOf f)).finishIfDone i := by
  simp only [State.heldOf] at hheld
  simp only [State.releaseFrame, hf, if_neg hheld]
  rfl

section

variable {s : State} {i : Nat} {f : Frame} (hback : s.refersBack i f)
include hback

theorem State.refersBack.releaseFrame_of_none (hheld : s.heldOf f = []) : s.releaseFrame i = s := by
  simp only [State.heldOf] at hheld
  simp only [State.releaseFrame, hback.1, if_pos hheld]

theorem State.refersBack.dueFrame : (s.dueFrame i).refersBack i
    { f with deadline := some (plusMicros s.time s.deadlineUnit.scrubTarget) } := by
  obtain ⟨hf, hsf, hsp, hrefs⟩ := hback
  exact ⟨by simp [State.dueFrame, Pool.get_modify, hf], by simpa [State.dueFrame, Pool.sorted] using hsf,
    by simpa [State.dueFrame] using hsp, by simpa [State.dueFrame] using hrefs⟩

/-- The HELD pieces of a frame stand to be placed: no list holds one. -/
theorem State.refersBack.placing_held (hl : ∀ j, ∀ q ∈ s.queued j, s.pieceState q ≠ some .held) {ok : Nat → Bool}
    (hok : ∀ p, ok p = s.passes f.stream.handle p) : (s.dueFrame i).Placing f.stream.handle i
      { f with deadline := some (plusMicros s.time s.deadlineUnit.scrubTarget) } s.pieces ok (s.heldOf f) where
  back := hback.dueFrame
  refs := fun _ hp => (List.mem_filter.1 hp).1
  nodup := hback.nodup.filter _
  same := fun _ _ => rfl
  test := fun _ _ => hok _
  unlisted := fun j q hq hin => hl j q hq (of_decide_eq_true (List.mem_filter.1 hin).2)

end

/-- The frame as it is released: under its deadline, the pieces that cannot be placed finished SPAN_LOST (R77). -/
def Frame.released (f : Frame) (d : Time) (held : List Nat) (ok : Nat → Bool) : Frame :=
  { f with deadline := some d }.finishing (fun p => decide (p ∈ held) && !ok p) .spanLost

theorem Frame.released_eq (f : Frame) (d : Time) (held : List Nat) (ok : Nat → Bool) : f.released d held ok = { f with
    deadline := some d,
    positions := f.positions.map fun x => match x with
      | .piece p => if p ∈ held ∧ ok p = false then .finished .spanLost else .piece p
      | .finished o => .finished o } := by
  unfold Frame.released Frame.finishing
  congr 1
  refine List.map_congr_left fun x _ => ?_
  cases x with
  | finished o => rfl
  | piece p =>
    exact if_congr (by simp) rfl rfl

/-- A released frame with nothing left had no piece placed. -/
theorem Frame.released_pieceRefs_nil {f : Frame} {d : Time} {held : List Nat} {ok : Nat → Bool}
    (hsub : ∀ p ∈ held, p ∈ f.pieceRefs) (h : (f.released d held ok).pieceRefs = []) : held.filter ok = [] := by
  refine List.filter_eq_nil_iff.2 fun p hp hok => ?_
  rw [Frame.released, Frame.pieceRefs_finishing] at h
  exact List.filter_eq_nil_iff.1 h p (hsub p hp) (by simp [hok])

theorem State.Placing.sorted_frames {s : State} {h : Handle} {i : Nat} {f : Frame} {base : Pool Piece} {ok : Nat → Bool}
    {ps : List Nat} (hp : s.Placing h i f base ok ps) : (s.placed h ps).frames.sorted := by
  rw [hp.frames, Pool.sorted, Pool.keys_modify]
  exact hp.back.2.1

/-- A queue that nothing entered stands as it was in every state that has the same queue. -/
theorem State.Entered.of_nil {v t : State} {j : SpanId} {q : SpanQueue} {d : Time} (he : v.Entered j q d [])
    (hq : (t.span j).queue = (v.span j).queue) : t.Entered j q d [] where
  deadlines := by rw [hq, he.deadlines]; rfl
  background := by rw [hq, he.background]
  timers := fun h => absurd rfl h
  kept := fun h => by rw [hq, he.kept h]

/-- Settles O34: the expiry, and what a release does to the frame, its pieces and their queues. -/
theorem settleExpiryReleasesHeldFrames : Obligations.SettleExpiryReleasesHeldFrames := by
  refine ⟨fun h s st t hst ht hr => ?_, fun s i f hback hl => ?_⟩
  · change execSettleTimerExpiry h s = _
    simp [execSettleTimerExpiry, hst, ht, reached, hr]
  intro t held spanOk placed d g
  have hok (p : Nat) : spanOk p = s.passes f.stream.handle p := by
    simp only [spanOk, State.passes]
    cases s.pieces.get p <;> rfl
  refine ⟨hback.releaseFrame_of_none, fun hheld => ?_⟩
  have hg : g = f.released d held spanOk := (f.released_eq d held spanOk).symm
  have hp : (s.dueFrame i).Placing f.stream.handle i { f with deadline := some d } s.pieces spanOk held :=
    hback.placing_held hl hok
  obtain ⟨v, hv⟩ : ∃ v, v = (s.dueFrame i).placed f.stream.handle held := ⟨_, rfl⟩
  have hget : v.frames.get i = some g := by
    rw [hg, hv]
    exact hp.get_frame
  have ht : t = if g.pieceRefs = [] then v.finishFrame i g else v := by
    rw [← State.finishIfDone_of_get hget, hv]
    exact State.releaseFrame_of_held hback.1 hheld
  have hkeep {α : Type} (field : State → α) (hfield : field (v.finishFrame i g) = field v) : field t = field v := by
    rw [ht]
    split <;> [exact hfield; rfl]
  have hstreams : v.streams = s.streams := by simp [hv, State.dueFrame]
  have hnodes : v.nodes = s.nodes := by simp [hv, State.dueFrame]
  have htime : v.time = s.time := by simp [hv, State.dueFrame]
  have hpieces : t.pieces = v.pieces := hkeep State.pieces (by simp)
  refine ⟨fun hleft => ?_, fun hnone => ?_, fun p hheldp hno => ?_, fun x hx pc hpc => ?_, fun q hq => ?_, fun k hk => ?_,
    ?_, ?_, ?_, fun j => ?_⟩
  · rw [ht, if_neg hleft]
    exact ⟨hget, hstreams, hnodes⟩
  · rw [ht, if_pos hnone]
    exact ⟨by rw [State.finishFrame_frames, Pool.get_free_self (by rw [hv]; exact hp.sorted_frames)], State.finishFrame_streams_congr hstreams htime i g,
      State.finishFrame_nodes_congr hnodes htime i g⟩
  · rw [hpieces, hv]
    exact hp.pieces_lost hheldp hno
  · have hin : (x.1, s.arrival + BitVec.ofNat 32 x.2) ∈ numbered s.arrival (held.filter spanOk) := by
      rw [numbered_eq]
      exact List.mem_map_of_mem hx
    rw [hpieces, hv]
    exact (hp.pieces_placed hin).trans (by rw [hpc]; rfl)
  · rw [hpieces, hv]
    exact hp.pieces_other hq
  · have hframes : v.frames.get k = s.frames.get k := by
      rw [hv, hp.frames, Pool.get_modify, if_neg hk, State.dueFrame, State.modFrame_frames, Pool.get_modify, if_neg hk]
    rw [← hframes, ht]
    split
    · rw [State.finishFrame_frames, Pool.get_free_ne _ hk]
    · rfl
  · rw [hkeep State.arrival (by simp), hv, hp.arrival, List.length_zipIdx]
    rfl
  · have hfst : held.filter spanOk = placed.map Prod.fst := (List.zipIdx_map_fst ..).symm
    rw [hkeep State.reports (by simp), hv, hp.reports, hfst, List.filterMap_map]
    rfl
  · rw [ht]
    split <;> simp [hv, State.dueFrame]
  · intro mine
    have hmine : entrants s.pieces j s.arrival (held.filter spanOk) = mine.map fun x => (x.1, s.arrival + BitVec.ofNat 32 x.2) :=
      entrants_eq ..
    have he : t.Entered j (s.span j).queue d (entrants s.pieces j s.arrival (held.filter spanOk)) := by
      have hev : v.Entered j (s.span j).queue d (entrants s.pieces j s.arrival (held.filter spanOk)) := by
        rw [hv]
        exact hp.queue_timed rfl j
      by_cases hnone : g.pieceRefs = []
      · have hnil : held.filter spanOk = [] :=
          Frame.released_pieceRefs_nil (fun p hp => (List.mem_filter.1 hp).1) (by rw [← hg]; exact hnone)
        rw [hnil] at hev ⊢
        exact hev.of_nil (hkeep (fun u => (u.span j).queue) (by simp))
      · rw [ht, if_neg hnone]
        exact hev
    rw [hmine] at he
    refine ⟨?_, ?_, he.background, fun hne => he.timers (by simpa using hne), fun hnil => he.kept (by simp [hnil])⟩
    · rw [ht]
      split <;> simp [hv, State.dueFrame]
    · rw [he.deadlines, List.foldl_map]

end Sys2Proof.Machine
end

section
/-! PROOFS. Records allocated from the pools at an acceptance (R4, R51, R56). -/

namespace Sys2Proof.Machine

section

variable {α : Type}

/-- Two pools in order are the same when they hold the same records. -/
theorem Pool.ext_of_sorted {p q : Pool α} (hp : p.sorted) (hq : q.sorted) (h : ∀ k, Pool.get p k = Pool.get q k) :
    p = q := by
  have hsub {p q : Pool α} (hp : p.sorted) (h : ∀ k, Pool.get p k = Pool.get q k) : p ⊆ q := fun x hx =>
    Pool.mem_of_get (by rw [← h, Pool.get_of_mem hp hx])
  have hnodup {p : Pool α} (hp : p.sorted) : List.Nodup p :=
    List.Nodup.of_map Prod.fst (List.Pairwise.imp Nat.ne_of_lt hp)
  have hperm : List.Perm p q := (List.perm_ext_iff_of_nodup (hnodup hp) (hnodup hq)).2 fun x =>
    ⟨fun hx => hsub hp h hx, fun hx => hsub hq (fun k => (h k).symm) hx⟩
  have hlt {p : Pool α} (hp : p.sorted) : List.Pairwise (fun x y : Nat × α => x.1 < y.1) p := List.pairwise_map.1 hp
  exact hperm.eq_of_pairwise (fun x y _ _ hxy hyx => absurd hxy (Nat.lt_asymm hyx)) (hlt hp) (hlt hq)

theorem Pool.modify_put (p : Pool α) (i : Nat) (v : α) (f : α → α) :
    Pool.modify (Pool.put p i v) i f = Pool.put p i (f v) := by
  induction p with
  | nil => simp [Pool.put, Pool.modify]
  | cons x r ih =>
    obtain ⟨k, w⟩ := x
    simp only [Pool.put]
    split
    · simp [Pool.modify]
    · split
      · simp [Pool.modify]
      · rename_i h
        simp [Pool.modify, Ne.symm h, ih]

/-- A record taken and freed leaves the pool as it was. -/
theorem Pool.free_put {p : Pool α} (hp : p.sorted) {i : Nat} (h : Pool.get p i = none) (v : α) :
    Pool.free (Pool.put p i v) i = p := by
  refine Pool.ext_of_sorted (Pool.sorted_free (Pool.sorted_put hp i v) i) hp fun k => ?_
  by_cases hk : k = i
  · subst hk
    rw [Pool.get_free_self (Pool.sorted_put hp k v), h]
  · rw [Pool.get_free_ne _ hk, Pool.get_put, if_neg hk]

end

/-! ## The lowest free numbers -/

theorem length_lowestManyFrom (n : Nat) (used : List Nat) (i : Nat) : (lowestManyFrom n used i).length = n := by
  induction n generalizing i with
  | zero => rfl
  | succ n ih => simp [lowestManyFrom, ih]

theorem le_of_mem_lowestManyFrom {n : Nat} {used : List Nat} {i q : Nat} (h : q ∈ lowestManyFrom n used i) : i ≤ q := by
  induction n generalizing i with
  | zero => cases h
  | succ n ih =>
    have hge := lowestFrom_ge used i
    rcases List.mem_cons.1 h with rfl | h
    · exact hge
    · have := ih h
      omega

theorem not_mem_used_of_mem_lowestManyFrom {used : List Nat} (hused : used.Pairwise (· < ·)) {n i q : Nat}
    (h : q ∈ lowestManyFrom n used i) : q ∉ used := by
  induction n generalizing i with
  | zero => cases h
  | succ n ih =>
    rcases List.mem_cons.1 h with rfl | h
    · exact lowestFrom_not_mem hused i
    · exact ih h

theorem pairwise_lowestManyFrom (n : Nat) (used : List Nat) (i : Nat) :
    (lowestManyFrom n used i).Pairwise (· < ·) := by
  induction n generalizing i with
  | zero => exact List.Pairwise.nil
  | succ n ih => exact List.pairwise_cons.2 ⟨fun q hq => le_of_mem_lowestManyFrom hq, ih _⟩

/-- No free number below one of them is left out. -/
theorem mem_lowestManyFrom_of_lt {used : List Nat} {n i q r : Nat} (hi : i ≤ q) (hq : q ∉ used)
    (hr : r ∈ lowestManyFrom n used i) (hlt : q < r) : q ∈ lowestManyFrom n used i := by
  induction n generalizing i with
  | zero => cases hr
  | succ n ih =>
    have hle : lowestFrom used i ≤ q := by
      by_contra hlow
      exact hq (mem_of_lt_lowestFrom used i q hi (by omega))
    by_cases he : q = lowestFrom used i
    · exact List.mem_cons.2 (.inl he)
    · rcases List.mem_cons.1 hr with rfl | hr
      · omega
      · exact List.mem_cons_of_mem _ (ih (by omega) hr)

section

variable {α : Type} {p : Pool α} (hp : p.sorted)
include hp

theorem Pool.lowestFree_spec : p.lowestIs p.lowestFree :=
  ⟨Pool.get_lowestFree hp, fun _ h => Pool.get_below_lowestFree p h⟩

theorem Pool.lowestFreeMany_spec (n : Nat) : p.lowestAre (p.lowestFreeMany n) := by
  refine ⟨pairwise_lowestManyFrom .., fun q hq => ?_, fun q hq hlt => ?_⟩
  · exact Pool.get_none_iff.2 (not_mem_used_of_mem_lowestManyFrom hp hq)
  · obtain ⟨r, hr, hlt⟩ := hlt
    exact mem_lowestManyFrom_of_lt (Nat.zero_le q) (Pool.get_none_iff.1 hq) hr hlt

end

/-! ## Piece records put in use -/

theorem putPieces_cons (i k p : Nat) (ps : List Nat) (e : SpanEntry) (es : List SpanEntry) (x : Extent) (xs : List Extent)
    (pool : Pool Piece) : putPieces i k (p :: ps) (e :: es) (x :: xs) pool =
      putPieces i (k + 1) ps es xs (pool.put p (pieceRecord i k e x)) := rfl

section

variable {i : Nat} {ps : List Nat} {es : List SpanEntry} {xs : List Extent} {pool : Pool Piece}
  (hes : es.length = ps.length) (hxs : xs.length = ps.length)
include hes hxs

theorem sorted_putPieces (hpool : pool.sorted) (k : Nat) : (putPieces i k ps es xs pool).sorted := by
  induction ps generalizing k es xs pool with
  | nil => exact hpool
  | cons p ps ih =>
    obtain ⟨e, es, rfl⟩ := List.exists_cons_of_length_eq_add_one hes
    obtain ⟨x, xs, rfl⟩ := List.exists_cons_of_length_eq_add_one hxs
    exact ih (by simpa using hes) (by simpa using hxs) (Pool.sorted_put hpool ..) _

theorem get_putPieces_other {q : Nat} (hq : q ∉ ps) (k : Nat) :
    Pool.get (putPieces i k ps es xs pool) q = Pool.get pool q := by
  induction ps generalizing k es xs pool with
  | nil => rfl
  | cons p ps ih =>
    obtain ⟨e, es, rfl⟩ := List.exists_cons_of_length_eq_add_one hes
    obtain ⟨x, xs, rfl⟩ := List.exists_cons_of_length_eq_add_one hxs
    obtain ⟨hqp, hqps⟩ := not_or.1 (mt List.mem_cons.2 hq)
    rw [putPieces_cons, ih (by simpa using hes) (by simpa using hxs) hqps, Pool.get_put, if_neg hqp]

theorem get_putPieces (hnodup : ps.Nodup) {m p : Nat} {e : SpanEntry} {x : Extent} (hp : ps[m]? = some p)
    (he : es[m]? = some e) (hx : xs[m]? = some x) (k : Nat) :
    Pool.get (putPieces i k ps es xs pool) p = some (pieceRecord i (k + m) e x) := by
  induction ps generalizing k m es xs pool with
  | nil => simp at hp
  | cons p₀ ps ih =>
    obtain ⟨e₀, es, rfl⟩ := List.exists_cons_of_length_eq_add_one hes
    obtain ⟨x₀, xs, rfl⟩ := List.exists_cons_of_length_eq_add_one hxs
    have hes' : es.length = ps.length := by simpa using hes
    have hxs' : xs.length = ps.length := by simpa using hxs
    obtain ⟨hnot, hrest⟩ := List.nodup_cons.1 hnodup
    rw [putPieces_cons]
    cases m with
    | zero =>
      simp only [List.getElem?_cons_zero, Option.some.injEq] at hp he hx
      subst hp he hx
      rw [get_putPieces_other hes' hxs' hnot, Pool.get_put, if_pos rfl]
      rfl
    | succ m =>
      simp only [List.getElem?_cons_succ] at hp he hx
      rw [ih hes' hxs' hrest hp he hx, Nat.add_assoc, Nat.add_comm 1 m]

end

end Sys2Proof.Machine
end

section
/-! PROOFS. An accepted frame read: records, placement, and the finish at once (R51 to R58). -/

namespace Sys2Proof.Machine

/-! ## The parts of an acceptance -/

/-- The frame record and the piece records of an accepted read taken and filled, outstanding raised (R51, R55, R56). -/
def State.allocated (s : State) (n : NodeId) (rec : List Byte) (st : Stream) (kind : FrameKind)
    (deadline : Option Time) : State :=
  let ps := s.pieces.lowestFreeMany st.spans.length
  ({ s with
    frames := s.frames.put s.frames.lowestFree (frameRecord n (s.node n).epoch rec kind deadline ps s.time),
    pieces := putPieces s.frames.lowestFree 0 ps st.spans (recExtents rec (recExtentCount rec)) s.pieces } :
    State).modStream (recStream rec).handle fun st => { st with outstanding := st.outstanding + 1 }

theorem State.acceptRead_eq (s : State) (n : NodeId) (rec : List Byte) (st : Stream) (kind : FrameKind)
    (deadline : Option Time) {v : State} (hv : (s.pieces.lowestFreeMany st.spans.length).foldl
      (State.placePiece (decide (kind = .scrub)) (recStream rec).handle) (s.allocated n rec st kind deadline) = v) :
    s.acceptRead n rec st kind deadline =
      if kind = .scrub ∧ (s.pieces.lowestFreeMany st.spans.length).any v.waits = true then
        v.enterHold (recStream rec).handle st s.frames.lowestFree
      else v.finishIfDone s.frames.lowestFree := by
  subst hv
  rfl

/-! ## What no acceptance changes -/

section

variable {α : Type} (field : State → α)

theorem State.enterHold_keeps (hstream : ∀ s h f, field (State.modStream s h f) = field s)
    (hwithdraw : ∀ r s i, field (State.withdrawFrame r s i) = field s)
    (hrelease : ∀ s i, field (State.releaseFrame s i) = field s) (s : State) (h : Handle) (st : Stream) (i : Nat) :
    field (s.enterHold h st i) = field s := by
  unfold State.enterHold
  extract_lets older joined swept
  have hswept : field swept = field s := by
    unfold swept joined
    split <;> simp only [hstream, foldl_keeps field _ (hwithdraw _)]
  split <;> simp only [hstream, hrelease, hswept]

/-- A part of the state that allocation, placement, hold and finish leave as it was stands through an acceptance. -/
theorem State.acceptRead_keeps (halloc : ∀ (s : State) fs ps, field { s with frames := fs, pieces := ps } = field s)
    (hstream : ∀ s h f, field (State.modStream s h f) = field s)
    (hplace : ∀ hold h s p, field (State.placePiece hold h s p) = field s)
    (hwithdraw : ∀ r s i, field (State.withdrawFrame r s i) = field s)
    (hrelease : ∀ s i, field (State.releaseFrame s i) = field s)
    (hfinish : ∀ s i, field (State.finishIfDone s i) = field s) (s : State) (n : NodeId) (rec : List Byte) (st : Stream)
    (kind : FrameKind) (deadline : Option Time) : field (s.acceptRead n rec st kind deadline) = field s := by
  rw [State.acceptRead_eq s n rec st kind deadline rfl]
  split <;> simp only [State.enterHold_keeps field hstream hwithdraw hrelease, hfinish,
    foldl_keeps field _ (hplace _ _), State.allocated, hstream, halloc]

end

theorem State.acceptRead_frame (s : State) (n : NodeId) (rec : List Byte) (st : Stream) (kind : FrameKind)
    (deadline : Option Time) :
    let t := s.acceptRead n rec st kind deadline
    (t.pending = s.pending ∧ t.time = s.time ∧ t.gens = s.gens ∧ t.config = s.config ∧
        t.defaultSettle = s.defaultSettle ∧ t.orphanGrace = s.orphanGrace ∧ t.deadlineUnit = s.deadlineUnit) ∧
      ∀ j, (t.span j).arbiter = (s.span j).arbiter ∧ (t.span j).service = (s.span j).service ∧
        (t.span j).monitor = (s.span j).monitor ∧ (t.span j).budget = (s.span j).budget := by
  have keeps {α : Type} (field : State → α) := State.acceptRead_keeps field
  refine ⟨⟨?_, ?_, ?_, ?_, ?_, ?_, ?_⟩, fun j => ⟨?_, ?_, ?_, ?_⟩⟩
  · exact keeps State.pending (by simp) (by simp) (by simp) (by simp) (by simp) (by simp) ..
  · exact keeps State.time (by simp) (by simp) (by simp) (by simp) (by simp) (by simp) ..
  · exact keeps State.gens (by simp) (by simp) (by simp) (by simp) (by simp) (by simp) ..
  · exact keeps State.config (by simp) (by simp) (by simp) (by simp) (by simp) (by simp) ..
  · exact keeps State.defaultSettle (by simp) (by simp) (by simp) (by simp) (by simp) (by simp) ..
  · exact keeps State.orphanGrace (by simp) (by simp) (by simp) (by simp) (by simp) (by simp) ..
  · exact keeps State.deadlineUnit (by simp) (by simp) (by simp) (by simp) (by simp) (by simp) ..
  · exact keeps (fun u => (u.span j).arbiter) (fun _ _ _ => rfl) (by simp) (by simp) (by simp) (by simp) (by simp) ..
  · exact keeps (fun u => (u.span j).service) (fun _ _ _ => rfl) (by simp) (by simp) (by simp) (by simp) (by simp) ..
  · exact keeps (fun u => (u.span j).monitor) (fun _ _ _ => rfl) (by simp) (by simp) (by simp) (by simp) (by simp) ..
  · exact keeps (fun u => (u.span j).budget) (fun _ _ _ => rfl) (by simp) (by simp) (by simp) (by simp) (by simp) ..

end Sys2Proof.Machine
end

section
/-! PROOFS. The pieces of an accepted read placed, or all of them lost (R56 to R58, R62). -/

namespace Sys2Proof.Machine

theorem frameRecord_pieceRefs (n : NodeId) (epoch : Epoch) (rec : List Byte) (kind : FrameKind) (deadline : Option Time)
    (ps : List Nat) (now : Time) : (frameRecord n epoch rec kind deadline ps now).pieceRefs = ps := by
  simp [Frame.pieceRefs, frameRecord, List.filterMap_map]

/-- The entry `e` of a span list passes the placement test for a stream of that list (R57). -/
def State.takes (s : State) (st : Stream) (e : SpanEntry) : Bool :=
  decide ((s.span e.span).service.link = .up) && st.spans.any fun x => decide (x.span = e.span) && x.reserved

section

variable {s : State} {n : NodeId} {rec : List Byte} {st cur : Stream} {kind : FrameKind} {deadline : Option Time}

theorem State.allocated_pieces : (s.allocated n rec st kind deadline).pieces =
    putPieces s.frames.lowestFree 0 (s.pieces.lowestFreeMany st.spans.length) st.spans
      (recExtents rec (recExtentCount rec)) s.pieces := rfl

theorem State.length_lowestFreeMany (w : Nat) : (s.pieces.lowestFreeMany w).length = w := length_lowestManyFrom ..

variable (hsp : s.pieces.sorted) (hcount : recExtentCount rec = st.spans.length)
include hcount

theorem length_recExtents : (recExtents rec (recExtentCount rec)).length = st.spans.length := by
  simp [recExtents, hcount]

theorem State.get_allocated_other {q : Nat} (hq : q ∉ s.pieces.lowestFreeMany st.spans.length) :
    (s.allocated n rec st kind deadline).pieces.get q = s.pieces.get q :=
  get_putPieces_other (by rw [State.length_lowestFreeMany])
    (by rw [State.length_lowestFreeMany, length_recExtents hcount]) hq 0

include hsp

theorem State.get_allocated {k p : Nat} {e : SpanEntry} {x : Extent}
    (hp : (s.pieces.lowestFreeMany st.spans.length)[k]? = some p) (he : st.spans[k]? = some e)
    (hx : (recExtents rec (recExtentCount rec))[k]? = some x) :
    (s.allocated n rec st kind deadline).pieces.get p = some (pieceRecord s.frames.lowestFree k e x) := by
  obtain ⟨hrise, -, -⟩ := Pool.lowestFreeMany_spec hsp st.spans.length
  rw [State.allocated_pieces, get_putPieces (by rw [State.length_lowestFreeMany])
    (by rw [State.length_lowestFreeMany, length_recExtents hcount]) (List.Pairwise.imp Nat.ne_of_lt hrise) hp he hx,
    Nat.zero_add]

/-- Every piece record taken is filled from the entry and the extent of its position. -/
theorem State.exists_get_allocated {k p : Nat} (hp : (s.pieces.lowestFreeMany st.spans.length)[k]? = some p) :
    ∃ e x, st.spans[k]? = some e ∧
      (s.allocated n rec st kind deadline).pieces.get p = some (pieceRecord s.frames.lowestFree k e x) := by
  have hk : k < st.spans.length := by
    have := (List.getElem?_eq_some_iff.1 hp).1
    rwa [State.length_lowestFreeMany] at this
  have hk' : k < (recExtents rec (recExtentCount rec)).length := by rwa [length_recExtents hcount]
  exact ⟨_, _, List.getElem?_eq_getElem hk, State.get_allocated hsp hcount hp (List.getElem?_eq_getElem hk)
    (List.getElem?_eq_getElem hk')⟩

variable (hsf : s.frames.sorted) (hl : ∀ j, ∀ q ∈ s.queued j, s.pieces.get q ≠ none)
include hsf hl

/-- The pieces of an accepted read stand to be placed: they refer back to their frame, and no list holds one. -/
theorem State.placing_allocated : (s.allocated n rec st kind deadline).Placing (recStream rec).handle s.frames.lowestFree
    (frameRecord n (s.node n).epoch rec kind deadline (s.pieces.lowestFreeMany st.spans.length) s.time)
    (s.allocated n rec st kind deadline).pieces
    (fun p => (s.allocated n rec st kind deadline).passes (recStream rec).handle p)
    (s.pieces.lowestFreeMany st.spans.length) := by
  obtain ⟨hrise, hfree, -⟩ := Pool.lowestFreeMany_spec hsp st.spans.length
  refine ⟨⟨?_, ?_, ?_, fun k p hk => ?_⟩, fun p hp => ?_, List.Pairwise.imp Nat.ne_of_lt hrise, fun _ _ => rfl,
    fun _ _ => rfl, fun j q hq hin => ?_⟩
  · simp [State.allocated, Pool.get_put]
  · exact Pool.sorted_put hsf ..
  · exact sorted_putPieces (by rw [State.length_lowestFreeMany])
      (by rw [State.length_lowestFreeMany, length_recExtents hcount]) hsp 0
  · have hp : (s.pieces.lowestFreeMany st.spans.length)[k]? = some p := by
      simpa [frameRecord] using hk
    obtain ⟨e, x, -, hget⟩ := State.exists_get_allocated (n := n) (kind := kind) (deadline := deadline) hsp hcount hp
    exact ⟨_, hget, rfl, rfl⟩
  · rw [frameRecord_pieceRefs]
    exact hp
  · exact hl j q hq (hfree q hin)

omit hsf hl

variable (hst : s.stream (recStream rec).handle = some cur) (hspans : cur.spans = st.spans)
include hst hspans

/-- A piece is placed where the entry of its position passes the test. -/
theorem State.passes_allocated {x : Nat × SpanEntry} (hx : x ∈ (s.pieces.lowestFreeMany st.spans.length).zip st.spans) :
    (s.allocated n rec st kind deadline).passes (recStream rec).handle x.1 = s.takes st x.2 ∧
      ∀ j, (s.allocated n rec st kind deadline).pieces.onSpan j x.1 = decide (x.2.span = j) := by
  obtain ⟨k, hk⟩ := List.mem_iff_getElem?.1 hx
  obtain ⟨hp, he⟩ := List.getElem?_zip_eq_some.1 hk
  obtain ⟨e, y, he', hget⟩ := State.exists_get_allocated (n := n) (kind := kind) (deadline := deadline) hsp hcount hp
  rw [he] at he'
  cases he'
  refine ⟨?_, fun j => Pool.onSpan_of_get hget j⟩
  have hstream : (s.allocated n rec st kind deadline).stream (recStream rec).handle =
      some { cur with outstanding := cur.outstanding + 1 } := by
    simp only [State.stream] at hst ⊢
    simp [State.allocated, Pool.get_modify, hst]
  rw [State.passes_of_get hget, State.placeable_of_stream hstream]
  simp only [hspans]
  rfl

/-- The pieces placed are those whose entries pass the test. -/
theorem State.filter_passes_allocated : ((s.pieces.lowestFreeMany st.spans.length).filter
      fun p => (s.allocated n rec st kind deadline).passes (recStream rec).handle p) =
    (((s.pieces.lowestFreeMany st.spans.length).zip st.spans).filter fun x => s.takes st x.2).map Prod.fst := by
  have hfst : s.pieces.lowestFreeMany st.spans.length =
      ((s.pieces.lowestFreeMany st.spans.length).zip st.spans).map Prod.fst :=
    (List.map_fst_zip (by rw [State.length_lowestFreeMany])).symm
  conv_lhs => rw [hfst]
  rw [List.filter_map]
  refine congrArg _ (List.filter_congr fun x hx => ?_)
  exact (State.passes_allocated hsp hcount hst hspans hx).1

end

end Sys2Proof.Machine
end

section
/-! PROOFS. What an acceptance does (R55 to R58, R62). -/

namespace Sys2Proof.Machine

/-- An entry that passes a filter stands there behind those before it that pass. -/
theorem getElem?_filter_of_take {α : Type} {l : List α} {test : α → Bool} {k : Nat} {x : α} (hx : l[k]? = some x)
    (ht : test x = true) : (l.filter test)[((l.take k).filter test).length]? = some x := by
  obtain ⟨hk, hget⟩ := List.getElem?_eq_some_iff.1 hx
  have hsplit : l = l.take k ++ x :: l.drop (k + 1) := by
    rw [← hget, List.getElem_cons_drop, List.take_append_drop]
  have hf : l.filter test = (l.take k).filter test ++ x :: (l.drop (k + 1)).filter test := by
    conv_lhs => rw [hsplit]
    rw [List.filter_append, List.filter_cons_of_pos ht]
  rw [hf, List.getElem?_append_right (le_refl _), Nat.sub_self, List.getElem?_cons_zero]

section

variable {s : State} {n : NodeId} {rec : List Byte} {st cur : Stream} {kind : FrameKind} {deadline : Option Time}

/-- The records taken for an accepted read, each with the span entry of its position. -/
def State.seats (s : State) (st : Stream) : List (Nat × SpanEntry) :=
  (s.pieces.lowestFreeMany st.spans.length).zip st.spans

theorem State.seats_fst : (s.seats st).map Prod.fst = s.pieces.lowestFreeMany st.spans.length :=
  List.map_fst_zip (by rw [State.length_lowestFreeMany])

theorem State.seats_snd : (s.seats st).map Prod.snd = st.spans :=
  List.map_snd_zip (by rw [State.length_lowestFreeMany])

/-- The frame of an accepted read with the positions that were not placed finished SPAN_LOST. -/
theorem frameRecord_finishing {epoch : Epoch} {now : Time} {ok : Nat → Bool}
    (hok : ∀ x ∈ s.seats st, ok x.1 = s.takes st x.2) :
    (frameRecord n epoch rec kind deadline (s.pieces.lowestFreeMany st.spans.length) now).finishing
      (fun p => decide (p ∈ s.pieces.lowestFreeMany st.spans.length) && !ok p) .spanLost = {
        stream := recStream rec, node := n, epoch := epoch, cookie := recCookie rec, number := recArg rec 1, kind := kind,
        deadline := deadline, cancel := none, accepted := now,
        positions := (s.seats st).map fun x => if s.takes st x.2 then .piece x.1 else .finished .spanLost } := by
  simp only [Frame.finishing, frameRecord, List.map_map]
  congr 1
  conv_lhs => rw [← State.seats_fst (s := s)]
  rw [List.map_map]
  refine List.map_congr_left fun x hx => ?_
  have hmem : x.1 ∈ (s.seats st).map Prod.fst := List.mem_map_of_mem hx
  simp only [Function.comp_apply, Position.finishing, hmem, hok x hx, decide_true, Bool.true_and]
  cases s.takes st x.2 <;> rfl

/-- The frame of an accepted read of which every position is finished SPAN_LOST. -/
def State.lostFrame (s : State) (n : NodeId) (rec : List Byte) (st : Stream) (kind : FrameKind) (deadline : Option Time) :
    Frame :=
  { frameRecord n (s.node n).epoch rec kind deadline [] s.time with
    positions := st.spans.map fun _ => .finished .spanLost }

/-- What no position of which is placed has become the lost frame. -/
theorem frameRecord_finishing_lost {ok : Nat → Bool} (hok : ∀ x ∈ s.seats st, ok x.1 = s.takes st x.2)
    (hno : ∀ e ∈ st.spans, s.takes st e = false) :
    (frameRecord n (s.node n).epoch rec kind deadline (s.pieces.lowestFreeMany st.spans.length) s.time).finishing
      (fun p => decide (p ∈ s.pieces.lowestFreeMany st.spans.length) && !ok p) .spanLost =
        s.lostFrame n rec st kind deadline := by
  have hlost : ((s.seats st).map fun x => if s.takes st x.2 then Position.piece x.1 else .finished .spanLost) =
      st.spans.map fun _ => .finished .spanLost := by
    conv_rhs => rw [← State.seats_snd (s := s) (st := st), List.map_map]
    refine List.map_congr_left fun x hx => if_neg ?_
    rw [hno x.2 (by rw [← State.seats_snd (s := s) (st := st)]; exact List.mem_map_of_mem hx)]
    exact Bool.false_ne_true
  rw [frameRecord_finishing hok, hlost]
  rfl

section

variable (hsp : s.pieces.sorted) (hcount : recExtentCount rec = st.spans.length) (hsf : s.frames.sorted)
  (hl : ∀ j, ∀ q ∈ s.queued j, s.pieces.get q ≠ none) (hst : s.stream (recStream rec).handle = some cur)
  (hspans : cur.spans = st.spans)
include hsp hcount hsf hl hst hspans

/-- With a position placed, a PLAY or PARK read ends with the placements. -/
theorem State.acceptRead_placed (hk : kind ≠ .scrub) (hex : ∃ e ∈ st.spans, s.takes st e = true) :
    s.acceptRead n rec st kind deadline = (s.allocated n rec st kind deadline).placed (recStream rec).handle
      (s.pieces.lowestFreeMany st.spans.length) := by
  have hp := State.placing_allocated (n := n) (kind := kind) (deadline := deadline) hsp hcount hsf hl
  rw [State.acceptRead_eq s n rec st kind deadline (v := (s.allocated n rec st kind deadline).placed (recStream rec).handle
    (s.pieces.lowestFreeMany st.spans.length)) (by rw [decide_eq_false hk]; rfl), if_neg fun h => hk h.1,
    State.finishIfDone_of_get hp.get_frame, if_neg]
  obtain ⟨e, he, hok⟩ := hex
  rw [← State.seats_snd (s := s) (st := st)] at he
  obtain ⟨x, hx, rfl⟩ := List.mem_map.1 he
  have hmem : x.1 ∈ s.pieces.lowestFreeMany st.spans.length := by
    rw [← State.seats_fst]
    exact List.mem_map_of_mem hx
  rw [Frame.pieceRefs_finishing, frameRecord_pieceRefs]
  refine List.ne_nil_of_mem (List.mem_filter.2 ⟨hmem, ?_⟩)
  simp [(State.passes_allocated hsp hcount hst hspans hx).1, hok]

/-- With no position placed, a read of any kind finishes at once. -/
theorem State.acceptRead_lost (hno : ∀ e ∈ st.spans, s.takes st e = false) : ∃ v : State,
    s.acceptRead n rec st kind deadline = v.finishFrame s.frames.lowestFree (s.lostFrame n rec st kind deadline) ∧
      v = (s.allocated n rec st kind deadline).placed (recStream rec).handle (s.pieces.lowestFreeMany st.spans.length) ∧
      v.frames = s.frames.put s.frames.lowestFree (s.lostFrame n rec st kind deadline) ∧ v.pieces = s.pieces ∧
      v.arrival = s.arrival ∧ v.reports = s.reports ∧ ∀ j, (v.span j).queue = (s.span j).queue := by
  have hp := State.placing_allocated (n := n) (kind := kind) (deadline := deadline) hsp hcount hsf hl
  have hpno (p : Nat) (hin : p ∈ s.pieces.lowestFreeMany st.spans.length) :
      (s.allocated n rec st kind deadline).passes (recStream rec).handle p = false := by
    rw [← State.seats_fst] at hin
    obtain ⟨x, hx, rfl⟩ := List.mem_map.1 hin
    rw [(State.passes_allocated hsp hcount hst hspans hx).1]
    refine hno _ ?_
    rw [← State.seats_snd (s := s) (st := st)]
    exact List.mem_map_of_mem hx
  have hnil : (s.pieces.lowestFreeMany st.spans.length).filter
      (fun p => (s.allocated n rec st kind deadline).passes (recStream rec).handle p) = [] :=
    List.filter_eq_nil_iff.2 fun p hin => by simp [hpno p hin]
  have hv := hp.foldl_hold hpno (decide (kind = .scrub))
  have hgone : ∀ p ∈ s.pieces.lowestFreeMany st.spans.length, ((s.allocated n rec st kind deadline).placed
      (recStream rec).handle (s.pieces.lowestFreeMany st.spans.length)).pieces.get p = none :=
    fun p hin => hp.pieces_lost hin (hpno p hin)
  have hlost := frameRecord_finishing_lost (n := n) (rec := rec) (kind := kind) (deadline := deadline)
    (fun x hx => (State.passes_allocated (n := n) (kind := kind) (deadline := deadline) hsp hcount hst hspans hx).1) hno
  refine ⟨_, ?_, rfl, ?_, ?_, ?_, ?_, fun j => ?_⟩
  · have hwait : ¬ (kind = .scrub ∧ (s.pieces.lowestFreeMany st.spans.length).any ((s.allocated n rec st kind deadline).placed
        (recStream rec).handle (s.pieces.lowestFreeMany st.spans.length)).waits = true) := by
      rintro ⟨-, hany⟩
      obtain ⟨p, hin, hw⟩ := List.any_eq_true.1 hany
      simp [State.waits, hgone p hin] at hw
    rw [State.acceptRead_eq s n rec st kind deadline hv, if_neg hwait, State.finishIfDone_of_get hp.get_frame, if_pos, hlost]
    · rw [Frame.pieceRefs_finishing, frameRecord_pieceRefs]
      exact List.filter_eq_nil_iff.2 fun p hin => by simp [hin, hpno p hin]
  · rw [hp.frames, ← hlost]
    exact Pool.modify_put ..
  · refine Pool.ext_of_sorted (State.sorted_pieces_placed hp.back.2.2.1) hsp fun q => ?_
    by_cases hq : q ∈ s.pieces.lowestFreeMany st.spans.length
    · rw [hgone q hq, (Pool.lowestFreeMany_spec hsp st.spans.length).2.1 q hq]
    · rw [hp.pieces_other hq, State.get_allocated_other hcount hq]
  · rw [hp.arrival, hnil]
    simp [State.allocated]
  · rw [hp.reports, hnil]
    simp [State.allocated]
  · cases hd : deadline with
    | some d =>
      have he := hp.queue_timed (d := d) hd j
      rw [hnil] at he
      subst hd
      exact he.kept rfl
    | none =>
      have he := hp.queue_untimed hd j
      rw [hnil] at he
      subst hd
      exact he

end

end

end Sys2Proof.Machine
end

section
/-! PROOFS. The acceptance of a frame read, as the manual states it. -/

namespace Sys2Proof.Machine

section

variable {s : State} {n : NodeId} {rec : List Byte} {st : Stream} {kind : FrameKind} {deadline : Option Time}

/-! ## The frame that finishes at once -/

theorem State.lostFrame_outcomes :
    (s.lostFrame n rec st kind deadline).outcomes = st.spans.map fun _ => .spanLost := by
  simp only [Frame.outcomes, State.lostFrame, List.filterMap_map]
  exact congrFun (List.filterMap_eq_map (f := fun _ => PieceOutcome.spanLost)) st.spans

theorem State.lostFrame_status (hne : st.spans ≠ []) : (s.lostFrame n rec st kind deadline).status = .failed := by
  have hout : ∀ x ∈ (s.lostFrame n rec st kind deadline).outcomes, x = .spanLost := by
    simp [State.lostFrame_outcomes]
  have hsome : (s.lostFrame n rec st kind deadline).outcomes ≠ [] := by simpa [State.lostFrame_outcomes] using hne
  have hcancel : (s.lostFrame n rec st kind deadline).cancel = none := rfl
  obtain ⟨x, hx⟩ := List.exists_mem_of_ne_nil _ hsome
  rw [Frame.status_eq, hcancel]
  refine (if_neg fun hall => ?_).trans (if_pos fun y hy => ?_)
  · have hok := hall x hx
    rw [hout x hx] at hok
    cases hok
  · rw [hout y hy]
    exact PieceOutcome.noConfusion

/-- The count of a frame lost at its acceptance: outstanding stands where it was, frames_failed advances. -/
theorem State.finishFrame_lost_streams {v : State} {h : Handle} (hh : h = (recStream rec).handle) (hne : st.spans ≠ [])
    (hv : v.streams = s.streams.modify h.toNat fun st => { st with outstanding := st.outstanding + 1 }) (i : Nat) :
    (v.finishFrame i (s.lostFrame n rec st kind deadline)).streams = s.streams.modify h.toNat fun st => { st with
      framesFailed := if st.framesFailed < 4294967295 then st.framesFailed + 1 else st.framesFailed,
      scrubList := st.scrubList.erase i } := by
  have hhandle : (s.lostFrame n rec st kind deadline).stream.handle = h := hh.symm
  rw [State.finishFrame_eq, State.lostFrame_status hne, hhandle]
  dsimp only
  rw [hv, Pool.modify_modify]
  rfl

/-- The FRAME_DONE of a frame lost at its acceptance goes to its node. -/
theorem State.finishFrame_lost_nodes (ha : (s.node n).state = .attached) (hne : st.spans ≠ []) (i : Nat) :
    (s.finishFrame i (s.lostFrame n rec st kind deadline)).nodes = (s.frameDone n .failed
      ([fNat ((recStream rec).handle.toNat + 256 * (recStream rec).gen.toNat), fNat (recCookie rec).toNat,
        fNat (recArg rec 1), fNat kind.code, fBool (isLate (deadline.map fun d => (s.time - d).toInt)),
        fOpt fInt (deadline.map fun d => (s.time - d).toInt)] ++ (fNat st.spans.length ::
        (List.replicate st.spans.length (fNat 3) ++ List.replicate (8 - st.spans.length) none)))).nodes := by
  rw [State.finishFrame_eq, State.lostFrame_status hne, State.lostFrame_outcomes, frameDoneBody_same]
  have hnode : (s.node (s.lostFrame n rec st kind deadline).node).state = .attached ∧
    (s.node (s.lostFrame n rec st kind deadline).node).epoch = (s.lostFrame n rec st kind deadline).epoch := ⟨ha, rfl⟩
  dsimp only
  rw [if_pos hnode]
  rfl

/-! ## The queues that the pieces enter -/

theorem entrants_map_fst {base : Pool Piece} {j : SpanId} {a : ArrivalSeq} {l : List (Nat × SpanEntry)}
    (hl : ∀ x ∈ l, base.onSpan j x.1 = decide (x.2.span = j)) : entrants base j a (l.map Prod.fst) =
      (l.zipIdx.filter fun x => decide (x.1.2.span = j)).map fun x => (x.1.1, a + BitVec.ofNat 32 x.2) := by
  rw [entrants_eq, List.zipIdx_map, List.filter_map, List.map_map]
  refine congrArg _ (List.filter_congr fun x hx => ?_)
  exact hl x.1 (List.fst_mem_of_mem_zipIdx hx)

/-- The selections that the placed pieces start, span by span. -/
theorem reports_map_fst {base : Pool Piece} {l : List (Nat × SpanEntry)}
    (hl : ∀ x ∈ l, ∀ j, base.onSpan j x.1 = decide (x.2.span = j)) :
    (l.map Prod.fst).filterMap (fun p => (base.get p).map fun pc => Report.select pc.span) =
      l.map fun x => .select x.2.span := by
  rw [List.filterMap_map, ← List.filterMap_eq_map]
  refine List.filterMap_congr fun x hx => ?_
  have hspan := hl x hx x.2.span
  cases hget : base.get x.1 with
  | none => simp [Pool.onSpan, hget] at hspan
  | some pc =>
    have hpc : pc.span = x.2.span := by simpa [Pool.onSpan, hget] using hspan
    simp [hget, hpc]

/-! ## The pieces placed -/

theorem length_filter_snd (test : SpanEntry → Bool) (l : List (Nat × SpanEntry)) :
    ((l.map Prod.snd).filter test).length = (l.filter fun x => test x.2).length := by
  simp [List.filter_map, Function.comp_def]

/-- The arrival sequence of a seat that is placed counts the placed seats before it. -/
theorem State.mem_numbered_seats {k p : Nat} {e : SpanEntry} (hp : (s.pieces.lowestFreeMany st.spans.length)[k]? = some p)
    (he : st.spans[k]? = some e) (hok : s.takes st e = true) (a : ArrivalSeq) :
    (p, a + BitVec.ofNat 32 ((st.spans.take k).filter (s.takes st)).length) ∈
      numbered a (((s.seats st).filter fun x => s.takes st x.2).map Prod.fst) := by
  have hseat : (s.seats st)[k]? = some (p, e) := List.getElem?_zip_eq_some.2 ⟨hp, he⟩
  have hbefore : ((st.spans.take k).filter (s.takes st)).length =
      (((s.seats st).take k).filter fun x => s.takes st x.2).length := by
    rw [← length_filter_snd, List.map_take, State.seats_snd]
  rw [numbered_eq, hbefore]
  refine List.mem_map.2 ⟨(p, _), List.mem_zipIdx_iff_getElem?.2 ?_, rfl⟩
  rw [List.getElem?_map, getElem?_filter_of_take hseat hok]
  rfl

end

/-- Settles O28: what no acceptance changes, the pieces placed in their queues, and the finish at once. -/
theorem acceptedFrameIsSplitIntoItsQueues : Obligations.AcceptedFrameIsSplitIntoItsQueues := by
  intro n s rec st cur kind deadline hsf hsp hst hspans hne hcount ha hl h t exts ok
  refine ⟨State.acceptRead_frame s n rec st kind deadline, fun hk hex => ?_, fun hno => ?_⟩
  · have hp := State.placing_allocated (n := n) (kind := kind) (deadline := deadline) hsp hcount hsf hl
    have hseat := fun x => State.passes_allocated (n := n) (kind := kind) (deadline := deadline) hsp hcount hst hspans (x := x)
    have hfilter := State.filter_passes_allocated (n := n) (kind := kind) (deadline := deadline) hsp hcount hst hspans
    have ht : t = (s.allocated n rec st kind deadline).placed h (s.pieces.lowestFreeMany st.spans.length) :=
      State.acceptRead_placed hsp hcount hsf hl hst hspans hk hex
    refine ⟨s.frames.lowestFree, s.pieces.lowestFreeMany st.spans.length, Pool.lowestFree_spec hsf,
      Pool.lowestFreeMany_spec hsp _, State.length_lowestFreeMany _, ?_⟩
    intro placed
    rw [ht]
    refine ⟨?_, fun q hq => ?_, fun k p e x hkp hke hkx => ?_, ?_, ?_, ?_, ?_, fun j => ?_⟩
    · rw [hp.frames]
      refine (Pool.modify_put ..).trans ?_
      rw [frameRecord_finishing fun x hx => (hseat x hx).1]
      rfl
    · rw [hp.pieces_other hq, State.get_allocated_other hcount hq]
    · cases hoke : ok e with
      | true =>
        have hin := State.mem_numbered_seats hkp hke hoke s.arrival
        rw [State.seats, ← hfilter] at hin
        rw [hp.pieces_placed hin, State.get_allocated hsp hcount hkp hke hkx]
        rfl
      | false =>
        have hx : (p, e) ∈ (s.pieces.lowestFreeMany st.spans.length).zip st.spans :=
          List.mem_of_getElem? (List.getElem?_zip_eq_some.2 ⟨hkp, hke⟩)
        exact hp.pieces_lost (List.mem_of_getElem? hkp) ((hseat _ hx).1.trans hoke)
    · rw [hp.arrival, hfilter, List.length_map, ← length_filter_snd, ← State.seats, State.seats_snd]
      rfl
    · simp [State.allocated, h]
    · simp [State.allocated]
    · have hselect : (placed.map Prod.fst).filterMap (fun p => ((s.allocated n rec st kind deadline).pieces.get p).map
          fun pc => Report.select pc.span) = placed.map fun x => .select x.2.span :=
        reports_map_fst fun x hx => (hseat x (List.mem_filter.1 hx).1).2
      rw [hp.reports, hfilter]
      exact congrArg (s.reports ++ ·) hselect
    · intro mine
      have hmine : entrants (s.allocated n rec st kind deadline).pieces j (s.allocated n rec st kind deadline).arrival
          ((((s.pieces.lowestFreeMany st.spans.length).zip st.spans).filter fun x => s.takes st x.2).map Prod.fst) = mine :=
        entrants_map_fst fun x hx => (hseat x (List.mem_filter.1 hx).1).2 j
      refine ⟨fun d hd => ?_, fun hd => ?_⟩
      · have he := hp.queue_timed hd j
        rw [hfilter, hmine] at he
        exact ⟨he.deadlines, he.background, he.timers, he.kept⟩
      · have he := hp.queue_untimed hd j
        rw [hfilter, hmine] at he
        exact he
  · intro lateness late
    obtain ⟨v, ht, hv, hframes, hpieces, harr, hrep, hqueue⟩ := State.acceptRead_lost (n := n) (kind := kind)
      (deadline := deadline) hsp hcount hsf hl hst hspans hno
    have hlow := Pool.lowestFree_spec hsf
    have hlate : isLate lateness = late := rfl
    change t = _ at ht
    rw [ht]
    refine ⟨⟨?_, ?_, ?_, ?_, fun j => ?_⟩, ⟨s.frames.lowestFree, hlow, ?_⟩, ?_⟩
    · rw [State.finishFrame_frames, hframes, Pool.free_put hsf hlow.1]
    · simpa using hpieces
    · simpa using harr
    · simpa using hrep
    · simpa using hqueue j
    · exact State.finishFrame_lost_streams rfl hne (by rw [hv]; simp [State.allocated]) _
    · rw [State.finishFrame_nodes_congr (s := s) (by rw [hv]; simp [State.allocated]) (by rw [hv]; simp [State.allocated]),
        State.finishFrame_lost_nodes ha hne]
      rfl

end Sys2Proof.Machine
end

section
/-! PROOFS. The waiting pieces of a frame withdrawn, one after the other (R61, R86). -/

namespace Sys2Proof.Machine

/-! ## One piece withdrawn -/

/-- A waiting piece out of its queue, where it stands in one, with the selection that starts there (R86). -/
def State.dequeued (s : State) (p : Nat) (pc : Piece) : State :=
  if pc.state = .queued then (s.unlist pc.span p).post (.select pc.span) else s

section

variable (s : State) (p : Nat) (pc : Piece)

@[simp] theorem State.dequeued_frames : (s.dequeued p pc).frames = s.frames := by unfold State.dequeued; split <;> simp
@[simp] theorem State.dequeued_pieces : (s.dequeued p pc).pieces = s.pieces := by unfold State.dequeued; split <;> simp

theorem State.dequeued_reports : (s.dequeued p pc).reports =
    s.reports ++ (if pc.state = .queued then some (Report.select pc.span) else none).toList := by
  unfold State.dequeued
  split <;> simp

theorem State.dequeued_deadlineOf (q : Nat) : (s.dequeued p pc).deadlineOf q = s.deadlineOf q := by
  simp only [State.deadlineOf, State.dequeued_frames, State.dequeued_pieces]

end

theorem State.refersBack.congr {s t : State} {i : Nat} {f : Frame} (h : s.refersBack i f) (hf : t.frames = s.frames)
    (hp : t.pieces = s.pieces) : t.refersBack i f := by
  unfold State.refersBack at h ⊢
  rwa [hf, hp]

theorem State.waits_congr {s t : State} {p : Nat} (h : t.pieces.get p = s.pieces.get p) : t.waits p = s.waits p := by
  simp only [State.waits, h]

/-! ## A run of withdrawals -/

/-- The pieces `ps` of the frame in record `i` are about to be withdrawn, those of `gone` being the ones that wait. `base`
holds their records as they stand. -/
structure State.Leaving (s : State) (i : Nat) (f : Frame) (base : Pool Piece) (gone : Nat → Bool) (ps : List Nat) :
    Prop where
  back : s.refersBack i f
  refs : ∀ p ∈ ps, p ∈ f.pieceRefs
  nodup : ps.Nodup
  same : ∀ p ∈ ps, s.pieces.get p = base.get p
  test : ∀ p ∈ ps, gone p = s.waits p

section

variable {s : State} {i : Nat} {f : Frame} {base : Pool Piece} {gone : Nat → Bool} {p : Nat} {ps : List Nat}
  {o : PieceOutcome}

/-- The next piece leaves if it waits, and the rest stand to be withdrawn as before. -/
theorem State.Leaving.step (hp : s.Leaving i f base gone (p :: ps)) (o : PieceOutcome) :
    ∃ pc, s.pieces.get p = some pc ∧ base.get p = some pc ∧
    ((gone p = false ∧ State.withdrawPiece o s p = s ∧ s.Leaving i f base gone ps) ∨
     (gone p = true ∧ State.withdrawPiece o s p = (s.dequeued p pc).recordOutcome p o ∧
      (s.dequeued p pc).refersBack i f ∧ ((s.dequeued p pc).recordOutcome p o).Leaving i
        (f.finishing (fun q => decide (q = p)) o) base gone ps)) := by
  obtain ⟨back, refs, nodup, same, test⟩ := hp
  have hmem : p ∈ f.pieceRefs := refs p (by simp)
  obtain ⟨pc, hpc, -, -⟩ := back.piece hmem
  obtain ⟨hnot, hnodup⟩ := List.nodup_cons.1 nodup
  refine ⟨pc, hpc, (same p (by simp)).symm.trans hpc, ?_⟩
  rw [test p (by simp)]
  cases hw : s.waits p with
  | false =>
    exact .inl ⟨rfl, State.withdrawPiece_of_inService hw o, back, fun q hq => refs q (by simp [hq]), hnodup,
      fun q hq => same q (by simp [hq]), fun q hq => test q (by simp [hq])⟩
  | true =>
    have hstate : pc.state ≠ .inService := of_decide_eq_true ((State.waits_of_get hpc).symm.trans hw)
    have hback : (s.dequeued p pc).refersBack i f := back.congr (by simp) (by simp)
    have hget {q : Nat} (hq : q ∈ ps) : ((s.dequeued p pc).recordOutcome p o).pieces.get q = s.pieces.get q := by
      rw [hback.recordOutcome_eq hmem, State.dequeued_pieces]
      exact Pool.get_free_ne _ fun e => hnot (e ▸ hq)
    refine .inr ⟨rfl, State.withdrawPiece_of_waits hpc hstate o, hback, hback.recordOutcome hmem o, fun q hq => ?_, hnodup,
      fun q hq => (hget hq).trans (same q (by simp [hq])),
      fun q hq => (test q (by simp [hq])).trans (State.waits_congr (hget hq)).symm⟩
    rw [Frame.pieceRefs_finishing]
    exact List.mem_filter.2 ⟨refs q (by simp [hq]), by simpa using fun e : q = p => hnot (e ▸ hq)⟩

/-- The state after a run of withdrawals. -/
def State.withdrawn (s : State) (o : PieceOutcome) (ps : List Nat) : State := ps.foldl (State.withdrawPiece o) s

theorem State.withdrawn_cons {t : State} (h : State.withdrawPiece o s p = t) :
    s.withdrawn o (p :: ps) = t.withdrawn o ps := by
  rw [State.withdrawn, List.foldl_cons, h, State.withdrawn]

@[simp] theorem State.withdrawn_pending : (s.withdrawn o ps).pending = s.pending := foldl_keeps State.pending _ (by simp) ..
@[simp] theorem State.withdrawn_time : (s.withdrawn o ps).time = s.time := foldl_keeps State.time _ (by simp) ..
@[simp] theorem State.withdrawn_gens : (s.withdrawn o ps).gens = s.gens := foldl_keeps State.gens _ (by simp) ..
@[simp] theorem State.withdrawn_streams : (s.withdrawn o ps).streams = s.streams := foldl_keeps State.streams _ (by simp) ..
@[simp] theorem State.withdrawn_defaultSettle : (s.withdrawn o ps).defaultSettle = s.defaultSettle :=
  foldl_keeps State.defaultSettle _ (by simp) ..
@[simp] theorem State.withdrawn_orphanGrace : (s.withdrawn o ps).orphanGrace = s.orphanGrace :=
  foldl_keeps State.orphanGrace _ (by simp) ..
@[simp] theorem State.withdrawn_deadlineUnit : (s.withdrawn o ps).deadlineUnit = s.deadlineUnit :=
  foldl_keeps State.deadlineUnit _ (by simp) ..
@[simp] theorem State.withdrawn_arrival : (s.withdrawn o ps).arrival = s.arrival := foldl_keeps State.arrival _ (by simp) ..
@[simp] theorem State.withdrawn_nodes : (s.withdrawn o ps).nodes = s.nodes := foldl_keeps State.nodes _ (by simp) ..
@[simp] theorem State.withdrawn_config : (s.withdrawn o ps).config = s.config := foldl_keeps State.config _ (by simp) ..
@[simp] theorem State.withdrawn_arbiter (j : SpanId) : ((s.withdrawn o ps).span j).arbiter = (s.span j).arbiter :=
  foldl_keeps (fun u : State => (u.span j).arbiter) _ (by simp) ..
@[simp] theorem State.withdrawn_service (j : SpanId) : ((s.withdrawn o ps).span j).service = (s.span j).service :=
  foldl_keeps (fun u : State => (u.span j).service) _ (by simp) ..
@[simp] theorem State.withdrawn_monitor (j : SpanId) : ((s.withdrawn o ps).span j).monitor = (s.span j).monitor :=
  foldl_keeps (fun u : State => (u.span j).monitor) _ (by simp) ..
@[simp] theorem State.withdrawn_budget (j : SpanId) : ((s.withdrawn o ps).span j).budget = (s.span j).budget :=
  foldl_keeps (fun u : State => (u.span j).budget) _ (by simp) ..

/-! ## What a run of withdrawals leaves -/

/-- The frame keeps the pieces in service, and the positions of the others are finished with the outcome. -/
theorem State.Leaving.frames (hp : s.Leaving i f base gone ps) (o : PieceOutcome) : (s.withdrawn o ps).frames =
    s.frames.modify i fun f => f.finishing (fun p => decide (p ∈ ps) && gone p) o := by
  induction ps generalizing s f with
  | nil => exact (Pool.modify_id fun g _ => Frame.finishing_none _ (by simp)).symm
  | cons p ps ih =>
    obtain ⟨pc, -, -, ⟨hg, hleave, next⟩ | ⟨hg, hleave, hback, next⟩⟩ := hp.step o
    · rw [State.withdrawn_cons hleave, ih next]
      refine Pool.modify_congr fun g _ => Frame.finishing_congr _ fun q _ => ?_
      by_cases hq : q = p <;> simp [hq, hg]
    · rw [State.withdrawn_cons hleave, ih next, hback.recordOutcome_eq (hp.refs p (by simp)), State.dequeued_frames,
        Pool.modify_modify]
      refine Pool.modify_congr fun g _ => ?_
      rw [Frame.finishing_finishing]
      refine Frame.finishing_congr _ fun q _ => ?_
      by_cases hq : q = p <;> simp [hq, hg]

theorem State.Leaving.get_frame (hp : s.Leaving i f base gone ps) (o : PieceOutcome) : (s.withdrawn o ps).frames.get i =
    some (f.finishing (fun p => decide (p ∈ ps) && gone p) o) := by
  rw [hp.frames, Pool.get_modify, if_pos rfl, hp.back.1]
  rfl

theorem State.Leaving.sorted_frames (hp : s.Leaving i f base gone ps) (o : PieceOutcome) :
    (s.withdrawn o ps).frames.sorted := by
  rw [hp.frames, Pool.sorted, Pool.keys_modify]
  exact hp.back.2.1

/-- A piece that does not leave keeps its record and its frame's deadline. -/
theorem State.Leaving.other (hp : s.Leaving i f base gone ps) (o : PieceOutcome) {q : Nat} (hq : q ∈ ps → gone q = false) :
    (s.withdrawn o ps).pieces.get q = s.pieces.get q ∧ (s.withdrawn o ps).deadlineOf q = s.deadlineOf q := by
  induction ps generalizing s f with
  | nil => exact ⟨rfl, rfl⟩
  | cons p ps ih =>
    have hrest : q ∈ ps → gone q = false := fun h => hq (by simp [h])
    obtain ⟨pc, -, -, ⟨-, hleave, next⟩ | ⟨hg, hleave, hback, next⟩⟩ := hp.step o
    · rw [State.withdrawn_cons hleave]
      exact ih next hrest
    · have hqp : q ≠ p := by
        rintro rfl
        rw [hq (by simp)] at hg
        cases hg
      have hmem := hp.refs p (by simp)
      obtain ⟨hpieces, hdeadline⟩ := ih next hrest
      rw [State.withdrawn_cons hleave, hpieces, hdeadline, hback.recordOutcome_deadlineOf hmem _ hqp,
        State.dequeued_deadlineOf, hback.recordOutcome_eq hmem, State.dequeued_pieces]
      exact ⟨Pool.get_free_ne _ hqp, rfl⟩

theorem State.Leaving.pieces_gone (hp : s.Leaving i f base gone ps) (o : PieceOutcome) {q : Nat} (hq : q ∈ ps)
    (hg : gone q = true) : (s.withdrawn o ps).pieces.get q = none := by
  induction ps generalizing s f with
  | nil => cases hq
  | cons p ps ih =>
    obtain ⟨hnot, -⟩ := List.nodup_cons.1 hp.nodup
    obtain ⟨pc, -, -, ⟨hstay, hleave, next⟩ | ⟨-, hleave, hback, next⟩⟩ := hp.step o
    · rw [State.withdrawn_cons hleave]
      rcases List.mem_cons.1 hq with rfl | hq
      · rw [hg] at hstay
        cases hstay
      · exact ih next hq
    · rw [State.withdrawn_cons hleave]
      rcases List.mem_cons.1 hq with rfl | hq
      · rw [(next.other o fun h => absurd h hnot).1, hback.recordOutcome_eq (hp.refs q (by simp))]
        exact Pool.get_free_self hback.2.2.1 q
      · exact ih next hq

theorem State.Leaving.reports (hp : s.Leaving i f base gone ps) (o : PieceOutcome) : (s.withdrawn o ps).reports =
    s.reports ++ (ps.filter gone).filterMap fun p => match base.get p with
      | none => none
      | some pc => if pc.state = .queued then some (.select pc.span) else none := by
  induction ps generalizing s f with
  | nil => simp [State.withdrawn]
  | cons p ps ih =>
    obtain ⟨pc, -, hpc, ⟨hg, hleave, next⟩ | ⟨hg, hleave, -, next⟩⟩ := hp.step o
    · rw [State.withdrawn_cons hleave, ih next, List.filter_cons_of_neg (by simp [hg])]
    · rw [State.withdrawn_cons hleave, ih next, List.filter_cons_of_pos hg, List.filterMap_cons, hpc,
        State.recordOutcome_reports, State.dequeued_reports, List.append_assoc]
      by_cases hq : pc.state = .queued <;> simp [hq]

end

end Sys2Proof.Machine
end

section
/-! PROOFS. The queues after a run of withdrawals (R43, R86, R96). -/

namespace Sys2Proof.Machine

/-- The queue of span `j` after the pieces `removed` have left it: both lists keep the rest in order, and the timers are
armed anew where the deadline list lost a piece. -/
structure State.Left (t : State) (j : SpanId) (before : SpanQueue) (removed : List Nat) : Prop where
  deadlines : (t.span j).queue.deadlines = before.deadlines.filter fun q => decide (q ∉ removed)
  background : (t.span j).queue.background = before.background.filter fun q => decide (q ∉ removed)
  rearmed : (∃ q ∈ before.deadlines, q ∈ removed) → (t.span j).queue.deadlineTimer = t.deadlineArm j ∧
    (t.span j).queue.windowTimer = t.windowRearmed j before.windowTimer
  kept : (∀ q ∈ before.deadlines, q ∉ removed) → (t.span j).queue.deadlineTimer = before.deadlineTimer ∧
    (t.span j).queue.windowTimer = before.windowTimer

section

variable {s t : State} {j : SpanId} {p : Nat} {before : SpanQueue} {removed : List Nat}

theorem State.Left.nil : s.Left j (s.span j).queue [] := by
  refine ⟨?_, ?_, ?_, fun _ => ⟨rfl, rfl⟩⟩ <;> simp

/-- A state with the same queue, deadlines, bounds and time. -/
theorem State.Left.congr (h : s.Left j before removed) (hq : (t.span j).queue = (s.span j).queue)
    (hd : ∀ q ∈ (s.span j).queue.deadlines, t.deadlineOf q = s.deadlineOf q)
    (ha : (t.span j).arbiter = (s.span j).arbiter) (ht : t.time = s.time) : t.Left j before removed := by
  obtain ⟨harm, hwin⟩ := State.armed_congr (by rw [hq]) hd ha ht
  refine ⟨by rw [hq, h.deadlines], by rw [hq, h.background], fun hex => ?_, fun hall => ?_⟩
  · rw [hq, harm, hwin]
    exact h.rearmed hex
  · rw [hq]
    exact h.kept hall

theorem filter_not_mem_cons (l : List Nat) (p : Nat) (removed : List Nat) :
    (l.filter fun q => decide (q ∉ [p])).filter (fun q => decide (q ∉ removed)) =
      l.filter fun q => decide (q ∉ p :: removed) := by
  rw [List.filter_filter]
  refine List.filter_congr fun q _ => ?_
  by_cases hq : q = p <;> simp [hq]

/-- One piece leaves, and then others: they leave together. -/
theorem State.Left.cons (h : s.Left j before [p]) (h' : t.Left j (s.span j).queue removed)
    (hd : ∀ q ∈ (t.span j).queue.deadlines, t.deadlineOf q = s.deadlineOf q)
    (ha : (t.span j).arbiter = (s.span j).arbiter) (ht : t.time = s.time) : t.Left j before (p :: removed) := by
  have hmem {q : Nat} : q ∈ (s.span j).queue.deadlines ↔ q ∈ before.deadlines ∧ q ≠ p := by simp [h.deadlines]
  have hsub {q : Nat} (hq : q ∈ (t.span j).queue.deadlines) : q ∈ (s.span j).queue.deadlines := by
    rw [h'.deadlines] at hq
    exact (List.mem_filter.1 hq).1
  have hcross : ∀ x ∈ t.crossings j, x ∈ s.crossings j := fun x hx => by
    obtain ⟨q, hq, d, hqd, hx⟩ := mem_crossings.1 hx
    rw [hd q hq] at hqd
    rw [ha] at hx
    exact mem_crossings.2 ⟨q, hsub hq, d, hqd, hx⟩
  refine ⟨?_, ?_, fun hex => ?_, fun hall => ?_⟩
  · rw [h'.deadlines, h.deadlines, filter_not_mem_cons]
  · rw [h'.background, h.background, filter_not_mem_cons]
  · by_cases hmore : ∃ q ∈ (s.span j).queue.deadlines, q ∈ removed
    · obtain ⟨harm, hwin⟩ := h'.rearmed hmore
      refine ⟨harm, hwin.trans ?_⟩
      by_cases hp : p ∈ before.deadlines
      · rw [(h.rearmed ⟨p, hp, by simp⟩).2]
        exact State.windowRearmed_twice ht hcross _
      · rw [(h.kept fun q hq hin => hp (by rwa [← List.mem_singleton.1 hin])).2]
    · have hno : ∀ q ∈ (s.span j).queue.deadlines, q ∉ removed := fun q hq hin => hmore ⟨q, hq, hin⟩
      have hp : p ∈ before.deadlines := by
        obtain ⟨q, hq, hin⟩ := hex
        by_cases hqp : q = p
        · exact hqp ▸ hq
        · exact absurd ((List.mem_cons.1 hin).resolve_left hqp) (hno q (hmem.2 ⟨hq, hqp⟩))
      have hlist : (t.span j).queue.deadlines = (s.span j).queue.deadlines := by
        rw [h'.deadlines]
        exact List.filter_eq_self.2 fun q hq => decide_eq_true (hno q hq)
      obtain ⟨harm, hwin⟩ := State.armed_congr hlist (fun q hq => hd q (by rwa [hlist])) ha ht
      obtain ⟨harm', hwin'⟩ := h'.kept hno
      rw [harm', hwin', harm, hwin]
      exact h.rearmed ⟨p, hp, by simp⟩
  · have hp : ∀ q ∈ before.deadlines, q ∉ [p] := fun q hq hin => hall q hq (by simp [List.mem_singleton.1 hin])
    obtain ⟨harm, hwin⟩ := h.kept hp
    obtain ⟨harm', hwin'⟩ := h'.kept fun q hq hin => hall q (hmem.1 hq).1 (by simp [hin])
    exact ⟨harm'.trans harm, hwin'.trans hwin⟩

theorem filter_ne_of_not_mem {l : List Nat} (h : p ∉ l) : (l.filter fun q => decide (q ∉ [p])) = l :=
  List.filter_eq_self.2 fun q hq => by
    have hne : q ≠ p := fun e => h (e ▸ hq)
    simp [hne]

theorem erase_eq_filter_of_nodup {l : List Nat} (h : l.Nodup) : l.erase p = l.filter fun q => decide (q ∉ [p]) := by
  rw [h.erase_eq_filter]
  refine List.filter_congr fun q _ => ?_
  by_cases hq : q = p <;> simp [hq]

/-! ## One piece -/

/-- A piece that no list of a span holds leaves nothing there. -/
theorem State.Left.of_not_queued (hp : p ∉ s.queued j) (hq : (t.span j).queue = (s.span j).queue) :
    t.Left j (s.span j).queue [p] := by
  obtain ⟨hpd, hpb⟩ := not_or.1 (mt List.mem_append.2 hp)
  refine ⟨by rw [hq, filter_ne_of_not_mem hpd], by rw [hq, filter_ne_of_not_mem hpb], fun ⟨q, hq, hin⟩ => ?_,
    fun _ => by rw [hq]; exact ⟨rfl, rfl⟩⟩
  exact absurd (List.mem_singleton.1 hin ▸ hq) hpd

/-- A piece leaves whichever list of the span holds it. -/
theorem State.left_unlist (hnodup : (s.queued j).Nodup) :
    (s.unlist j p).Left j (s.span j).queue [p] := by
  obtain ⟨hnd, hnb, hdisj⟩ := List.nodup_append.1 hnodup
  by_cases hpd : p ∈ (s.span j).queue.deadlines
  · have hpb : p ∉ (s.span j).queue.background := fun hin => hdisj p hpd p hin rfl
    have hq := State.unlist_queue_listed hpd
    refine ⟨?_, ?_, fun _ => ?_, fun hall => absurd (List.mem_singleton.2 rfl) (hall p hpd)⟩
    · rw [hq, ← erase_eq_filter_of_nodup hnd]
    · rw [hq, filter_ne_of_not_mem hpb]
    · rw [hq]
      exact ⟨rfl, rfl⟩
  · have hq := State.unlist_queue_unlisted hpd
    refine ⟨?_, ?_, fun ⟨q, hq, hin⟩ => absurd (List.mem_singleton.1 hin ▸ hq) hpd, fun _ => ?_⟩
    · rw [hq, filter_ne_of_not_mem hpd]
    · rw [hq, ← erase_eq_filter_of_nodup hnb]
    · rw [hq]
      exact ⟨rfl, rfl⟩

theorem State.left_dequeued {pc : Piece} (hnodup : (s.queued j).Nodup)
    (hplace : p ∈ s.queued j ↔ pc.span = j ∧ pc.state = .queued) :
    (s.dequeued p pc).Left j (s.span j).queue [p] := by
  by_cases hin : p ∈ s.queued j
  · obtain ⟨rfl, hstate⟩ := hplace.1 hin
    rw [State.dequeued, if_pos hstate]
    exact (State.left_unlist hnodup).congr rfl (fun _ _ => rfl) rfl rfl
  · refine State.Left.of_not_queued hin ?_
    unfold State.dequeued
    split
    · rename_i hstate
      have hspan : j ≠ pc.span := fun e => hin (hplace.2 ⟨e.symm, hstate⟩)
      rw [State.span_post, State.unlist_span_ne s hspan]
    · rfl

theorem State.Left.queued (h : t.Left j (s.span j).queue removed) :
    t.queued j = (s.queued j).filter fun q => decide (q ∉ removed) := by
  rw [State.queued, h.deadlines, h.background, ← List.filter_append]
  rfl

end

/-- Every waiting piece of a run that stands in a list is QUEUED and stands in its own span's; no list holds a piece twice. -/
structure State.Seated (s : State) (base : Pool Piece) (gone : Nat → Bool) (ps : List Nat) : Prop where
  nodup : ∀ j, (s.queued j).Nodup
  place : ∀ p ∈ ps, gone p = true → ∀ pc, base.get p = some pc →
    ∀ j, p ∈ s.queued j ↔ pc.span = j ∧ pc.state = .queued

section

variable {s : State} {i : Nat} {f : Frame} {base : Pool Piece} {gone : Nat → Bool} {p : Nat} {ps : List Nat}

theorem State.Seated.tail (h : s.Seated base gone (p :: ps)) : s.Seated base gone ps :=
  ⟨h.nodup, fun q hq => h.place q (List.mem_cons_of_mem _ hq)⟩

theorem State.Seated.next {t : State} (h : s.Seated base gone (p :: ps)) (hp : p ∉ ps)
    (hleft : ∀ j, t.Left j (s.span j).queue [p]) : t.Seated base gone ps := by
  refine ⟨fun j => ?_, fun q hq hg pc hpc j => ?_⟩
  · rw [(hleft j).queued]
    exact (h.nodup j).filter _
  · have hqp : q ≠ p := fun e => hp (e ▸ hq)
    rw [← h.place q (by simp [hq]) hg pc hpc j, (hleft j).queued]
    simp [hqp]

/-- After a run of withdrawals each queue has lost the pieces withdrawn. -/
theorem State.Leaving.left (hp : s.Leaving i f base gone ps) (hs : s.Seated base gone ps) (o : PieceOutcome)
    (j : SpanId) : (s.withdrawn o ps).Left j (s.span j).queue (ps.filter gone) := by
  induction ps generalizing s f with
  | nil => exact State.Left.nil
  | cons p ps ih =>
    obtain ⟨hnot, -⟩ := List.nodup_cons.1 hp.nodup
    obtain ⟨pc, -, hpc, ⟨hg, hleave, next⟩ | ⟨hg, hleave, hback, next⟩⟩ := hp.step o
    · rw [State.withdrawn_cons hleave, List.filter_cons_of_neg (by simp [hg])]
      exact ih next hs.tail
    · have hmem := hp.refs p (by simp)
      have hone (k : SpanId) : ((s.dequeued p pc).recordOutcome p o).Left k (s.span k).queue [p] := by
        have hleft := State.left_dequeued (hs.nodup k) (hs.place p (by simp) hg pc hpc k)
        refine hleft.congr (by simp) (fun q hq => ?_) (by simp) (by simp)
        refine hback.recordOutcome_deadlineOf hmem o fun e => ?_
        rw [hleft.deadlines, e] at hq
        simp at hq
      have hrest := ih next (hs.next hnot hone)
      rw [State.withdrawn_cons hleave, List.filter_cons_of_pos hg]
      refine (hone j).cons hrest (fun q hq => (next.other o fun hin => ?_).2) (by simp) (by simp)
      rw [hrest.deadlines] at hq
      have hout := of_decide_eq_true (List.mem_filter.1 hq).2
      exact Bool.eq_false_iff.2 fun hgq => hout (List.mem_filter.2 ⟨hin, hgq⟩)

end

end Sys2Proof.Machine
end

section
/-! PROOFS. The withdrawal of a frame (R61, R32, R78). -/

namespace Sys2Proof.Machine

/-- A frame under its cancel reason, with every waiting piece finished with the matching outcome (R61). -/
def Frame.withdrawn (f : Frame) (reason : CancelReason) (waits : Nat → Bool) : Frame :=
  { f with cancel := some reason }.finishing waits reason.outcome

/-- A state in which the frame in record `i` has taken its reason and left its scrub list. -/
def State.reasoned (s : State) (i : Nat) (f : Frame) (reason : CancelReason) : State :=
  (s.modFrame i fun f => { f with cancel := some reason }).leaveScrubList f.stream.handle i

section

variable {s : State} {i : Nat} {f : Frame} {reason : CancelReason}

theorem State.cancellable_of_get (hf : s.frames.get i = some f) :
    s.cancellable i = (f.cancel.isNone && f.pieceRefs.any s.waits) := by
  simp only [State.cancellable, hf]

theorem State.withdrawFrame_of_not_cancellable (h : s.cancellable i = false) : s.withdrawFrame reason i = s := by
  simp [State.withdrawFrame, h]

theorem State.withdrawFrame_of_cancellable (hf : s.frames.get i = some f) (h : s.cancellable i = true) :
    s.withdrawFrame reason i = ((s.reasoned i f reason).withdrawn reason.outcome f.pieceRefs).finishIfDone i := by
  simp only [State.withdrawFrame, h, if_true, hf]
  rfl

theorem Frame.withdrawn_pieceRefs (f : Frame) (reason : CancelReason) (waits : Nat → Bool) :
    (f.withdrawn reason waits).pieceRefs = f.pieceRefs.filter fun p => !waits p := Frame.pieceRefs_finishing ..

variable (hback : s.refersBack i f)
include hback

theorem State.refersBack.reasoned (reason : CancelReason) :
    (s.reasoned i f reason).refersBack i { f with cancel := some reason } := by
  obtain ⟨hf, hsf, hsp, hrefs⟩ := hback
  exact ⟨by simp [State.reasoned, Pool.get_modify, hf], by simpa [State.reasoned, Pool.sorted] using hsf,
    by simpa [State.reasoned] using hsp, by simpa [State.reasoned] using hrefs⟩

/-- The pieces of a frame under its reason stand to be withdrawn. -/
theorem State.refersBack.leaving (reason : CancelReason) :
    (s.reasoned i f reason).Leaving i { f with cancel := some reason } s.pieces s.waits f.pieceRefs where
  back := hback.reasoned reason
  refs := fun _ hp => hp
  nodup := hback.nodup
  same := fun _ _ => by simp [State.reasoned]
  test := fun _ _ => (State.waits_congr (by simp [State.reasoned])).symm

theorem State.refersBack.get_withdrawn (reason : CancelReason) :
    ((s.reasoned i f reason).withdrawn reason.outcome f.pieceRefs).frames.get i = some (f.withdrawn reason s.waits) := by
  rw [(hback.leaving reason).get_frame]
  exact congrArg some (Frame.finishing_congr _ fun p hp => by
    have hp : p ∈ f.pieceRefs := hp
    simp [hp])

end

/-! ## The finish of a withdrawn frame -/

section

variable (s : State) (i : Nat) (f : Frame) (reason : CancelReason) (waits : Nat → Bool)

theorem Frame.withdrawn_status : (f.withdrawn reason waits).status = match reason with
    | .cancelled => .cancelled
    | .superseded => .superseded
    | .skipped => .lateSkipped := by
  have hcancel : (f.withdrawn reason waits).cancel = some reason := rfl
  rw [Frame.status_eq, hcancel]
  cases reason <;> rfl

theorem Frame.withdrawn_outcomes : (f.withdrawn reason waits).outcomes.map PieceOutcome.code =
    (f.positions.map fun x => match x with
      | .piece p => if waits p then Position.finished reason.outcome else .piece p
      | .finished o => .finished o).filterMap fun x => match x with
        | .finished o => some o.code
        | .piece _ => none := by
  simp only [Frame.outcomes, Frame.withdrawn, Frame.finishing, List.map_filterMap, List.filterMap_map]
  refine List.filterMap_congr fun x _ => ?_
  cases x with
  | finished o => rfl
  | piece p => cases hw : waits p <;> simp [Position.finishing, hw]

/-- The frame withdrawn, position by position (R61). -/
theorem Frame.withdrawn_eq : f.withdrawn reason waits = { f with
    cancel := some reason,
    positions := f.positions.map fun x => match x with
      | .piece p => if waits p then .finished reason.outcome else .piece p
      | .finished o => .finished o } := by
  have hone : Position.finishing waits reason.outcome = fun x => match x with
      | .piece p => if waits p then .finished reason.outcome else .piece p
      | .finished o => .finished o := by
    funext x
    cases x <;> rfl
  rw [Frame.withdrawn, Frame.finishing, hone]

variable {s f} in
/-- The FRAME_DONE of a withdrawn frame goes to its node, where that is ATTACHED with the frame's epoch (R66). -/
theorem State.finishFrame_withdrawn_nodes (ha : (s.node f.node).state = .attached)
    (he : (s.node f.node).epoch = f.epoch) : (s.finishFrame i (f.withdrawn reason waits)).nodes =
      (s.frameDone f.node (match reason with
        | .cancelled => .cancelled
        | .superseded => .superseded
        | .skipped => .lateSkipped)
      ([fNat (f.stream.handle.toNat + 256 * f.stream.gen.toNat), fNat f.cookie.toNat, fNat f.number, fNat f.kind.code,
        fBool (isLate (f.deadline.map fun d => (s.time - d).toInt)), fOpt fInt (f.deadline.map fun d => (s.time - d).toInt)] ++
        eightFields ((f.positions.map fun x => match x with
          | .piece p => if waits p then Position.finished reason.outcome else .piece p
          | .finished o => .finished o).filterMap fun x => match x with
            | .finished o => some o.code
            | .piece _ => none))).nodes := by
  have hnode : (s.node (f.withdrawn reason waits).node).state = .attached ∧
    (s.node (f.withdrawn reason waits).node).epoch = (f.withdrawn reason waits).epoch := ⟨ha, he⟩
  rw [State.finishFrame_eq, frameDoneBody_eq, Frame.withdrawn_status, Frame.withdrawn_outcomes]
  dsimp only
  rw [if_pos hnode]
  rfl

/-- Of the counters only frames_skipped tells of a withdrawal (R65). -/
theorem Stream.count_withdrawn (st : Stream) (late : Bool) : st.count (f.withdrawn reason waits).status late = { st with
    framesSkipped := if reason = .skipped ∧ st.framesSkipped < 4294967295 then st.framesSkipped + 1
      else st.framesSkipped } := by
  rw [Frame.withdrawn_status]
  cases reason with
  | cancelled => simp [Stream.count]
  | superseded => simp [Stream.count]
  | skipped =>
    have hup : (if CancelReason.skipped = .skipped ∧ st.framesSkipped < 4294967295 then st.framesSkipped + 1
        else st.framesSkipped) = advance Config.counterTop st.framesSkipped := if_congr (by simp; rfl) rfl rfl
    rw [hup]
    rfl

theorem State.finishFrame_withdrawn_streams {v : State} (hv : v.streams = s.streams.modify f.stream.handle.toNat fun st =>
      { st with scrubList := st.scrubList.erase i }) :
    (v.finishFrame i (f.withdrawn reason waits)).streams = s.streams.modify f.stream.handle.toNat fun st => { st with
      outstanding := st.outstanding - 1, scrubList := (st.scrubList.erase i).erase i,
      framesSkipped := if reason = .skipped ∧ st.framesSkipped < 4294967295 then st.framesSkipped + 1
        else st.framesSkipped } := by
  have hhandle : (f.withdrawn reason waits).stream.handle = f.stream.handle := rfl
  rw [State.finishFrame_eq, hhandle]
  dsimp only
  rw [hv, Pool.modify_modify]
  simp only [Stream.count_withdrawn]

end

/-! ## The frames that a cancellation counts -/

/-- In a table in order, the frames that pass a test of record and contents are those of its records. -/
theorem length_filter_numbersOf {p : Pool Frame} (hp : p.sorted) (sel : Frame → Bool) (test : Nat → Bool)
    (test' : Frame → Bool) (h : ∀ k g, Pool.get p k = some g → test k = test' g) :
    ((p.numbersOf sel).filter test).length = (p.filter fun kv => sel kv.2 && test' kv.2).length := by
  rw [Pool.numbersOf, List.filter_map, List.length_map, List.filter_filter]
  refine congrArg _ (List.filter_congr fun kv hkv => ?_)
  rw [Function.comp_apply, h kv.1 kv.2 (Pool.get_of_mem hp hkv), Bool.and_comm]

theorem State.cancelCount_eq {s : State} (hs : s.frames.sorted) (i : StreamId) : s.cancelCount i =
    (s.frames.filter fun kv => decide (kv.2.stream = i) && kv.2.cancel.isNone && kv.2.pieceRefs.any s.waits).length := by
  rw [State.cancelCount, State.framesOf,
    length_filter_numbersOf hs _ s.cancellable (fun f => f.cancel.isNone && f.pieceRefs.any s.waits) fun k g hg =>
      State.cancellable_of_get hg]
  simp only [Bool.and_assoc]

/-! ## The queues of a withdrawn frame's pieces -/

section

variable {s : State} {i : Nat} {f : Frame} (hok : s.piecesOk)
include hok

/-- Where every piece has its place, a waiting piece stands in a list just where it is QUEUED and the span is its own. -/
theorem State.piecesOk.seated (ps : List Nat) : s.Seated s.pieces s.waits ps := by
  obtain ⟨⟨-, hsp, -⟩, hlists, -⟩ := hok
  refine ⟨fun j => (hlists j).1, fun p _ _ pc hpc j => ⟨fun hin => ?_, fun ⟨hspan, hstate⟩ => ?_⟩⟩
  · obtain ⟨-, hlisted, -⟩ := hlists j
    have hhas := hlisted p hin
    simp only [State.pieceHas, hpc, decide_eq_true_eq] at hhas
    exact hhas
  · obtain ⟨-, -, hall, -⟩ := hlists j
    exact hall (p, pc) (Pool.mem_of_get hpc) hspan hstate

/-- A listed piece of the frame waits. -/
theorem State.piecesOk.mem_removed (hf : s.frames.get i = some f) {j : SpanId} {q : Nat} {pc : Piece}
    (hq : q ∈ s.queued j) (hpc : s.pieces.get q = some pc) (hi : pc.frame = i) : q ∈ f.pieceRefs.filter s.waits := by
  obtain ⟨⟨-, -, hpieces, -⟩, hlists, -⟩ := hok
  have hhas := hpieces (q, pc) (Pool.mem_of_get hpc)
  simp only [State.frameHas, hi, hf, decide_eq_true_eq] at hhas
  have hlisted := (hlists j).2.1 q hq
  simp only [State.pieceHas, hpc, decide_eq_true_eq] at hlisted
  refine List.mem_filter.2 ⟨f.mem_pieceRefs.2 ⟨_, hhas⟩, ?_⟩
  rw [State.waits_of_get hpc, hlisted.2]
  rfl

end

/-- The finish of a frame changes the deadline of no other frame's piece. -/
theorem State.finishFrame_deadlineOf {v : State} {i q : Nat} {g : Frame}
    (h : ∀ pc, v.pieces.get q = some pc → pc.frame ≠ i) : (v.finishFrame i g).deadlineOf q = v.deadlineOf q := by
  simp only [State.deadlineOf, State.finishFrame_pieces, State.finishFrame_frames]
  cases hpc : v.pieces.get q with
  | none => rfl
  | some pc => simp only [Pool.get_free_ne _ (h pc hpc)]

/-- Settles O33: a frame left as it is, a frame that keeps pieces in service, a frame that finishes; and the count. -/
theorem withdrawalTakesEveryWaitingPieceOfAFrame : Obligations.WithdrawalTakesEveryWaitingPieceOfAFrame := by
  refine ⟨fun reason s i f hback => ?_, fun s i hs => State.cancelCount_eq hs i⟩
  intro t outcomes removed
  have hcancellable := State.cancellable_of_get hback.1
  refine ⟨fun hno => State.withdrawFrame_of_not_cancellable ?_, fun hcancel hw => ?_⟩
  · rw [hcancellable]
    rcases hno with hno | hno
    · simp [hno]
    · simpa using fun _ p hp => hno p hp
  have hp := hback.leaving reason
  have hget := hback.get_withdrawn reason
  obtain ⟨g, hg⟩ : ∃ g, g = f.withdrawn reason s.waits := ⟨_, rfl⟩
  obtain ⟨v, hv⟩ : ∃ v, v = (s.reasoned i f reason).withdrawn reason.outcome f.pieceRefs := ⟨_, rfl⟩
  have ht : t = if g.pieceRefs = [] then v.finishFrame i g else v := by
    rw [hg, hv, ← State.finishIfDone_of_get hget]
    exact State.withdrawFrame_of_cancellable hback.1 (by simpa [hcancellable, hcancel] using hw)
  have hgrefs : g.pieceRefs = [] ↔ ∀ p ∈ f.pieceRefs, s.waits p = true := by
    simp [hg, Frame.withdrawn_pieceRefs, List.filter_eq_nil_iff]
  have hstreams : v.streams = s.streams.modify f.stream.handle.toNat fun st =>
      { st with scrubList := st.scrubList.erase i } := by simp [hv, State.reasoned, State.leaveScrubList]
  have hnodes : v.nodes = s.nodes := by simp [hv, State.reasoned]
  have htime : v.time = s.time := by simp [hv, State.reasoned]
  have hkeep {α : Type} (field : State → α) (hfield : field (v.finishFrame i g) = field v) : field t = field v := by
    rw [ht]
    split <;> [exact hfield; rfl]
  have hpieces : t.pieces = ((s.reasoned i f reason).withdrawn reason.outcome f.pieceRefs).pieces := by
    rw [hkeep State.pieces (by simp), hv]
  refine ⟨fun hleft => ?_, fun hall => ?_, fun p hin => ?_, fun q hq => ?_, fun k hk => ?_, ?_, ?_, fun j => ⟨?_, fun hok => ?_⟩⟩
  · have hne : g.pieceRefs ≠ [] := fun hnil => by
      obtain ⟨p, hin, hno⟩ := hleft
      rw [hgrefs.1 hnil p hin] at hno
      cases hno
    rw [ht, if_neg hne]
    refine ⟨?_, hnodes, hstreams⟩
    rw [hv]
    exact hget.trans (congrArg some (Frame.withdrawn_eq f reason s.waits))
  · intro lateness late status
    rw [ht, if_pos (hgrefs.2 hall)]
    refine ⟨?_, fun ha he => ?_, fun hno => ?_, ?_⟩
    · rw [State.finishFrame_frames, Pool.get_free_self (by rw [hv]; exact hp.sorted_frames _)]
    · rw [State.finishFrame_nodes_congr hnodes htime, hg, State.finishFrame_withdrawn_nodes i reason s.waits ha he]
      rfl
    · rw [State.finishFrame_nodes_congr hnodes htime, hg, State.finishFrame_eq]
      dsimp only
      rw [if_neg]
      exact fun h => hno.elim (fun hs => hs h.1) fun he => he h.2
    · rw [hg]
      exact State.finishFrame_withdrawn_streams s i f reason s.waits hstreams
  · rw [hpieces]
    cases hwait : s.waits p with
    | true => exact hp.pieces_gone _ hin hwait
    | false => exact (hp.other _ fun _ => hwait).1
  · rw [hpieces]
    exact (hp.other _ fun hin => absurd hin hq).1
  · have hframes : v.frames.get k = s.frames.get k := by
      rw [hv, hp.frames, Pool.get_modify, if_neg hk]
      simp [State.reasoned, Pool.get_modify, hk]
    rw [← hframes, ht]
    split
    · rw [State.finishFrame_frames, Pool.get_free_ne _ hk]
    · rfl
  · rw [hkeep State.reports (by simp), hv, hp.reports]
    rfl
  · rw [ht]
    split <;> simp [hv, State.reasoned]
  · rw [ht]
    split <;> simp [hv, State.reasoned]
  · have hleft : v.Left j (s.span j).queue removed := by
      have hseated := hok.seated f.pieceRefs
      rw [hv]
      exact hp.left ⟨hseated.nodup, hseated.place⟩ reason.outcome j
    have hfinal : t.Left j (s.span j).queue removed := by
      refine hleft.congr (hkeep (fun u => (u.span j).queue) (by simp)) (fun q hq => ?_)
        (hkeep (fun u => (u.span j).arbiter) (by simp)) (hkeep State.time (by simp))
      rw [hleft.deadlines] at hq
      obtain ⟨hlisted, hout⟩ := List.mem_filter.1 hq
      have hout := of_decide_eq_true hout
      rw [ht]
      split
      · refine State.finishFrame_deadlineOf fun pc hpc hi => hout (hok.mem_removed hback.1
          (List.mem_append.2 (.inl hlisted)) ?_ hi)
        rw [← hpc, hv]
        exact ((hp.other _ fun hin => Bool.eq_false_iff.2 fun hwait => hout (List.mem_filter.2 ⟨hin, hwait⟩)).1).symm
      · rfl
    exact ⟨hfinal.deadlines, hfinal.background, hfinal.rearmed, hfinal.kept⟩

end Sys2Proof.Machine
end

section
/-! PROOFS. The status of a finished frame; the reports taken by the arbiter and the queue; one dispatch. -/

namespace Sys2Proof.Machine

open Host (Outcome)

/-! ## The status of a finished frame -/

theorem Frame.outcomes_of_finished {f : Frame} {outcomes : List PieceOutcome}
    (h : f.positions = outcomes.map Position.finished) : f.outcomes = outcomes := by
  rw [Frame.outcomes, h]
  induction outcomes generalizing f with
  | nil => rfl
  | cons o r ih => simp

/-- The FRAME_DONE of a frame whose node is ATTACHED with its epoch stands last in that node's FIFO (R66). -/
theorem State.finishFrame_events {s : State} {f : Frame} (ha : (s.node f.node).state = .attached)
    (he : (s.node f.node).epoch = f.epoch) (i : Nat) : ∃ body, ((s.finishFrame i f).node f.node).events =
      (s.node f.node).events ++ [{
        tag := .frameDone f.status, command := 9, epoch := f.epoch, time := s.time, body := body }] := by
  refine ⟨frameDoneBody f.stream f.cookie f.number (some f.kind) (isLate (f.lateness s.time)) (f.lateness s.time)
    f.outcomes, ?_⟩
  have hnode : (s.finishFrame i f).node f.node = (s.frameDone f.node f.status (frameDoneBody f.stream f.cookie f.number
      (some f.kind) (isLate (f.lateness s.time)) (f.lateness s.time) f.outcomes)).node f.node := by
    rw [State.finishFrame_eq, if_pos ⟨ha, he⟩]
    rfl
  simp [hnode, State.node_frameDone, he]

/-- Settles O31: by the cancel reason first, then by the outcomes. -/
theorem frameStatusIsTheFirstThatApplies : Obligations.FrameStatusIsTheFirstThatApplies := by
  refine ⟨fun f outcomes hf => ?_, fun s i f ha he => State.finishFrame_events ha he i⟩
  have hout := Frame.outcomes_of_finished hf
  refine ⟨fun hc => ?_, fun hc => ?_, fun hc => ?_, fun hc => ⟨fun hall => ?_, fun hbad hnone => ?_, fun hbad hgood => ?_⟩,
    fun d a => rfl⟩
  · simp [Frame.status_eq, hc]
  · simp [Frame.status_eq, hc]
  · simp [Frame.status_eq, hc]
  · simp only [Frame.status_eq, hc, hout, if_pos hall]
  · obtain ⟨o, ho, hne⟩ := hbad
    have hnot : ¬ ∀ x ∈ outcomes, x = .ok := fun hall => hne (hall o ho)
    simp only [Frame.status_eq, hc, hout, if_neg hnot, if_pos hnone]
  · obtain ⟨o, ho, hne⟩ := hbad
    obtain ⟨g, hg, hok⟩ := hgood
    have hnot : ¬ ∀ x ∈ outcomes, x = .ok := fun hall => hne (hall o ho)
    have hsome : ¬ ∀ x ∈ outcomes, x ≠ .ok := fun hnone => hnone g hg hok
    simp only [Frame.status_eq, hc, hout, if_neg hnot, if_neg hsome]

/-! ## Reports taken by the arbiter and the queue -/

/-- Settles O36: each row takes its report, and acts on the state without it. -/
theorem arbiterAndQueueTakeTheirReports : Obligations.ArbiterAndQueueTakeTheirReports := by
  intro s j before after u begun lost
  refine ⟨fun h => ?_, fun m h => ?_, fun h => ?_⟩
  · change execSelection j s = _
    rw [execSelection, withReport_next h rfl, State.beginSelection_eq]
    rfl
  · change execMaskWrite j s = _
    rw [execMaskWrite, withReport_next h rfl, State.beginSelection_eq, State.modArbiter_service]
    rfl
  · intro taken
    change execQueueSpanLoss j s = _
    have htaken : taken.reports = before ++ after :=
      foldl_keeps State.reports (fun w p => w.takeOutcome p .spanLost) (by simp) lost _
    rw [execQueueSpanLoss, withReport_next h rfl]
    by_cases hl : lost = []
    · have hq : u.loseQueue j = taken := if_pos hl
      rw [hq, if_pos hl, List.append_nil, ← htaken]
    · have hq : u.loseQueue j = taken.post (.select j) := if_neg hl
      rw [hq, if_neg hl, ← htaken]
      rfl

/-! ## One dispatch -/

theorem Slot.occupied_eq_false_iff (k : Slot) : k.occupied = false ↔ k.state = .free := by simp [Slot.occupied]

theorem mem_allSpans (j : SpanId) : j ∈ allSpans := by
  revert j
  decide

theorem allSpans_split : ∀ k : SpanId,
    allSpans = allSpans.take k.val ++ k :: allSpans.drop (k.val + 1) ∧ ∀ i ∈ allSpans.take k.val, i < k := by
  decide

/-- The FREE slot below which every slot is occupied is the lowest free one (R106). -/
theorem SpanService.lowestFree_eq {v : SpanService} {k : SlotId} (hk : v.slots[k].state = .free)
    (hbelow : ∀ i < k, v.slots[i].state ≠ .free) : v.lowestFree = some k := by
  obtain ⟨hall, hlt⟩ := allSpans_split k
  have hfree : v.slots[k].occupied = false := (Slot.occupied_eq_false_iff _).2 hk
  refine List.find?_eq_some_iff_append.2 ⟨by rw [hfree]; rfl, _, _, hall, fun i hi => ?_⟩
  cases hocc : v.slots[i].occupied with
  | true => rfl
  | false => exact absurd ((Slot.occupied_eq_false_iff _).1 hocc) (hbelow i (hlt i hi))

theorem State.linkUp_iff (s : State) (j : SpanId) : s.linkUp j = true ↔ (s.span j).service.link = .up :=
  decide_eq_true_iff

theorem State.dispatchOne_of_slot {s : State} {j : SpanId} {c : Choice} {k : SlotId} {pc : Piece}
    (hk : (s.span j).service.lowestFree = some k) (hp : s.pieces.get c.piece = some pc) : s.dispatchOne j c =
      some (((s.unlist j c.piece).modArbiter j fun a => a.moved c).putInService j k c.piece pc) := by
  simp only [State.dispatchOne, hk, hp]

theorem exec_dispatch_choice {s t : State} {j : SpanId} {c : Choice} (hs : (s.span j).arbiter.selections ≠ 0)
    (hup : (s.span j).service.link = .up) (hc : s.choose j = some c) (ht : s.dispatchOne j c = some t) :
    exec (.dispatch j) s = .next t := by
  change execDispatch j s = _
  simp only [execDispatch, if_neg hs, (State.linkUp_iff s j).2 hup, if_true, hc, ht]

theorem exec_dispatch_end {s : State} {j : SpanId} (hs : (s.span j).arbiter.selections ≠ 0)
    (h : (s.span j).service.link ≠ .up ∨ s.choose j = none) : exec (.dispatch j) s = .next (s.endSelection j) := by
  change execDispatch j s = _
  rw [execDispatch, if_neg hs]
  by_cases hup : (s.span j).service.link = .up
  · rw [if_pos ((State.linkUp_iff s j).2 hup), h.resolve_left fun hne => hne hup]
  · rw [if_neg fun hl => hup ((State.linkUp_iff s j).1 hl)]

/-- A piece put in service: its record, its slot and the scrub list of its frame's stream change (R90, R73). -/
theorem State.putInService_eq {u : State} {pc : Piece} {f : Frame} (hf : u.frames.get pc.frame = some f) (j : SpanId)
    (k : SlotId) (p : Nat) : u.putInService j k p pc = { u with
      pieces := u.pieces.modify p fun pc => { pc with state := .inService },
      streams := u.streams.modify f.stream.handle.toNat fun st => { st with scrubList := st.scrubList.erase pc.frame },
      spans := u.spans.set j { u.span j with service := (u.span j).service.take u.time k p pc } } := by
  simp only [State.putInService, State.modService_frames, State.modPiece_frames, hf]
  rfl

/-- Settles O37: the selection's end, and the one event of a dispatch. -/
theorem dispatchMovesTheChosenPieceIntoASlot : Obligations.DispatchMovesTheChosenPieceIntoASlot := by
  intro s j hs ended
  refine ⟨fun h => exec_dispatch_end hs h, fun c k pc f hup hc hfree hbelow hpc hf => ?_⟩
  intro w off
  have hone := State.dispatchOne_of_slot (SpanService.lowestFree_eq hfree hbelow) hpc
  refine (exec_dispatch_choice hs hup hc hone).trans (congrArg Outcome.next ?_)
  have hframe : (off.modArbiter j fun a => a.moved c).frames.get pc.frame = some f := by simpa [off] using hf
  have hspans : ((off.modArbiter j fun a => a.moved c).spans.set j { (off.modArbiter j fun a => a.moved c).span j with
      service := ((off.modArbiter j fun a => a.moved c).span j).service.take s.time k c.piece pc }) =
      off.spans.set j { off.span j with
        arbiter := (s.span j).arbiter.moved c, service := (s.span j).service.take s.time k c.piece pc } := by
    rw [State.span_modArbiter, if_pos rfl, State.unlist_arbiter, State.unlist_service]
    simp [State.modArbiter, State.modSpan]
  rw [State.putInService_eq hframe]
  simp only [State.modArbiter_time, State.unlist_time, hspans, off]
  cases c <;> simp [State.modArbiter, State.modSpan, Arbiter.moved, SpanService.take, plusMillis, plusMicros, w]

end Sys2Proof.Machine
end

section
/-! PROOFS. What the shared operations of the Frame Table can do, case by case (R57, R60, R61, R77, R99). -/

namespace Sys2Proof.Machine

section

variable (s : State)

theorem State.finishIfDone_cases (i : Nat) :
    s.finishIfDone i = s ∧ (∀ f, s.frames.get i = some f → f.pieceRefs ≠ []) ∨
      ∃ f, s.frames.get i = some f ∧ f.pieceRefs = [] ∧ s.finishIfDone i = s.finishFrame i f := by
  cases hf : s.frames.get i with
  | none => exact .inl ⟨by simp [State.finishIfDone, hf], fun _ e => nomatch e⟩
  | some f =>
    rw [State.finishIfDone_of_get hf]
    by_cases hrefs : f.pieceRefs = []
    · exact .inr ⟨f, rfl, hrefs, if_pos hrefs⟩
    · exact .inl ⟨if_neg hrefs, fun g e => Option.some.inj e ▸ hrefs⟩

theorem State.recordOutcome_of_none {s : State} {p : Nat} (h : s.pieces.get p = none) (o : PieceOutcome) :
    s.recordOutcome p o = s := by simp [State.recordOutcome, h]

theorem State.takeOutcome_cases (p : Nat) (o : PieceOutcome) :
    s.takeOutcome p o = s ∨ ∃ pc, s.pieces.get p = some pc ∧
      s.takeOutcome p o = (s.recordOutcome p o).finishIfDone pc.frame := by
  cases hp : s.pieces.get p with
  | none => exact .inl (by simp [State.takeOutcome, hp])
  | some pc => exact .inr ⟨pc, rfl, by simp only [State.takeOutcome, hp]⟩

/-- A span queue with its lists emptied and its timers idle, before the outcomes are taken (R99). -/
def State.emptied (j : SpanId) : State :=
  s.modQueue j fun _ => { deadlines := [], background := [], deadlineTimer := none, windowTimer := none }

theorem State.loseQueue_eq (j : SpanId) : s.loseQueue j =
    if s.queued j = [] then (s.queued j).foldl (fun s p => s.takeOutcome p .spanLost) (s.emptied j)
    else ((s.queued j).foldl (fun s p => s.takeOutcome p .spanLost) (s.emptied j)).post (.select j) := rfl

theorem State.withdrawPiece_cases (o : PieceOutcome) (p : Nat) :
    s.waits p = false ∧ State.withdrawPiece o s p = s ∨ ∃ pc, s.pieces.get p = some pc ∧ pc.state ≠ .inService ∧
      State.withdrawPiece o s p = (s.dequeued p pc).recordOutcome p o := by
  cases hw : s.waits p with
  | false => exact .inl ⟨rfl, State.withdrawPiece_of_inService hw o⟩
  | true =>
    cases hp : s.pieces.get p with
    | none => simp [State.waits, hp] at hw
    | some pc =>
      have hstate : pc.state ≠ .inService := of_decide_eq_true ((State.waits_of_get hp).symm.trans hw)
      exact .inr ⟨pc, rfl, hstate, State.withdrawPiece_of_waits hp hstate o⟩

theorem State.withdrawFrame_cases (r : CancelReason) (i : Nat) :
    State.withdrawFrame r s i = s ∨ ∃ f, s.frames.get i = some f ∧ s.cancellable i = true ∧
      State.withdrawFrame r s i = ((s.reasoned i f r).withdrawn r.outcome f.pieceRefs).finishIfDone i := by
  cases hc : s.cancellable i with
  | false => exact .inl (State.withdrawFrame_of_not_cancellable hc)
  | true =>
    cases hf : s.frames.get i with
    | none => simp [State.cancellable, hf] at hc
    | some f => exact .inr ⟨f, rfl, rfl, State.withdrawFrame_of_cancellable hf hc⟩

theorem State.placePiece_cases (hold : Bool) (h : Handle) (p : Nat) :
    State.placePiece hold h s p = s ∧ (s.pieces.get p = none ∨ hold = true) ∨
      ∃ pc, s.pieces.get p = some pc ∧ (hold = false ∧ State.placePiece hold h s p = s.enqueue p pc ∨
        State.placePiece hold h s p = s.recordOutcome p .spanLost) := by
  cases hp : s.pieces.get p with
  | none => exact .inl ⟨by simp [State.placePiece, hp], .inl rfl⟩
  | some pc =>
    by_cases hpl : s.placeable h pc.span = true
    · cases hold with
      | true => exact .inl ⟨by simp [State.placePiece, hp, hpl], .inr rfl⟩
      | false => exact .inr ⟨pc, rfl, .inl ⟨rfl, by simp [State.placePiece, hp, hpl]⟩⟩
    · exact .inr ⟨pc, rfl, .inr (by simp [State.placePiece, hp, hpl])⟩

theorem State.releaseFrame_cases (i : Nat) :
    s.releaseFrame i = s ∨ ∃ f, s.frames.get i = some f ∧ s.heldOf f ≠ [] ∧
      s.releaseFrame i = ((s.dueFrame i).placed f.stream.handle (s.heldOf f)).finishIfDone i := by
  cases hf : s.frames.get i with
  | none => exact .inl (by simp [State.releaseFrame, hf])
  | some f =>
    by_cases hheld : s.heldOf f = []
    · refine .inl ?_
      simp only [State.heldOf] at hheld
      simp only [State.releaseFrame, hf, if_pos hheld]
    · exact .inr ⟨f, rfl, hheld, State.releaseFrame_of_held hf hheld⟩

end

end Sys2Proof.Machine
end

section
/-! PROOFS. The places of the event FIFOs: what the operations of the Frame Table and the Node Ports keep (R66, R166,
R168). -/

namespace Sys2Proof.Machine

/-! ## Places while an answer is owed -/

/-- The places of every node port while node `owed`'s command, taken from its FIFO, is still unanswered. -/
def State.exchangeDue (s : State) (owed : Option NodeId) : Prop :=
  s.frames.sorted ∧ ∀ n : NodeId,
    (s.node n).commands.length ≤ Config.commandFifo ∧ (s.node n).total ≤ Config.eventFifo ∧
    (s.node n).reserved = (s.node n).commands.length + (if owed = some n then 1 else 0) +
      (if (s.node n).state = .attached then s.unanswered n else 0)

theorem State.exchangeOk_iff (s : State) : s.exchangeOk ↔ s.exchangeDue none := by
  simp [State.exchangeOk, State.exchangeDue]

/-- One port holds as many places as another, in the same state. -/
structure Node.Alike (nd nd' : Node) : Prop where
  state : nd'.state = nd.state
  epoch : nd'.epoch = nd.epoch
  commands : nd'.commands = nd.commands
  reserved : nd'.reserved = nd.reserved
  total : nd.total ≤ Config.eventFifo → nd'.total ≤ Config.eventFifo

theorem Node.Alike.refl (nd : Node) : nd.Alike nd := ⟨rfl, rfl, rfl, rfl, id⟩

theorem Node.Alike.trans {a b c : Node} (h : a.Alike b) (h' : b.Alike c) : a.Alike c :=
  ⟨h'.state.trans h.state, h'.epoch.trans h.epoch, h'.commands.trans h.commands, h'.reserved.trans h.reserved,
    fun ht => h'.total (h.total ht)⟩

/-- A port whose FIFOs, reservation and attachment stand. -/
theorem Node.Alike.of_same {nd nd' : Node} (hs : nd'.state = nd.state) (he : nd'.epoch = nd.epoch)
    (hc : nd'.commands = nd.commands) (hr : nd'.reserved = nd.reserved) (hv : nd'.events = nd.events) : nd.Alike nd' :=
  ⟨hs, he, hc, hr, fun h => by rwa [Node.total, hv, hr]⟩

theorem Node.alike_notice (nd : Node) (now : Time) (tag : EventTag) (b : List Field) : nd.Alike (nd.notice now tag b) :=
  ⟨by simp, by simp, by simp, by simp, nd.notice_total now tag b⟩

/-- Every port of `t` is alike to that of `s`. -/
def State.PortsAlike (s t : State) : Prop := ∀ n : NodeId, (s.node n).Alike (t.node n)

theorem State.PortsAlike.refl (s : State) : s.PortsAlike s := fun n => .refl (s.node n)

theorem State.PortsAlike.trans {s t u : State} (h : s.PortsAlike t) (h' : t.PortsAlike u) : s.PortsAlike u :=
  fun n => (h n).trans (h' n)

theorem State.PortsAlike.of_nodes {s t : State} (h : t.nodes = s.nodes) : s.PortsAlike t := fun n => by
  simp only [State.node, h]
  exact .refl _

theorem State.portsAlike_modNode {s : State} {n : NodeId} {f : Node → Node} (h : (s.node n).Alike (f (s.node n))) :
    s.PortsAlike (s.modNode n f) := fun m => by
  rw [State.node_modNode]
  split
  · rename_i hm
    rwa [hm]
  · exact .refl _

theorem State.portsAlike_notifyAll (s : State) (tag : EventTag) (b : List Field) : s.PortsAlike (s.notifyAll tag b) :=
  fun n => by
    rw [State.node_notifyAll]
    exact Node.alike_notice ..

theorem State.portsAlike_notifyOthers (s : State) (but : NodeId) (tag : EventTag) (b : List Field) :
    s.PortsAlike (s.notifyOthers but tag b) := fun n => by
  rw [State.node_notifyOthers]
  split
  · exact .refl _
  · exact Node.alike_notice ..

/-- The reads of `t` that owe an answer to each node are those of `s`, the epochs being those of `s`. -/
def State.SameReads (s t : State) : Prop := ∀ (n : NodeId) (e : Epoch),
  t.frames.countOf (fun f => decide (f.node = n) && decide (f.epoch = e)) =
    s.frames.countOf fun f => decide (f.node = n) && decide (f.epoch = e)

section

variable {s t : State} {owed : Option NodeId}

theorem State.exchangeDue.of_alike (h : s.exchangeDue owed) (hp : s.PortsAlike t) (hs : t.frames.sorted)
    (hr : s.SameReads t) : t.exchangeDue owed := by
  obtain ⟨-, hnode⟩ := h
  refine ⟨hs, fun n => ?_⟩
  obtain ⟨hcmd, htot, hres⟩ := hnode n
  have hun : t.unanswered n = s.unanswered n := by rw [State.unanswered, hr, (hp n).epoch, State.unanswered]
  refine ⟨by rwa [(hp n).commands], (hp n).total htot, ?_⟩
  rw [(hp n).reserved, (hp n).commands, (hp n).state, hun, hres]

/-- A change that leaves the frame records and every port alike. -/
theorem State.exchangeDue.of_ports (h : s.exchangeDue owed) (hp : s.PortsAlike t) (hf : t.frames = s.frames) :
    t.exchangeDue owed :=
  h.of_alike hp (by rw [hf]; exact h.1) fun n e => by rw [hf]

theorem State.exchangeDue.modFrame (h : s.exchangeDue owed) (i : Nat) {g : Frame → Frame}
    (hn : ∀ f, (g f).node = f.node) (he : ∀ f, (g f).epoch = f.epoch) : (s.modFrame i g).exchangeDue owed := by
  refine h.of_alike (.of_nodes rfl) ?_ fun n e => Pool.countOf_modify _ _ _ _ fun f => by rw [hn, he]
  rw [State.modFrame_frames, Pool.sorted, Pool.keys_modify]
  exact h.1

/-! ## Answers -/

/-- An answer takes its place from a reservation: the port's total stands (R168). -/
theorem Node.answer_total {nd : Node} (h : 0 < nd.reserved) (now : Time) (tag : EventTag) (c : Nat) (b : List Field) :
    (nd.answer now tag c b).total = nd.total := by
  simp only [Node.total, Node.answer_events, Node.answer_reserved, List.length_append, List.length_singleton]
  omega

/-- The RESULT or FRAME_DONE that answers the command taken uses up its place (R168). -/
theorem State.exchangeDue.answer {n : NodeId} (h : s.exchangeDue (some n)) (tag : EventTag) (c : Nat)
    (b : List Field) : (s.modNode n fun nd => nd.answer s.time tag c b).exchangeDue none := by
  obtain ⟨hsort, hnode⟩ := h
  refine ⟨hsort, fun m => ?_⟩
  obtain ⟨hcmd, htot, hres⟩ := hnode m
  have hun : (s.modNode n fun nd => nd.answer s.time tag c b).unanswered m = s.unanswered m := by
    simp only [State.unanswered, State.modNode_frames, State.node_modNode]
    split
    · rename_i hm
      rw [hm, Node.answer_epoch]
    · rfl
  rw [hun, State.node_modNode]
  by_cases hm : m = n
  · subst hm
    rw [if_pos rfl] at hres ⊢
    rw [Node.answer_total (by omega), Node.answer_commands, Node.answer_reserved, Node.answer_state]
    exact ⟨hcmd, htot, by rw [hres]; simp only [reduceCtorEq, if_false]; omega⟩
  · rw [if_neg hm]
    rw [if_neg fun e => hm (Option.some.inj e).symm] at hres
    exact ⟨hcmd, htot, by rw [hres]; simp⟩

theorem State.exchangeDue.result {n : NodeId} (h : s.exchangeDue (some n)) (c : Nat) (st : ResultStatus)
    (b : List Field) : (s.result n c st b).exchangeDue none := h.answer ..

theorem State.exchangeDue.frameDone {n : NodeId} (h : s.exchangeDue (some n)) (st : FrameStatus) (b : List Field) :
    (s.frameDone n st b).exchangeDue none := h.answer ..

/-- A command taken from its FIFO is owed its answer (R166, R167). -/
theorem State.exchangeDue.taken {n : NodeId} {rec : List Byte} {rest : List (List Byte)} (h : s.exchangeDue none)
    (hc : (s.node n).commands = rec :: rest) : (s.taken n rest).exchangeDue (some n) := by
  obtain ⟨hsort, hnode⟩ := h
  refine ⟨hsort, fun m => ?_⟩
  obtain ⟨hcmd, htot, hres⟩ := hnode m
  have hun : (s.taken n rest).unanswered m = s.unanswered m := by simp [State.unanswered]
  rw [hun, State.taken_node_state]
  by_cases hm : m = n
  · subst hm
    rw [State.taken_node_self]
    simp only [hc, List.length_cons, reduceCtorEq, if_false, Node.total, if_true] at hcmd htot hres ⊢
    exact ⟨by omega, htot, by omega⟩
  · rw [State.taken_node_ne s hm, if_neg fun e => hm (Option.some.inj e).symm]
    exact ⟨hcmd, htot, by simpa using hres⟩

/-! ## The finish of a frame -/

/-- A finished frame's FRAME_DONE uses up the place of its read; where it is dropped no place was kept (R66, R157). -/
theorem State.exchangeDue.finishFrame {i : Nat} {f : Frame} (h : s.exchangeDue owed) (hf : s.frames.get i = some f) :
    (s.finishFrame i f).exchangeDue owed := by
  obtain ⟨hsort, hnode⟩ := h
  have hframes : (s.finishFrame i f).frames = s.frames.free i := by simp [State.finishFrame_eq]
  refine ⟨by rw [hframes]; exact Pool.sorted_free hsort i, fun m => ?_⟩
  obtain ⟨hcmd, htot, hres⟩ := hnode m
  have hcount := Pool.countOf_free hf fun g => decide (g.node = m) && decide (g.epoch = (s.node m).epoch)
  have hun : (s.finishFrame i f).unanswered m + (if f.node = m ∧ f.epoch = (s.node m).epoch then 1 else 0) =
      s.unanswered m := by
    rw [State.unanswered, hframes, State.finishFrame_node_epoch, State.unanswered, ← hcount]
    simp
  by_cases htold : (s.node f.node).state = .attached ∧ (s.node f.node).epoch = f.epoch
  · obtain ⟨hatt, hep⟩ := htold
    have hnodes : (s.finishFrame i f).node m = (s.frameDone f.node f.status (frameDoneBody f.stream f.cookie f.number
        (some f.kind) (isLate (f.lateness s.time)) (f.lateness s.time) f.outcomes)).node m := by
      rw [State.finishFrame_eq, if_pos ⟨hatt, hep⟩]
      rfl
    rw [hnodes, State.node_frameDone]
    by_cases hm : m = f.node
    · subst hm
      rw [if_pos ⟨rfl, hep.symm⟩] at hun
      rw [if_pos hatt] at hres
      rw [if_pos rfl, Node.answer_total (by omega), Node.answer_commands, Node.answer_reserved, Node.answer_state,
        if_pos hatt]
      exact ⟨hcmd, htot, by omega⟩
    · rw [if_neg fun e => hm e.1.symm, Nat.add_zero] at hun
      rw [if_neg hm, hun]
      exact ⟨hcmd, htot, hres⟩
  · have hnodes : (s.finishFrame i f).node m = s.node m := by
      rw [State.finishFrame_eq, if_neg htold]
      rfl
    rw [hnodes]
    refine ⟨hcmd, htot, ?_⟩
    by_cases hatt : (s.node m).state = .attached
    · have hother : ¬ (f.node = m ∧ f.epoch = (s.node m).epoch) := by
        rintro ⟨rfl, he⟩
        exact htold ⟨hatt, he.symm⟩
      rw [if_pos hatt] at hres ⊢
      rw [if_neg hother, Nat.add_zero] at hun
      rw [hun, hres]
    · rwa [if_neg hatt] at hres ⊢

theorem State.exchangeDue.finishIfDone (h : s.exchangeDue owed) (i : Nat) : (s.finishIfDone i).exchangeDue owed := by
  rcases s.finishIfDone_cases i with ⟨e, -⟩ | ⟨f, hf, -, e⟩
  · rwa [e]
  · rw [e]
    exact h.finishFrame hf

/-! ## The operations of the Frame Table -/

theorem State.exchangeDue.recordOutcome (h : s.exchangeDue owed) (p : Nat) (o : PieceOutcome) :
    (s.recordOutcome p o).exchangeDue owed := by
  cases hp : s.pieces.get p with
  | none => rwa [State.recordOutcome_of_none hp]
  | some pc =>
    have hmod : (s.modFrame pc.frame fun f => { f with
      positions := f.positions.set pc.position (.finished o) }).exchangeDue owed :=
      h.modFrame _ (fun _ => rfl) fun _ => rfl
    rw [State.recordOutcome_of_get hp]
    exact hmod.of_ports (.of_nodes rfl) rfl

theorem State.exchangeDue.takeOutcome (h : s.exchangeDue owed) (p : Nat) (o : PieceOutcome) :
    (s.takeOutcome p o).exchangeDue owed := by
  rcases s.takeOutcome_cases p o with e | ⟨pc, -, e⟩
  · rwa [e]
  · rw [e]
    exact (h.recordOutcome p o).finishIfDone _

theorem State.exchangeDue.loseQueue (h : s.exchangeDue owed) (j : SpanId) : (s.loseQueue j).exchangeDue owed := by
  have hlost := foldl_inv (State.exchangeDue · owed) (fun s p => s.takeOutcome p .spanLost)
    (fun _ p h => h.takeOutcome p .spanLost) (s.queued j) (s.emptied j) (h.of_ports (.of_nodes rfl) rfl)
  rw [State.loseQueue_eq]
  split
  · exact hlost
  · exact hlost.of_ports (.of_nodes rfl) rfl

theorem State.exchangeDue.withdrawPiece (h : s.exchangeDue owed) (o : PieceOutcome) (p : Nat) :
    (State.withdrawPiece o s p).exchangeDue owed := by
  rcases s.withdrawPiece_cases o p with ⟨-, e⟩ | ⟨pc, -, -, e⟩
  · rwa [e]
  · have hout : (s.dequeued p pc).exchangeDue owed := by
      refine h.of_ports (.of_nodes ?_) (by simp)
      unfold State.dequeued
      split <;> simp
    rw [e]
    exact hout.recordOutcome p o

theorem State.exchangeDue.withdrawFrame (h : s.exchangeDue owed) (r : CancelReason) (i : Nat) :
    (State.withdrawFrame r s i).exchangeDue owed := by
  rcases s.withdrawFrame_cases r i with e | ⟨f, -, -, e⟩
  · rwa [e]
  · have hreasoned : (s.reasoned i f r).exchangeDue owed := by
      have hmod : (s.modFrame i fun f => { f with cancel := some r }).exchangeDue owed :=
        h.modFrame i (fun _ => rfl) fun _ => rfl
      exact hmod.of_ports (.of_nodes rfl) rfl
    rw [e]
    exact (foldl_inv (State.exchangeDue · owed) _ (fun _ p h => h.withdrawPiece r.outcome p) _ _ hreasoned).finishIfDone i

theorem State.exchangeDue.placePiece (h : s.exchangeDue owed) (hold : Bool) (k : Handle) (p : Nat) :
    (State.placePiece hold k s p).exchangeDue owed := by
  rcases s.placePiece_cases hold k p with ⟨e, -⟩ | ⟨pc, -, ⟨-, e⟩ | e⟩
  · rwa [e]
  · rw [e]
    exact h.of_ports (.of_nodes (by simp)) (by simp)
  · rw [e]
    exact h.recordOutcome ..

theorem State.exchangeDue.releaseFrame (h : s.exchangeDue owed) (i : Nat) : (s.releaseFrame i).exchangeDue owed := by
  rcases s.releaseFrame_cases i with e | ⟨f, -, -, e⟩
  · rwa [e]
  · have hdue : (s.dueFrame i).exchangeDue owed := h.modFrame i (fun _ => rfl) fun _ => rfl
    rw [e]
    exact (foldl_inv (State.exchangeDue · owed) _ (fun _ p h => h.placePiece false _ p) _ _ hdue).finishIfDone i

theorem State.exchangeDue.modStream (h : s.exchangeDue owed) (k : Handle) (g : Stream → Stream) :
    (s.modStream k g).exchangeDue owed := h.of_ports (.of_nodes rfl) rfl

theorem State.exchangeDue.enterHold (h : s.exchangeDue owed) (k : Handle) (st : Stream) (i : Nat) :
    (s.enterHold k st i).exchangeDue owed := by
  unfold State.enterHold
  extract_lets older joined settled
  have hjoined : joined.exchangeDue owed := h.modStream ..
  have hsettled : settled.exchangeDue owed := by
    unfold settled
    split
    · exact foldl_inv (State.exchangeDue · owed) _ (fun _ v h => h.withdrawFrame .superseded v) _ _ hjoined
    · exact hjoined
  split
  · exact hsettled.releaseFrame i
  · exact hsettled.modStream ..

/-- An accepted read keeps the place of its command for its FRAME_DONE (R66, R157). -/
theorem State.exchangeDue.acceptRead {n : NodeId} (h : s.exchangeDue (some n)) (ha : (s.node n).state = .attached)
    (rec : List Byte) (st : Stream) (kind : FrameKind) (deadline : Option Time) :
    (s.acceptRead n rec st kind deadline).exchangeDue none := by
  have halloc : (s.allocated n rec st kind deadline).exchangeDue none := by
    obtain ⟨hsort, hnode⟩ := h
    refine ⟨Pool.sorted_put hsort _ _, fun m => ?_⟩
    obtain ⟨hcmd, htot, hres⟩ := hnode m
    have hun := Pool.countOf_put_fresh (Pool.get_lowestFree hsort)
      (frameRecord n (s.node n).epoch rec kind deadline (s.pieces.lowestFreeMany st.spans.length) s.time)
      fun g => decide (g.node = m) && decide (g.epoch = (s.node m).epoch)
    refine ⟨hcmd, htot, hres.trans ?_⟩
    have hread : (s.allocated n rec st kind deadline).unanswered m = s.unanswered m + if m = n then 1 else 0 := by
      refine hun.trans (congrArg _ (if_congr ?_ rfl rfl))
      rw [Bool.and_eq_true]
      refine ⟨fun e => (of_decide_eq_true e.1).symm, ?_⟩
      rintro rfl
      exact ⟨decide_eq_true rfl, decide_eq_true rfl⟩
    have hsame : (s.allocated n rec st kind deadline).node m = s.node m := rfl
    rw [hread, hsame]
    by_cases hm : m = n
    · subst hm
      simp only [ha, if_true, reduceCtorEq, if_false]
      omega
    · rw [if_neg hm, if_neg fun e => hm (Option.some.inj e).symm]
      simp
  rw [State.acceptRead_eq s n rec st kind deadline rfl]
  have hplaced := foldl_inv (State.exchangeDue · none) _
    (fun _ p h => h.placePiece (decide (kind = .scrub)) (recStream rec).handle p)
    (s.pieces.lowestFreeMany st.spans.length) _ halloc
  split
  · exact hplaced.enterHold ..
  · exact hplaced.finishIfDone _

end

end Sys2Proof.Machine
end

section
/-! PROOFS. The places of the pieces while some are out of theirs: the invariant of StepKeepsEveryPieceInItsPlace in the
middle of an event (R47 to R50, R84, R105). -/

namespace Sys2Proof.Machine

/-! ## Pieces out of their places -/

/-- Frames and pieces refer to each other, and every frame refers to a piece, but for the one in record `gap`. -/
structure State.RefsBut (s : State) (gap : Option Nat) : Prop where
  frames : s.frames.sorted
  pieces : s.pieces.sorted
  ref : ∀ p pc, s.pieces.get p = some pc →
    ∃ f, s.frames.get pc.frame = some f ∧ f.positions[pc.position]? = some (.piece p)
  back : ∀ i f, s.frames.get i = some f → ∀ (k : Nat) p, f.positions[k]? = some (.piece p) →
    ∃ pc, s.pieces.get p = some pc ∧ pc.frame = i ∧ pc.position = k
  filled : ∀ i f, s.frames.get i = some f → gap ≠ some i → f.pieceRefs ≠ []

/-- Every piece has its one place, but for those of `loose`, which are in no list, slot or outcome on its way. -/
structure State.PiecesBut (s : State) (gap : Option Nat) (loose : List Nat) : Prop extends s.RefsBut gap where
  nodup : loose.Nodup
  used : ∀ p ∈ loose, s.pieces.get p ≠ none
  once : ∀ j, (s.queued j).Nodup
  listed : ∀ j, ∀ p ∈ s.queued j, p ∉ loose ∧ ∃ pc, s.pieces.get p = some pc ∧ pc.span = j ∧ pc.state = .queued
  queued : ∀ p pc, s.pieces.get p = some pc → pc.state = .queued → p ∉ loose → p ∈ s.queued pc.span
  timed : ∀ j, ∀ p ∈ (s.span j).queue.deadlines, s.deadlineOf p ≠ none
  untimed : ∀ j, ∀ p ∈ (s.span j).queue.background, s.deadlineOf p = none
  served : ∀ p pc, s.pieces.get p = some pc →
    (s.span pc.span).service.busyPieces.count p + s.outcomesInFlight.count p =
      if pc.state = .inService ∧ p ∉ loose then 1 else 0
  held : ∀ p pc, s.pieces.get p = some pc → pc.state = .held → p ∉ loose → ∃ f, s.frames.get pc.frame = some f ∧
    f.deadline = none ∧ ∀ q ∈ f.pieceRefs, s.pieceState q = some .held
  busy : ∀ j, ∀ p ∈ (s.span j).service.busyPieces, ∃ pc, s.pieces.get p = some pc ∧ pc.span = j
  coming : ∀ p ∈ s.outcomesInFlight, s.pieces.get p ≠ none

theorem State.pieceHas_iff (s : State) (p : Nat) (test : Piece → Bool) :
    s.pieceHas p test = true ↔ ∃ pc, s.pieces.get p = some pc ∧ test pc = true := by
  unfold State.pieceHas
  cases s.pieces.get p <;> simp

theorem State.frameHas_iff (s : State) (i : Nat) (test : Frame → Bool) :
    s.frameHas i test = true ↔ ∃ f, s.frames.get i = some f ∧ test f = true := by
  unfold State.frameHas
  cases s.frames.get i <;> simp

/-- With no piece loose and no gap it is the invariant. -/
theorem State.piecesOk_iff (s : State) : s.piecesOk ↔ s.PiecesBut none [] := by
  constructor
  · rintro ⟨⟨hf, hp, href, hback⟩, hlists, hserved, hheld, hbusy, hcoming⟩
    have refs (i : Nat) (f : Frame) (hi : s.frames.get i = some f) := hback (i, f) (Pool.mem_of_get hi)
    refine ⟨⟨hf, hp, fun p pc h => ?_, fun i f hi k p hk => ?_, fun i f hi _ => (refs i f hi).1⟩, List.nodup_nil,
      fun _ h => absurd h List.not_mem_nil, fun j => (hlists j).1, fun j p h => ?_, fun p pc h hq _ => ?_,
      fun j => (hlists j).2.2.2.1, fun j => (hlists j).2.2.2.2, fun p pc h => ?_, fun p pc h hs _ => ?_,
      fun j p h => ?_, hcoming⟩
    · simpa [State.frameHas_iff] using href (p, pc) (Pool.mem_of_get h)
    · have hx := (refs i f hi).2 (.piece p, k) (List.mk_mem_zipIdx_iff_getElem?.2 hk)
      simpa [State.pieceHas_iff] using hx
    · simpa [State.pieceHas_iff] using (hlists j).2.1 p h
    · exact (hlists pc.span).2.2.1 (p, pc) (Pool.mem_of_get h) rfl hq
    · simpa using hserved (p, pc) (Pool.mem_of_get h)
    · simpa [State.frameHas_iff] using hheld (p, pc) (Pool.mem_of_get h) hs
    · simpa [State.pieceHas_iff] using hbusy j p h
  · intro h
    refine ⟨⟨h.frames, h.pieces, ?_, ?_⟩, fun j => ⟨h.once j, ?_, ?_, h.timed j, h.untimed j⟩, ?_, ?_, ?_, h.coming⟩
    · rintro ⟨p, pc⟩ hp
      simpa [State.frameHas_iff] using h.ref p pc (Pool.get_of_mem h.pieces hp)
    · rintro ⟨i, f⟩ hi
      have hf := Pool.get_of_mem h.frames hi
      refine ⟨h.filled i f hf nofun, ?_⟩
      rintro ⟨x, k⟩ hx
      have hk := List.mk_mem_zipIdx_iff_getElem?.1 hx
      cases x with
      | finished o => rfl
      | piece p => simpa [State.pieceHas_iff] using h.back i f hf k p hk
    · intro p hp
      simpa [State.pieceHas_iff] using (h.listed j p hp).2
    · rintro ⟨p, pc⟩ hp rfl hq
      exact h.queued p pc (Pool.get_of_mem h.pieces hp) hq List.not_mem_nil
    · rintro ⟨p, pc⟩ hp
      simpa using h.served p pc (Pool.get_of_mem h.pieces hp)
    · rintro ⟨p, pc⟩ hp hs
      simpa [State.frameHas_iff] using h.held p pc (Pool.get_of_mem h.pieces hp) hs List.not_mem_nil
    · intro j p hp
      simpa [State.pieceHas_iff] using h.busy j p hp

/-! ## What stands when the lists and slots stand -/

/-- The lists of the queues, the BUSY slots and the outcomes on their way are those of `s`. -/
structure State.SamePlaces (s t : State) : Prop where
  deadlines : ∀ j, (t.span j).queue.deadlines = (s.span j).queue.deadlines
  background : ∀ j, (t.span j).queue.background = (s.span j).queue.background
  busy : ∀ j, (t.span j).service.busyPieces = (s.span j).service.busyPieces
  coming : t.outcomesInFlight = s.outcomesInFlight

theorem State.SamePlaces.refl (s : State) : s.SamePlaces s := ⟨fun _ => rfl, fun _ => rfl, fun _ => rfl, rfl⟩

theorem State.SamePlaces.trans {s t u : State} (h : s.SamePlaces t) (h' : t.SamePlaces u) : s.SamePlaces u :=
  ⟨fun j => (h'.deadlines j).trans (h.deadlines j), fun j => (h'.background j).trans (h.background j),
    fun j => (h'.busy j).trans (h.busy j), h'.coming.trans h.coming⟩

theorem State.SamePlaces.of_spans {s t : State} (hs : t.spans = s.spans) (hr : t.reports = s.reports) :
    s.SamePlaces t := by
  have hspan (j : SpanId) : t.span j = s.span j := by simp only [State.span, hs]
  exact ⟨fun j => by rw [hspan], fun j => by rw [hspan], fun j => by rw [hspan], by simp only [State.outcomesInFlight, hr]⟩

theorem State.SamePlaces.queued {s t : State} (h : s.SamePlaces t) (j : SpanId) : t.queued j = s.queued j := by
  rw [State.queued, h.deadlines, h.background, State.queued]

theorem State.deadlineOf_congr {s t : State} (hf : t.frames = s.frames) (hp : t.pieces = s.pieces) (p : Nat) :
    t.deadlineOf p = s.deadlineOf p := by simp only [State.deadlineOf, hf, hp]

section

variable {s t : State} {gap : Option Nat} {loose : List Nat}

theorem State.RefsBut.congr (h : s.RefsBut gap) (hf : t.frames = s.frames) (hp : t.pieces = s.pieces) :
    t.RefsBut gap where
  frames := hf ▸ h.frames
  pieces := hp ▸ h.pieces
  ref := by rw [hf, hp]; exact h.ref
  back := by rw [hf, hp]; exact h.back
  filled := by rw [hf]; exact h.filled

/-- A change outside the Frame Table that leaves every place. -/
theorem State.PiecesBut.congr (h : s.PiecesBut gap loose) (hf : t.frames = s.frames) (hp : t.pieces = s.pieces)
    (hpl : s.SamePlaces t) : t.PiecesBut gap loose where
  toRefsBut := h.toRefsBut.congr hf hp
  nodup := h.nodup
  used := by rw [hp]; exact h.used
  once j := by rw [hpl.queued]; exact h.once j
  listed j := by rw [hpl.queued, hp]; exact h.listed j
  queued p pc hpc := by rw [hpl.queued]; exact h.queued p pc (hp ▸ hpc)
  timed j := by simp only [hpl.deadlines, State.deadlineOf_congr hf hp]; exact h.timed j
  untimed j := by simp only [hpl.background, State.deadlineOf_congr hf hp]; exact h.untimed j
  served p pc hpc := by rw [hpl.busy, hpl.coming]; exact h.served p pc (hp ▸ hpc)
  held p pc hpc := by simp only [hf, State.pieceState, hp]; exact h.held p pc (hp ▸ hpc)
  busy j := by rw [hpl.busy, hp]; exact h.busy j
  coming := by rw [hpl.coming, hp]; exact h.coming

/-! ## A frame and its pieces -/

/-- A frame refers to each of its pieces once, and to no piece of another frame. -/
theorem State.RefsBut.mem_pieceRefs (h : s.RefsBut gap) {p i : Nat} {pc : Piece} {f : Frame}
    (hp : s.pieces.get p = some pc) (hf : s.frames.get i = some f) : p ∈ f.pieceRefs ↔ pc.frame = i := by
  rw [Frame.mem_pieceRefs]
  constructor
  · rintro ⟨k, hk⟩
    obtain ⟨qc, hq, hi, -⟩ := h.back i f hf k p hk
    rw [hp] at hq
    cases hq
    exact hi
  · rintro rfl
    obtain ⟨g, hg, hpos⟩ := h.ref p pc hp
    rw [hf] at hg
    cases hg
    exact ⟨_, hpos⟩

theorem State.RefsBut.get_of_mem (h : s.RefsBut gap) {p i : Nat} {f : Frame} (hf : s.frames.get i = some f)
    (hp : p ∈ f.pieceRefs) : ∃ pc, s.pieces.get p = some pc ∧ pc.frame = i := by
  obtain ⟨k, hk⟩ := f.mem_pieceRefs.1 hp
  obtain ⟨pc, hpc, hi, -⟩ := h.back i f hf k p hk
  exact ⟨pc, hpc, hi⟩

theorem State.RefsBut.refersBack (h : s.RefsBut gap) {i : Nat} {f : Frame} (hf : s.frames.get i = some f) :
    s.refersBack i f := ⟨hf, h.frames, h.pieces, h.back i f hf⟩

/-! ## A loose piece has no place -/

theorem State.PiecesBut.not_queued (h : s.PiecesBut gap loose) {p : Nat} (hp : p ∈ loose) (j : SpanId) :
    p ∉ s.queued j := fun hq => (h.listed j p hq).1 hp

theorem State.PiecesBut.not_busy (h : s.PiecesBut gap loose) {p : Nat} (hp : p ∈ loose) (j : SpanId) :
    p ∉ (s.span j).service.busyPieces := fun hb => by
  obtain ⟨pc, hpc, rfl⟩ := h.busy j p hb
  have hcount := h.served p pc hpc
  rw [if_neg fun e => e.2 hp] at hcount
  have := List.count_pos_iff.2 hb
  omega

theorem State.PiecesBut.not_coming (h : s.PiecesBut gap loose) {p : Nat} (hp : p ∈ loose) : p ∉ s.outcomesInFlight :=
  fun hc => by
    obtain ⟨pc, hpc⟩ := Option.ne_none_iff_exists'.1 (h.used p hp)
    have hcount := h.served p pc hpc
    rw [if_neg fun e => e.2 hp] at hcount
    have := List.count_pos_iff.2 hc
    omega

end

end Sys2Proof.Machine
end

section
/-! PROOFS. Outcomes recorded and frames finished in the middle of an event (R60, R62). -/

namespace Sys2Proof.Machine

theorem Frame.finishing_ref (f : Frame) {p q k : Nat} (hq : q ≠ p) (o : PieceOutcome)
    (hk : f.positions[k]? = some (.piece q)) :
    (f.finishing (fun r => decide (r = p)) o).positions[k]? = some (.piece q) := by
  simp [Frame.finishing, hk, Position.finishing, hq]

theorem State.pieceState_congr {s t : State} {p : Nat} (h : t.pieces.get p = s.pieces.get p) :
    t.pieceState p = s.pieceState p := by simp only [State.pieceState, h]

/-! ## An outcome recorded -/

section

variable {s : State} {gap : Option Nat} {p : Nat} {pc : Piece} {f : Frame} (h : s.RefsBut gap)
  (hp : s.pieces.get p = some pc) (o : PieceOutcome)
include h hp

/-- What an outcome recorded leaves of the pieces, of the other frames and of the piece's own frame (R60). -/
theorem State.RefsBut.recorded (hf : s.frames.get pc.frame = some f) :
    ((s.recordOutcome p o).pieces.get p = none ∧
      ∀ q, q ≠ p → (s.recordOutcome p o).pieces.get q = s.pieces.get q) ∧
    (∀ i, i ≠ pc.frame → (s.recordOutcome p o).frames.get i = s.frames.get i) ∧
    (s.recordOutcome p o).refersBack pc.frame (f.finishing (fun q => decide (q = p)) o) := by
  have hback := h.refersBack hf
  have hmem : p ∈ f.pieceRefs := (h.mem_pieceRefs hp hf).2 rfl
  refine ⟨?_, ?_, hback.recordOutcome hmem o⟩ <;> rw [hback.recordOutcome_eq hmem o]
  · exact ⟨Pool.get_free_self h.pieces p, fun q hq => Pool.get_free_ne _ hq⟩
  · intro i hi
    simp [Pool.get_modify, hi]

theorem State.RefsBut.get_recorded {q : Nat} {qc : Piece} (hq : (s.recordOutcome p o).pieces.get q = some qc) :
    q ≠ p ∧ s.pieces.get q = some qc := by
  obtain ⟨f, hf, -⟩ := h.ref p pc hp
  obtain ⟨⟨hgone, hpiece⟩, -⟩ := h.recorded hp o hf
  have hqp : q ≠ p := fun e => by
    rw [e, hgone] at hq
    cases hq
  exact ⟨hqp, (hpiece q hqp).symm.trans hq⟩

/-- A piece finished: its frame may be left without a piece. -/
theorem State.RefsBut.record (hg : gap = none ∨ gap = some pc.frame) :
    (s.recordOutcome p o).RefsBut (some pc.frame) := by
  obtain ⟨f, hf, -⟩ := h.ref p pc hp
  obtain ⟨⟨-, hpiece⟩, hother, hget, hsf, hsp, hrefs⟩ := h.recorded hp o hf
  refine ⟨hsf, hsp, fun q qc hq => ?_, fun i g hi k q hk => ?_, fun i g hi hgap => ?_⟩
  · obtain ⟨hqp, hq⟩ := h.get_recorded hp o hq
    obtain ⟨g, hg, hpos⟩ := h.ref q qc hq
    by_cases hi : qc.frame = pc.frame
    · rw [hi, hf] at hg
      cases hg
      exact ⟨_, hi ▸ hget, f.finishing_ref hqp o hpos⟩
    · exact ⟨g, (hother _ hi).trans hg, hpos⟩
  · by_cases he : i = pc.frame
    · subst he
      rw [hget] at hi
      cases hi
      exact hrefs k q hk
    · rw [hother i he] at hi
      obtain ⟨qc, hq, hqi, hqk⟩ := h.back i g hi k q hk
      have hqp : q ≠ p := fun e => by
        rw [e, hp] at hq
        cases hq
        exact he hqi.symm
      exact ⟨qc, (hpiece q hqp).trans hq, hqi, hqk⟩
  · have he : i ≠ pc.frame := fun e => hgap (by rw [e])
    rw [hother i he] at hi
    refine h.filled i g hi ?_
    rcases hg with rfl | rfl
    · nofun
    · exact hgap

end

theorem State.samePlaces_recordOutcome (s : State) (p : Nat) (o : PieceOutcome) : s.SamePlaces (s.recordOutcome p o) :=
  .of_spans (by simp) (by simp)

section

variable {s : State} {gap : Option Nat} {loose : List Nat} {p : Nat} {pc : Piece}

/-- A loose piece finished. -/
theorem State.PiecesBut.record (h : s.PiecesBut gap (p :: loose)) (hp : s.pieces.get p = some pc)
    (hg : gap = none ∨ gap = some pc.frame) (o : PieceOutcome) :
    (s.recordOutcome p o).PiecesBut (some pc.frame) loose := by
  obtain ⟨f, hf, -⟩ := h.ref p pc hp
  have hmem : p ∈ f.pieceRefs := (h.mem_pieceRefs hp hf).2 rfl
  obtain ⟨⟨-, hpiece⟩, hother, hget, -⟩ := h.recorded hp o hf
  have hne {q : Nat} {qc : Piece} (hq : (s.recordOutcome p o).pieces.get q = some qc) := h.get_recorded hp o hq
  have hpl := s.samePlaces_recordOutcome p o
  have hin : p ∈ p :: loose := List.mem_cons_self
  have hlisted (j : SpanId) {q : Nat} (hq : q ∈ s.queued j) : q ≠ p := fun e => h.not_queued hin j (e ▸ hq)
  have hdead {q : Nat} (hq : q ≠ p) := (h.refersBack hf).recordOutcome_deadlineOf hmem o hq
  obtain ⟨hnot, hnodup⟩ := List.nodup_cons.1 h.nodup
  have hloose {q : Nat} (hq : q ≠ p) : q ∉ p :: loose ↔ q ∉ loose := by simp [hq]
  refine ⟨h.toRefsBut.record hp o hg, hnodup, fun q hq => ?_, fun j => ?_, fun j q hq => ?_, fun q qc hq hs hl => ?_,
    fun j q hq => ?_, fun j q hq => ?_, fun q qc hq => ?_, fun q qc hq hs hl => ?_, fun j q hq => ?_, fun q hq => ?_⟩
  · rw [hpiece q fun e => hnot (e ▸ hq)]
    exact h.used q (List.mem_cons_of_mem _ hq)
  · rw [hpl.queued]
    exact h.once j
  · rw [hpl.queued] at hq
    obtain ⟨hl, hqc⟩ := h.listed j q hq
    rw [hpiece q (hlisted j hq)]
    exact ⟨(hloose (hlisted j hq)).1 hl, hqc⟩
  · obtain ⟨hqp, hq⟩ := hne hq
    rw [hpl.queued]
    exact h.queued q qc hq hs ((hloose hqp).2 hl)
  · rw [hpl.deadlines] at hq
    rw [hdead (hlisted j (List.mem_append.2 (.inl hq)))]
    exact h.timed j q hq
  · rw [hpl.background] at hq
    rw [hdead (hlisted j (List.mem_append.2 (.inr hq)))]
    exact h.untimed j q hq
  · obtain ⟨hqp, hq⟩ := hne hq
    rw [hpl.busy, hpl.coming, h.served q qc hq]
    exact if_congr (by rw [hloose hqp]) rfl rfl
  · obtain ⟨hqp, hq⟩ := hne hq
    obtain ⟨g, hg, hd, hall⟩ := h.held q qc hq hs ((hloose hqp).2 hl)
    by_cases hi : qc.frame = pc.frame
    · rw [hi, hf] at hg
      cases hg
      refine ⟨f.finishing (fun r => decide (r = p)) o, hi ▸ hget, hd, fun r hr => ?_⟩
      rw [Frame.pieceRefs_finishing] at hr
      obtain ⟨hrf, hrp⟩ := List.mem_filter.1 hr
      rw [State.pieceState_congr (hpiece r (by simpa using hrp))]
      exact hall r hrf
    · refine ⟨g, (hother _ hi).trans hg, hd, fun r hr => ?_⟩
      rw [State.pieceState_congr (hpiece r fun e => hi ((h.mem_pieceRefs hp hg).1 (e ▸ hr)).symm)]
      exact hall r hr
  · rw [hpl.busy] at hq
    rw [hpiece q fun e => h.not_busy hin j (e ▸ hq)]
    exact h.busy j q hq
  · rw [hpl.coming] at hq
    rw [hpiece q fun e => h.not_coming hin (e ▸ hq)]
    exact h.coming q hq

end

/-! ## A frame without pieces finished -/

section

variable {s : State} {loose : List Nat} {i : Nat} {f : Frame}

theorem State.samePlaces_finishFrame (s : State) (i : Nat) (f : Frame) : s.SamePlaces (s.finishFrame i f) :=
  .of_spans (by simp) (by simp)

section

variable (h : s.RefsBut (some i)) (hf : s.frames.get i = some f) (hnone : f.pieceRefs = [])
include h

theorem State.RefsBut.get_finished {k : Nat} {g : Frame} (hg : (s.finishFrame i f).frames.get k = some g) :
    k ≠ i ∧ s.frames.get k = some g := by
  rw [State.finishFrame_frames] at hg
  have hk : k ≠ i := fun e => by
    rw [e, Pool.get_free_self h.frames] at hg
    cases hg
  exact ⟨hk, (Pool.get_free_ne _ hk).symm.trans hg⟩

include hf hnone

/-- No piece refers to the frame that finishes, so every piece's own frame stands. -/
theorem State.RefsBut.get_frame_finished {p : Nat} {pc : Piece} (hp : s.pieces.get p = some pc) :
    (s.finishFrame i f).frames.get pc.frame = s.frames.get pc.frame := by
  rw [State.finishFrame_frames, Pool.get_free_ne]
  intro e
  have hmem := (h.mem_pieceRefs hp hf).2 e
  rw [hnone] at hmem
  cases hmem

theorem State.RefsBut.finished_deadlineOf (p : Nat) : (s.finishFrame i f).deadlineOf p = s.deadlineOf p := by
  unfold State.deadlineOf
  rw [State.finishFrame_pieces]
  cases hp : s.pieces.get p with
  | none => rfl
  | some pc => simp only [h.get_frame_finished hf hnone hp]

theorem State.RefsBut.finishFrame : (s.finishFrame i f).RefsBut none := by
  refine ⟨by rw [State.finishFrame_frames]; exact Pool.sorted_free h.frames i,
    by rw [State.finishFrame_pieces]; exact h.pieces, fun p pc hp => ?_, fun k g hg m p hm => ?_, fun k g hg _ => ?_⟩
  · rw [State.finishFrame_pieces] at hp
    rw [h.get_frame_finished hf hnone hp]
    exact h.ref p pc hp
  · rw [State.finishFrame_pieces]
    exact h.back k g (h.get_finished hg).2 m p hm
  · obtain ⟨hk, hg⟩ := h.get_finished hg
    exact h.filled k g hg fun e => hk (Option.some.inj e).symm

end

/-- The record of a frame without pieces freed. -/
theorem State.PiecesBut.finishFrame (h : s.PiecesBut (some i) loose) (hf : s.frames.get i = some f)
    (hnone : f.pieceRefs = []) : (s.finishFrame i f).PiecesBut none loose := by
  have hpieces : (s.finishFrame i f).pieces = s.pieces := State.finishFrame_pieces s i f
  have hpl := s.samePlaces_finishFrame i f
  have hdead := h.finished_deadlineOf hf hnone
  exact {
    toRefsBut := h.toRefsBut.finishFrame hf hnone
    nodup := h.nodup
    used := by rw [hpieces]; exact h.used
    once := fun j => by rw [hpl.queued]; exact h.once j
    listed := fun j => by rw [hpl.queued, hpieces]; exact h.listed j
    queued := fun p pc hp => by rw [hpl.queued]; exact h.queued p pc (hpieces ▸ hp)
    timed := fun j => by simp only [hpl.deadlines, hdead]; exact h.timed j
    untimed := fun j => by simp only [hpl.background, hdead]; exact h.untimed j
    served := fun p pc hp => by rw [hpl.busy, hpl.coming]; exact h.served p pc (hpieces ▸ hp)
    held := fun p pc hp => by
      rw [hpieces] at hp
      rw [h.get_frame_finished hf hnone hp]
      simp only [State.pieceState, hpieces]
      exact h.held p pc hp
    busy := fun j => by rw [hpl.busy, hpieces]; exact h.busy j
    coming := by rw [hpl.coming, hpieces]; exact h.coming }

/-- A gap that does not gape is none. -/
theorem State.RefsBut.close (h : s.RefsBut (some i)) (hleft : ∀ f, s.frames.get i = some f → f.pieceRefs ≠ []) :
    s.RefsBut none := by
  refine { h with filled := fun k f hf _ => ?_ }
  by_cases hk : k = i
  · exact hleft f (hk ▸ hf)
  · exact h.filled k f hf fun e => hk (Option.some.inj e).symm

theorem State.RefsBut.finishIfDone (h : s.RefsBut (some i)) : (s.finishIfDone i).RefsBut none := by
  rcases s.finishIfDone_cases i with ⟨e, hleft⟩ | ⟨f, hf, hnone, e⟩
  · rw [e]
    exact h.close hleft
  · rw [e]
    exact h.finishFrame hf hnone

/-- A frame with no piece left finishes, and the gap is closed (R60). -/
theorem State.PiecesBut.finishIfDone (h : s.PiecesBut (some i) loose) :
    (s.finishIfDone i).PiecesBut none loose := by
  rcases s.finishIfDone_cases i with ⟨e, hleft⟩ | ⟨f, hf, hnone, e⟩
  · rw [e]
    exact { h with toRefsBut := h.toRefsBut.close hleft }
  · rw [e]
    exact h.finishFrame hf hnone

end

/-- The outcome of a loose piece taken (R60). -/
theorem State.PiecesBut.takeOutcome {s : State} {p : Nat} {loose : List Nat} (h : s.PiecesBut none (p :: loose))
    (o : PieceOutcome) : (s.takeOutcome p o).PiecesBut none loose := by
  obtain ⟨pc, hp⟩ := Option.ne_none_iff_exists'.1 (h.used p List.mem_cons_self)
  have htake : s.takeOutcome p o = (s.recordOutcome p o).finishIfDone pc.frame := by simp only [State.takeOutcome, hp]
  rw [htake]
  exact (h.record hp (.inl rfl) o).finishIfDone

end Sys2Proof.Machine
end

section
/-! PROOFS. Pieces leaving and entering their lists in the middle of an event: withdrawal, the loss of a queue, placement
and release (R57, R61, R77, R84 to R86, R99). -/

namespace Sys2Proof.Machine

/-! ## A change of a frame record that keeps its positions -/

section

variable {s : State} {gap : Option Nat} {loose : List Nat} {i : Nat} {g : Frame → Frame}

theorem State.get_modFrame {k : Nat} {f : Frame} (hf : (s.modFrame i g).frames.get k = some f) :
    ∃ f₀, s.frames.get k = some f₀ ∧ f = if k = i then g f₀ else f₀ := by
  rw [State.modFrame_frames, Pool.get_modify] at hf
  by_cases hk : k = i
  · rw [if_pos hk] at hf
    obtain ⟨f₀, hf₀, rfl⟩ := Option.map_eq_some_iff.1 hf
    exact ⟨f₀, hk ▸ hf₀, by rw [if_pos hk]⟩
  · rw [if_neg hk] at hf
    exact ⟨f, hf, by rw [if_neg hk]⟩

theorem State.get_modFrame_of_get {k : Nat} {f : Frame} (hf : s.frames.get k = some f) :
    (s.modFrame i g).frames.get k = some (if k = i then g f else f) := by
  rw [State.modFrame_frames, Pool.get_modify]
  split
  · rename_i hk
    rw [← hk, hf]
    rfl
  · exact hf

theorem State.RefsBut.modFrame (h : s.RefsBut gap) (i : Nat) (hg : ∀ f, (g f).positions = f.positions) :
    (s.modFrame i g).RefsBut gap := by
  have hpos (k : Nat) (f : Frame) : (if k = i then g f else f).positions = f.positions := by split <;> simp [hg]
  have hrefs (k : Nat) (f : Frame) : (if k = i then g f else f).pieceRefs = f.pieceRefs := by
    simp only [Frame.pieceRefs, hpos]
  refine ⟨?_, h.pieces, fun p pc hp => ?_, fun k f hf m p hm => ?_, fun k f hf => ?_⟩
  · rw [State.modFrame_frames, Pool.sorted, Pool.keys_modify]
    exact h.frames
  · obtain ⟨f, hf, hm⟩ := h.ref p pc hp
    exact ⟨_, State.get_modFrame_of_get hf, by rw [hpos, hm]⟩
  · obtain ⟨f₀, hf₀, rfl⟩ := State.get_modFrame hf
    rw [hpos] at hm
    exact h.back k f₀ hf₀ m p hm
  · obtain ⟨f₀, hf₀, rfl⟩ := State.get_modFrame hf
    rw [hrefs]
    exact h.filled k f₀ hf₀

/-- A frame's deadline may change while none of its pieces has a place. -/
theorem State.PiecesBut.modFrame (h : s.PiecesBut gap loose) (hg : ∀ f, (g f).positions = f.positions)
    (hd : ∀ f, s.frames.get i = some f → (g f).deadline = f.deadline ∨ ∀ p ∈ f.pieceRefs, p ∈ loose) :
    (s.modFrame i g).PiecesBut gap loose := by
  have hpl : s.SamePlaces (s.modFrame i g) := .of_spans rfl rfl
  have hrefs (k : Nat) (f : Frame) : (if k = i then g f else f).pieceRefs = f.pieceRefs := by
    split <;> simp [Frame.pieceRefs, hg]
  have hdead {p : Nat} {pc : Piece} {f : Frame} (hp : s.pieces.get p = some pc) (hf : s.frames.get pc.frame = some f)
      (hl : p ∉ loose) : (if pc.frame = i then g f else f).deadline = f.deadline := by
    split
    · rename_i hi
      exact (hd f (hi ▸ hf)).resolve_right fun hall => hl (hall p ((h.mem_pieceRefs hp hf).2 rfl))
    · rfl
  have hdead' {p : Nat} (hl : p ∉ loose) : (s.modFrame i g).deadlineOf p = s.deadlineOf p := by
    unfold State.deadlineOf
    rw [State.modFrame_pieces]
    cases hp : s.pieces.get p with
    | none => rfl
    | some pc =>
      obtain ⟨f, hf, -⟩ := h.ref p pc hp
      simp only [State.get_modFrame_of_get hf, hf, hdead hp hf hl]
  refine { toRefsBut := h.toRefsBut.modFrame i hg, nodup := h.nodup, used := h.used, once := h.once, listed := h.listed,
           queued := h.queued, timed := fun j p hp => ?_, untimed := fun j p hp => ?_, served := h.served,
           held := fun p pc hp hs hl => ?_, busy := h.busy, coming := h.coming }
  · rw [hdead' (h.listed j p (List.mem_append.2 (.inl hp))).1]
    exact h.timed j p hp
  · rw [hdead' (h.listed j p (List.mem_append.2 (.inr hp))).1]
    exact h.untimed j p hp
  · obtain ⟨f, hf, hnone, hall⟩ := h.held p pc hp hs hl
    refine ⟨_, State.get_modFrame_of_get hf, by rw [hdead hp hf hl, hnone], fun q hq => ?_⟩
    rw [hrefs] at hq
    exact hall q hq

end

/-! ## Pieces out of their lists -/

section

variable {s : State} {gap : Option Nat} {loose : List Nat} {p : Nat} {pc : Piece}

theorem State.queued_unlist (s : State) (j k : SpanId) (p : Nat) :
    (s.unlist j p).queued k = if k = j then (s.queued j).erase p else s.queued k := by
  by_cases hk : k = j
  · subst hk
    rw [if_pos rfl]
    unfold State.queued
    rw [List.erase_append]
    by_cases hd : p ∈ (s.span k).queue.deadlines
    · rw [State.unlist_queue_listed hd, if_pos hd]
    · rw [State.unlist_queue_unlisted hd, if_neg hd]
  · rw [if_neg hk, State.queued, State.unlist_span_ne s hk, State.queued]

/-- A removal leaves every other piece of a list in it. -/
theorem State.mem_of_mem_unlist {s : State} {j k : SpanId} {p q : Nat} :
    (q ∈ ((s.unlist j p).span k).queue.deadlines → q ∈ (s.span k).queue.deadlines) ∧
    (q ∈ ((s.unlist j p).span k).queue.background → q ∈ (s.span k).queue.background) := by
  by_cases hk : k = j
  · subst hk
    by_cases hd : p ∈ (s.span k).queue.deadlines
    · rw [State.unlist_queue_listed hd]
      exact ⟨List.mem_of_mem_erase, id⟩
    · rw [State.unlist_queue_unlisted hd]
      exact ⟨id, List.mem_of_mem_erase⟩
  · rw [State.unlist_span_ne s hk]
    exact ⟨id, id⟩

/-- A queued piece out of its list is loose. -/
theorem State.PiecesBut.unlist (h : s.PiecesBut gap loose) {j : SpanId} (hp : p ∈ s.queued j) :
    (s.unlist j p).PiecesBut gap (p :: loose) := by
  obtain ⟨hl, pc, hpc, hspan, hstate⟩ := h.listed j p hp
  have hfr : (s.unlist j p).frames = s.frames := by simp
  have hpi : (s.unlist j p).pieces = s.pieces := by simp
  have hout : (s.unlist j p).outcomesInFlight = s.outcomesInFlight := by simp [State.outcomesInFlight]
  have hloose {q : Nat} (hq : q ≠ p) : q ∉ p :: loose ↔ q ∉ loose := by simp [hq]
  refine { toRefsBut := h.toRefsBut.congr hfr hpi, nodup := List.nodup_cons.2 ⟨hl, h.nodup⟩, used := ?_, once := fun k => ?_,
           listed := fun k q hq => ?_, queued := fun q qc hq hs hn => ?_, timed := fun k q hq => ?_,
           untimed := fun k q hq => ?_, served := fun q qc hq => ?_, held := fun q qc hq hs hn => ?_,
           busy := fun k => ?_, coming := ?_ }
  · rw [hpi]
    refine fun q hq => (List.mem_cons.1 hq).elim (fun e => ?_) (h.used q)
    rw [e, hpc]
    nofun
  · rw [State.queued_unlist]
    split
    · exact (h.once j).erase p
    · exact h.once k
  · rw [hpi]
    rw [State.queued_unlist] at hq
    by_cases hk : k = j
    · rw [if_pos hk] at hq
      obtain ⟨hqp, hq⟩ := (h.once j).mem_erase_iff.1 hq
      rw [hk, hloose hqp]
      exact h.listed j q hq
    · rw [if_neg hk] at hq
      have hqp : q ≠ p := by
        rintro rfl
        obtain ⟨-, qc, hqc, hqk, -⟩ := h.listed k q hq
        rw [hpc] at hqc
        cases hqc
        exact hk (hqk.symm.trans hspan)
      rw [hloose hqp]
      exact h.listed k q hq
  · rw [hpi] at hq
    have hqp : q ≠ p := fun e => hn (e ▸ List.mem_cons_self)
    have hin := h.queued q qc hq hs ((hloose hqp).1 hn)
    rw [State.queued_unlist]
    split
    · rename_i hk
      exact (List.mem_erase_of_ne hqp).2 (hk ▸ hin)
    · exact hin
  · rw [State.unlist_deadlineOf]
    exact h.timed k q (State.mem_of_mem_unlist.1 hq)
  · rw [State.unlist_deadlineOf]
    exact h.untimed k q (State.mem_of_mem_unlist.2 hq)
  · rw [hpi] at hq
    rw [State.unlist_service, hout, h.served q qc hq]
    refine if_congr ?_ rfl rfl
    refine and_congr_right fun hs => ?_
    refine (hloose fun e => ?_).symm
    rw [e, hpc] at hq
    cases hq
    rw [hstate] at hs
    cases hs
  · rw [hpi] at hq
    rw [hfr]
    simp only [State.pieceState, hpi]
    exact h.held q qc hq hs fun hm => hn (List.mem_cons_of_mem _ hm)
  · rw [State.unlist_service, hpi]
    exact h.busy k
  · rw [hout, hpi]
    exact h.coming

/-- A HELD piece stands in no list: it is loose at once. -/
theorem State.PiecesBut.loosen_held (h : s.PiecesBut gap loose) (hp : s.pieces.get p = some pc)
    (hs : pc.state = .held) (hl : p ∉ loose) : s.PiecesBut gap (p :: loose) := by
  have hother {q : Nat} {qc : Piece} (hq : s.pieces.get q = some qc) (hne : qc.state ≠ .held) : q ≠ p := by
    rintro rfl
    rw [hp] at hq
    cases hq
    exact hne hs
  refine { h with nodup := List.nodup_cons.2 ⟨hl, h.nodup⟩, used := fun q hq => ?_, listed := fun j q hq => ?_,
                  queued := fun q qc hq hs hn => ?_, served := fun q qc hq => ?_, held := fun q qc hq hs hn => ?_ }
  · refine (List.mem_cons.1 hq).elim (fun e => ?_) (h.used q)
    rw [e, hp]
    nofun
  · obtain ⟨hn, qc, hq, hk, hqs⟩ := h.listed j q hq
    exact ⟨List.not_mem_cons_of_ne_of_not_mem (hother hq (by rw [hqs]; nofun)) hn, qc, hq, hk, hqs⟩
  · exact h.queued q qc hq hs fun hm => hn (List.mem_cons_of_mem _ hm)
  · rw [h.served q qc hq]
    refine if_congr (and_congr_right fun hqs => ?_) rfl rfl
    simp [hother hq (by rw [hqs]; nofun)]
  · exact h.held q qc hq hs fun hm => hn (List.mem_cons_of_mem _ hm)

theorem State.SamePlaces.post {s : State} {r : Report} (hr : ∀ p o, r ≠ .outcome p o) : s.SamePlaces (s.post r) := by
  refine ⟨fun _ => rfl, fun _ => rfl, fun _ => rfl, ?_⟩
  rw [State.outcomesInFlight, State.post_reports, List.filterMap_append]
  cases r with
  | outcome p o => exact absurd rfl (hr p o)
  | _ => exact List.append_nil _

/-- A waiting piece taken out of the hold or out of its list (R61, R86). -/
theorem State.PiecesBut.dequeued (h : s.PiecesBut gap loose) (hp : s.pieces.get p = some pc)
    (hw : pc.state ≠ .inService) (hl : p ∉ loose) : (s.dequeued p pc).PiecesBut gap (p :: loose) := by
  unfold State.dequeued
  split
  · rename_i hq
    exact (h.unlist (h.queued p pc hp hq hl)).congr rfl rfl (.post nofun)
  · rename_i hq
    cases hs : pc.state with
    | held => exact h.loosen_held hp hs hl
    | queued => exact absurd hs hq
    | inService => exact absurd hs hw

/-! ## Withdrawal -/

theorem State.PiecesBut.withdrawPiece {i : Nat} (h : s.PiecesBut (some i) [])
    (hi : ∀ pc, s.pieces.get p = some pc → pc.frame = i) (o : PieceOutcome) :
    (State.withdrawPiece o s p).PiecesBut (some i) [] := by
  rcases s.withdrawPiece_cases o p with ⟨-, e⟩ | ⟨pc, hp, hw, e⟩
  · rwa [e]
  · have hout := h.dequeued hp hw List.not_mem_nil
    rw [e, ← hi pc hp]
    refine hout.record (by rw [State.dequeued_pieces]; exact hp) (.inr ?_) o
    rw [hi pc hp]

/-- A withdrawal only frees piece records. -/
theorem State.RefsBut.get_withdrawPiece (h : s.RefsBut gap) {o : PieceOutcome} {q : Nat} {qc : Piece}
    (hq : (State.withdrawPiece o s p).pieces.get q = some qc) : s.pieces.get q = some qc := by
  rcases s.withdrawPiece_cases o p with ⟨-, e⟩ | ⟨pc, hp, hw, e⟩
  · rwa [e] at hq
  · rw [e] at hq
    have hout : (s.dequeued p pc).RefsBut gap := h.congr (by simp) (by simp)
    have hget := (hout.get_recorded (by rw [State.dequeued_pieces]; exact hp) o hq).2
    rwa [State.dequeued_pieces] at hget

theorem State.PiecesBut.withdrawn {i : Nat} (o : PieceOutcome) (ps : List Nat) (h : s.PiecesBut (some i) [])
    (hi : ∀ p ∈ ps, ∀ pc, s.pieces.get p = some pc → pc.frame = i) : (s.withdrawn o ps).PiecesBut (some i) [] := by
  induction ps generalizing s with
  | nil => exact h
  | cons p r ih =>
    exact ih (h.withdrawPiece (hi p List.mem_cons_self) o) fun q hq qc hqc =>
      hi q (List.mem_cons_of_mem _ hq) qc (h.toRefsBut.get_withdrawPiece hqc)

theorem State.RefsBut.gapped (h : s.RefsBut none) (i : Nat) : s.RefsBut (some i) :=
  { h with filled := fun k f hf _ => h.filled k f hf nofun }

/-- A frame that has taken its cancel reason: no place changes. -/
theorem State.PiecesBut.reasoned (h : s.PiecesBut gap loose) (i : Nat) (f : Frame) (r : CancelReason) :
    (s.reasoned i f r).PiecesBut gap loose := by
  have hmod : (s.modFrame i fun f => { f with cancel := some r }).PiecesBut gap loose :=
    h.modFrame (fun _ => rfl) fun _ _ => .inl rfl
  exact hmod.congr rfl rfl (.of_spans rfl rfl)

theorem State.PiecesBut.withdrawFrame (h : s.PiecesBut none []) (r : CancelReason) (i : Nat) :
    (State.withdrawFrame r s i).PiecesBut none [] := by
  rcases s.withdrawFrame_cases r i with e | ⟨f, hf, -, e⟩
  · rwa [e]
  · have hreasoned := h.reasoned i f r
    rw [e]
    refine (State.PiecesBut.withdrawn r.outcome f.pieceRefs { hreasoned with toRefsBut := hreasoned.toRefsBut.gapped i }
      fun p hp pc hpc => ?_).finishIfDone
    exact (h.mem_pieceRefs hpc hf).1 hp

/-! ## The loss of a queue -/

/-- A queue emptied: its pieces are loose (R99). -/
theorem State.PiecesBut.emptied (h : s.PiecesBut none []) (j : SpanId) :
    (s.emptied j).PiecesBut none (s.queued j) := by
  have hspan (k : SpanId) : (s.emptied j).span k = if k = j then { s.span j with queue := SpanQueue.atReset } else s.span k :=
    State.span_modQueue ..
  have hqueued (k : SpanId) : (s.emptied j).queued k = if k = j then [] else s.queued k := by
    unfold State.queued
    rw [hspan]
    split <;> rfl
  have hservice (k : SpanId) : ((s.emptied j).span k).service = (s.span k).service := State.modQueue_service ..
  have hsub {k : SpanId} {q : Nat} (hq : q ∈ (s.emptied j).queued k) : k ≠ j ∧ q ∈ s.queued k := by
    rw [hqueued] at hq
    split at hq
    · cases hq
    · exact ⟨‹_›, hq⟩
  have hlists (k : SpanId) : ((s.emptied j).span k).queue.deadlines ⊆ (s.span k).queue.deadlines ∧
      ((s.emptied j).span k).queue.background ⊆ (s.span k).queue.background := by
    rw [hspan]
    split <;> simp [SpanQueue.atReset]
  refine { toRefsBut := h.toRefsBut.congr rfl rfl, nodup := h.once j, used := fun p hp => ?_, once := fun k => ?_,
           listed := fun k p hp => ?_, queued := fun p pc hp hs hn => ?_, timed := fun k p hp => h.timed k p ((hlists k).1 hp),
           untimed := fun k p hp => h.untimed k p ((hlists k).2 hp), served := fun p pc hp => ?_,
           held := fun p pc hp hs hn => h.held p pc hp hs List.not_mem_nil, busy := fun k => ?_, coming := h.coming }
  · obtain ⟨-, pc, hpc, -⟩ := h.listed j p hp
    change s.pieces.get p ≠ none
    rw [hpc]
    nofun
  · rw [hqueued]
    split
    · exact List.nodup_nil
    · exact h.once k
  · obtain ⟨hk, hp⟩ := hsub hp
    obtain ⟨-, pc, hpc, hpk, hs⟩ := h.listed k p hp
    refine ⟨fun hj => ?_, pc, hpc, hpk, hs⟩
    obtain ⟨-, pc', hpc', hpj, -⟩ := h.listed j p hj
    rw [hpc] at hpc'
    cases hpc'
    exact hk (hpk.symm.trans hpj)
  · have hin := h.queued p pc hp hs List.not_mem_nil
    have hne : pc.span ≠ j := fun e => hn (e ▸ hin)
    rwa [hqueued, if_neg hne]
  · rw [hservice]
    refine (h.served p pc hp).trans (if_congr (and_congr_right fun hs => ?_) rfl rfl)
    refine ⟨fun _ hin => ?_, fun _ => List.not_mem_nil⟩
    obtain ⟨-, qc, hq, -, hqs⟩ := h.listed j p hin
    cases hp.symm.trans hq
    rw [hs] at hqs
    cases hqs
  · rw [hservice]
    exact h.busy k

theorem State.PiecesBut.takeOutcomes (ps : List Nat) (h : s.PiecesBut none ps) (o : PieceOutcome) :
    (ps.foldl (fun s p => s.takeOutcome p o) s).PiecesBut none [] := by
  induction ps generalizing s with
  | nil => exact h
  | cons p r ih => exact ih (h.takeOutcome o)

theorem State.PiecesBut.loseQueue (h : s.PiecesBut none []) (j : SpanId) : (s.loseQueue j).PiecesBut none [] := by
  have hlost := (h.emptied j).takeOutcomes _ .spanLost
  rw [State.loseQueue_eq]
  split
  · exact hlost
  · exact hlost.congr rfl rfl (.post nofun)

end

end Sys2Proof.Machine
end

section
/-! PROOFS. Pieces placed in the middle of an event: entry in a queue, release from the hold, acceptance (R55 to R58, R72,
R77). -/

namespace Sys2Proof.Machine

/-! ## Entry in a queue -/

section

variable {s : State} {gap : Option Nat} {loose : List Nat} {p : Nat} {pc : Piece}

theorem State.get_enqueue (hp : s.pieces.get p = some pc) (q : Nat) : (s.enqueue p pc).pieces.get q =
    if q = p then some { pc with state := .queued, seq := some s.arrival } else s.pieces.get q := by
  rw [State.enqueue_eq, Pool.get_modify, hp]
  rfl

theorem State.outcomesInFlight_enqueue (s : State) (p : Nat) (pc : Piece) :
    (s.enqueue p pc).outcomesInFlight = s.outcomesInFlight := by
  rw [State.enqueue_eq]
  simp [State.outcomesInFlight]

/-- A piece enters the list of its frame's kind, and no other list changes (R84). -/
theorem State.mem_lists_enqueue (s : State) (p : Nat) (pc : Piece) (k : SpanId) (q : Nat) :
    (q ∈ ((s.enqueue p pc).span k).queue.deadlines ↔
      q ∈ (s.span k).queue.deadlines ∨ (k = pc.span ∧ q = p ∧ s.deadlineOf p ≠ none)) ∧
    (q ∈ ((s.enqueue p pc).span k).queue.background ↔
      q ∈ (s.span k).queue.background ∨ (k = pc.span ∧ q = p ∧ s.deadlineOf p = none)) := by
  rw [State.span_enqueue]
  by_cases hk : k = pc.span
  · subst hk
    rw [if_pos rfl, State.enteredQueue]
    have hkeep : ((s.stamped p).span pc.span).queue = (s.span pc.span).queue := rfl
    cases hd : s.deadlineOf p with
    | none => simp [mem_insertBefore, or_comm]
    | some d => simp [State.relistedQueue, hkeep, mem_insertBefore, or_comm]
  · simp [hk]

theorem State.queued_enqueue_perm (s : State) (p : Nat) (pc : Piece) (k : SpanId) :
    ((s.enqueue p pc).queued k).Perm (if k = pc.span then p :: s.queued k else s.queued k) := by
  unfold State.queued
  rw [State.span_enqueue]
  by_cases hk : k = pc.span
  · rw [if_pos hk, if_pos hk, State.enteredQueue]
    have hkeep : ((s.stamped p).span k).queue = (s.span k).queue := rfl
    cases hd : s.deadlineOf p with
    | none => exact (List.Perm.append_left _ (insertBefore_perm ..)).trans List.perm_middle
    | some d =>
      simp only [State.relistedQueue, hkeep]
      exact List.Perm.append_right _ (insertBefore_perm ..)
  · rw [if_neg hk, if_neg hk]

theorem State.RefsBut.enqueue (h : s.RefsBut gap) (hp : s.pieces.get p = some pc) : (s.enqueue p pc).RefsBut gap := by
  have hframes : (s.enqueue p pc).frames = s.frames := State.enqueue_frames ..
  refine ⟨hframes ▸ h.frames, ?_, fun q qc hq => ?_, fun i f hf k q hk => ?_, by rw [hframes]; exact h.filled⟩
  · rw [State.enqueue_eq, Pool.sorted, Pool.keys_modify]
    exact h.pieces
  · rw [State.get_enqueue hp] at hq
    rw [hframes]
    split at hq
    · rename_i e
      cases hq
      exact e ▸ h.ref p pc hp
    · exact h.ref q qc hq
  · rw [hframes] at hf
    obtain ⟨qc, hq, hi, hpos⟩ := h.back i f hf k q hk
    rw [State.get_enqueue hp]
    by_cases e : q = p
    · rw [e, hp] at hq
      cases hq
      exact ⟨_, if_pos e, hi, hpos⟩
    · exact ⟨qc, (if_neg e).trans hq, hi, hpos⟩

/-- A loose piece entered in its queue, where no piece of its frame stays HELD. -/
theorem State.PiecesBut.enqueue (h : s.PiecesBut gap (p :: loose)) (hp : s.pieces.get p = some pc)
    (hheld : ∀ q qc, s.pieces.get q = some qc → qc.frame = pc.frame → qc.state = .held → q ∈ p :: loose) :
    (s.enqueue p pc).PiecesBut gap loose := by
  have hframes : (s.enqueue p pc).frames = s.frames := State.enqueue_frames ..
  have hpiece {q : Nat} (hq : q ≠ p) : (s.enqueue p pc).pieces.get q = s.pieces.get q := by
    rw [State.get_enqueue hp, if_neg hq]
  have hself := (State.get_enqueue hp p).trans (if_pos rfl)
  have hin : p ∈ p :: loose := List.mem_cons_self
  have hlisted (j : SpanId) {q : Nat} (hq : q ∈ s.queued j) : q ≠ p := fun e => h.not_queued hin j (e ▸ hq)
  have hloose {q : Nat} (hq : q ≠ p) : q ∉ p :: loose ↔ q ∉ loose := by simp [hq]
  have hmem (k : SpanId) (q : Nat) : q ∈ (s.enqueue p pc).queued k ↔ k = pc.span ∧ q = p ∨ q ∈ s.queued k := by
    rw [(s.queued_enqueue_perm p pc k).mem_iff]
    split
    · rename_i hk
      simp [hk]
    · rename_i hk
      simp [hk]
  obtain ⟨hnot, hnodup⟩ := List.nodup_cons.1 h.nodup
  refine { toRefsBut := h.toRefsBut.enqueue hp, nodup := hnodup, used := fun q hq => ?_, once := fun k => ?_,
           listed := fun k q hq => ?_, queued := fun q qc hq hs hn => ?_, timed := fun k q hq => ?_,
           untimed := fun k q hq => ?_, served := fun q qc hq => ?_, held := fun q qc hq hs hn => ?_,
           busy := fun k q hq => ?_, coming := fun q hq => ?_ }
  · rw [hpiece fun e => hnot (e ▸ hq)]
    exact h.used q (List.mem_cons_of_mem _ hq)
  · rw [(s.queued_enqueue_perm p pc k).nodup_iff]
    split
    · exact List.nodup_cons.2 ⟨h.not_queued hin k, h.once k⟩
    · exact h.once k
  · rcases (hmem k q).1 hq with ⟨rfl, rfl⟩ | hq
    · exact ⟨hnot, _, hself, rfl, rfl⟩
    · rw [hpiece (hlisted k hq), ← hloose (hlisted k hq)]
      exact h.listed k q hq
  · rw [hmem]
    by_cases e : q = p
    · rw [e, hself] at hq
      cases hq
      exact .inl ⟨rfl, e⟩
    · rw [hpiece e] at hq
      exact .inr (h.queued q qc hq hs ((hloose e).2 hn))
  · rw [State.enqueue_deadlineOf]
    rcases (s.mem_lists_enqueue p pc k q).1.1 hq with hq | ⟨-, rfl, hd⟩
    · exact h.timed k q hq
    · exact hd
  · rw [State.enqueue_deadlineOf]
    rcases (s.mem_lists_enqueue p pc k q).2.1 hq with hq | ⟨-, rfl, hd⟩
    · exact h.untimed k q hq
    · exact hd
  · rw [State.enqueue_service, State.outcomesInFlight_enqueue]
    by_cases e : q = p
    · rw [e, hself] at hq
      cases hq
      rw [e]
      refine (h.served p pc hp).trans ?_
      rw [if_neg fun hand => hand.2 hin, if_neg fun hand => nomatch hand.1]
    · rw [hpiece e] at hq
      exact (h.served q qc hq).trans (if_congr (by rw [hloose e]) rfl rfl)
  · have e : q ≠ p := by
      rintro rfl
      rw [hself] at hq
      cases hq
      cases hs
    rw [hpiece e] at hq
    obtain ⟨f, hf, hd, hall⟩ := h.held q qc hq hs ((hloose e).2 hn)
    refine ⟨f, by rw [hframes, hf], hd, fun r hr => ?_⟩
    rw [State.pieceState_congr (hpiece ?_)]
    · exact hall r hr
    · rintro rfl
      have hsame : qc.frame = pc.frame := ((h.mem_pieceRefs hp hf).1 hr).symm
      exact (hloose e).2 hn (hheld q qc hq hsame hs)
  · rw [State.enqueue_service] at hq
    rw [hpiece fun e => h.not_busy hin k (e ▸ hq)]
    exact h.busy k q hq
  · rw [State.outcomesInFlight_enqueue] at hq
    rw [hpiece fun e => h.not_coming hin (e ▸ hq)]
    exact h.coming q hq

end

/-! ## A run of placements -/

section

variable {s : State} {i : Nat} {p : Nat} {ps : List Nat} {h : Handle}

/-- The pieces still to be placed are ones of the frame in record `i`, and every HELD piece of the frame is one. -/
def State.ToPlace (s : State) (i : Nat) (ps : List Nat) : Prop :=
  ∀ q qc, s.pieces.get q = some qc → (q ∈ ps → qc.frame = i) ∧ (qc.frame = i → qc.state = .held → q ∈ ps)

theorem State.PiecesBut.placePiece (hk : s.PiecesBut (some i) (p :: ps)) (hall : s.ToPlace i (p :: ps)) :
    (State.placePiece false h s p).PiecesBut (some i) ps ∧ (State.placePiece false h s p).ToPlace i ps := by
  obtain ⟨pc, hp⟩ := Option.ne_none_iff_exists'.1 (hk.used p List.mem_cons_self)
  have hi : pc.frame = i := (hall p pc hp).1 List.mem_cons_self
  obtain ⟨hnot, -⟩ := List.nodup_cons.1 hk.nodup
  rcases s.placePiece_cases false h p with ⟨-, hnone | hf⟩ | ⟨qc, hq, ⟨-, e⟩ | e⟩
  · rw [hp] at hnone
    cases hnone
  · cases hf
  · rw [hp] at hq
    cases hq
    rw [e]
    refine ⟨hk.enqueue hp fun q qc hq hqi => (hall q qc hq).2 (hqi.trans hi), fun q qc hq => ?_⟩
    rw [State.get_enqueue hp] at hq
    split at hq
    · rename_i eq
      cases hq
      exact ⟨fun hin => absurd (eq ▸ hin) hnot, fun _ hs => nomatch hs⟩
    · rename_i eq
      obtain ⟨hin, hheld⟩ := hall q qc hq
      exact ⟨fun hqs => hin (List.mem_cons_of_mem _ hqs),
        fun hqi hs => (List.mem_cons.1 (hheld hqi hs)).resolve_left eq⟩
  · rw [e]
    refine ⟨hi ▸ hk.record hp (.inr (by rw [hi])) _, fun q qc hq => ?_⟩
    obtain ⟨eq, hq⟩ := hk.toRefsBut.get_recorded hp _ hq
    obtain ⟨hin, hheld⟩ := hall q qc hq
    exact ⟨fun hqs => hin (List.mem_cons_of_mem _ hqs),
      fun hqi hs => (List.mem_cons.1 (hheld hqi hs)).resolve_left eq⟩

theorem State.PiecesBut.placed (hk : s.PiecesBut (some i) ps) (hall : s.ToPlace i ps) :
    (s.placed h ps).PiecesBut (some i) [] := by
  induction ps generalizing s with
  | nil => exact hk
  | cons p r ih =>
    obtain ⟨hk, hall⟩ := hk.placePiece (h := h) hall
    exact ih hk hall

/-! ## Release from the hold -/

theorem State.PiecesBut.loosen_all (ps : List Nat) (hk : s.PiecesBut none []) (hnodup : ps.Nodup)
    (hheld : ∀ p ∈ ps, s.pieceState p = some .held) : s.PiecesBut none ps := by
  induction ps with
  | nil => exact hk
  | cons p r ih =>
    obtain ⟨hnot, hr⟩ := List.nodup_cons.1 hnodup
    obtain ⟨pc, hp, hs⟩ := Option.map_eq_some_iff.1 (hheld p List.mem_cons_self)
    exact (ih hr fun q hq => hheld q (List.mem_cons_of_mem _ hq)).loosen_held hp hs hnot

/-- A frame of which a piece is HELD has all its pieces HELD (R48). -/
theorem State.PiecesBut.heldOf_eq {f : Frame} (hk : s.PiecesBut none []) (hf : s.frames.get i = some f)
    (hheld : s.heldOf f ≠ []) : s.heldOf f = f.pieceRefs := by
  obtain ⟨p, hin⟩ := List.exists_mem_of_ne_nil _ hheld
  obtain ⟨hmem, hs⟩ := List.mem_filter.1 hin
  obtain ⟨pc, hp, hi⟩ := hk.toRefsBut.get_of_mem hf hmem
  have hs : pc.state = .held := by simpa [State.pieceState, hp] using hs
  obtain ⟨g, hg, -, hall⟩ := hk.held p pc hp hs List.not_mem_nil
  rw [hi, hf] at hg
  cases hg
  exact List.filter_eq_self.2 fun q hq => by simp [hall q hq]

theorem State.PiecesBut.releaseFrame (hk : s.PiecesBut none []) (i : Nat) : (s.releaseFrame i).PiecesBut none [] := by
  rcases s.releaseFrame_cases i with e | ⟨f, hf, hheld, e⟩
  · rwa [e]
  · have hnodup : (s.heldOf f).Nodup := (hk.refersBack hf).nodup.filter _
    have hloose := hk.loosen_all (s.heldOf f) hnodup fun p hp => by simpa using (List.mem_filter.1 hp).2
    have hdue : (s.dueFrame i).PiecesBut none (s.heldOf f) := by
      refine hloose.modFrame (fun _ => rfl) fun g hg => .inr fun p hp => ?_
      rw [hf] at hg
      cases hg
      rwa [hk.heldOf_eq hf hheld]
    rw [e]
    refine (State.PiecesBut.placed { hdue with toRefsBut := hdue.toRefsBut.gapped i } fun q qc hq => ?_).finishIfDone
    have hmem := hk.mem_pieceRefs hq hf
    rw [hk.heldOf_eq hf hheld]
    exact ⟨hmem.1, fun hqi _ => hmem.2 hqi⟩

end

/-! ## Acceptance -/

section

variable {s : State} {i : Nat} {p : Nat} {ps : List Nat} {h : Handle}

/-- A loose HELD piece whose frame waits whole in the hold has its place there. -/
theorem State.PiecesBut.settle {gap : Option Nat} {pc : Piece} {f : Frame} (hk : s.PiecesBut gap (p :: ps))
    (hp : s.pieces.get p = some pc) (hs : pc.state = .held) (hf : s.frames.get pc.frame = some f)
    (hd : f.deadline = none) (hall : ∀ q ∈ f.pieceRefs, s.pieceState q = some .held) : s.PiecesBut gap ps := by
  obtain ⟨hnot, hnodup⟩ := List.nodup_cons.1 hk.nodup
  have hloose {q : Nat} (hq : q ≠ p) : q ∉ p :: ps ↔ q ∉ ps := by simp [hq]
  have hother {q : Nat} {qc : Piece} (hq : s.pieces.get q = some qc) (hne : qc.state ≠ .held) : q ≠ p := by
    rintro rfl
    rw [hp] at hq
    cases hq
    exact hne hs
  refine { hk with nodup := hnodup, used := fun q hq => hk.used q (List.mem_cons_of_mem _ hq), listed := fun j q hq => ?_,
                   queued := fun q qc hq hqs hn => hk.queued q qc hq hqs ?_, served := fun q qc hq => ?_,
                   held := fun q qc hq hqs hn => ?_ }
  · obtain ⟨hn, hqc⟩ := hk.listed j q hq
    exact ⟨fun hm => hn (List.mem_cons_of_mem _ hm), hqc⟩
  · exact (hloose (hother hq (by rw [hqs]; nofun))).2 hn
  · refine (hk.served q qc hq).trans (if_congr (and_congr_right fun hqs => ?_) rfl rfl)
    exact hloose (hother hq (by rw [hqs]; nofun))
  · by_cases e : q = p
    · rw [e, hp] at hq
      cases hq
      exact ⟨f, hf, hd, hall⟩
    · exact hk.held q qc hq hqs ((hloose e).2 hn)

/-- The frame in record `i` waits whole in the hold: it has no deadline, and its pieces are HELD. -/
def State.WholeHeld (s : State) (i : Nat) : Prop :=
  ∃ f, s.frames.get i = some f ∧ f.deadline = none ∧ ∀ q qc, s.pieces.get q = some qc → qc.frame = i → qc.state = .held

/-- The next piece of a scrub read stays in the hold, or is lost. -/
theorem State.PiecesBut.holdPiece (hk : s.PiecesBut (some i) (p :: ps)) (hw : s.WholeHeld i)
    (hi : ∀ q ∈ p :: ps, ∀ qc, s.pieces.get q = some qc → qc.frame = i) :
    (State.placePiece true h s p).PiecesBut (some i) ps ∧ (State.placePiece true h s p).WholeHeld i ∧
      ∀ q ∈ ps, ∀ qc, (State.placePiece true h s p).pieces.get q = some qc → qc.frame = i := by
  obtain ⟨f, hf, hd, hall⟩ := hw
  obtain ⟨pc, hp⟩ := Option.ne_none_iff_exists'.1 (hk.used p List.mem_cons_self)
  have hpi : pc.frame = i := hi p List.mem_cons_self pc hp
  rcases s.placePiece_cases true h p with ⟨e, -⟩ | ⟨qc, hq, ⟨hfalse, -⟩ | e⟩
  · rw [e]
    refine ⟨hk.settle hp (hall p pc hp hpi) (hpi ▸ hf) hd fun q hq => ?_, ⟨f, hf, hd, hall⟩,
      fun q hq => hi q (List.mem_cons_of_mem _ hq)⟩
    obtain ⟨qc, hqc, hqi⟩ := hk.toRefsBut.get_of_mem hf hq
    simp [State.pieceState, hqc, hall q qc hqc hqi]
  · cases hfalse
  · subst hpi
    rw [e]
    have hget := (hk.toRefsBut.recorded hp .spanLost hf).2.2.1
    refine ⟨hk.record hp (.inr rfl) _, ⟨_, hget, hd, fun q qc hq => ?_⟩, fun q hq qc hqc => ?_⟩
    · exact hall q qc (hk.toRefsBut.get_recorded hp _ hq).2
    · exact hi q (List.mem_cons_of_mem _ hq) qc (hk.toRefsBut.get_recorded hp _ hqc).2

/-- The state after a scrub read's pieces have been kept in the hold or lost. -/
def State.kept (s : State) (h : Handle) (ps : List Nat) : State := ps.foldl (State.placePiece true h) s

theorem State.PiecesBut.kept (hk : s.PiecesBut (some i) ps) (hw : s.WholeHeld i)
    (hi : ∀ q ∈ ps, ∀ qc, s.pieces.get q = some qc → qc.frame = i) :
    (s.kept h ps).PiecesBut (some i) [] ∧ (s.kept h ps).WholeHeld i := by
  induction ps generalizing s with
  | nil => exact ⟨hk, hw⟩
  | cons p r ih =>
    obtain ⟨hk, hw, hi⟩ := hk.holdPiece (h := h) hw hi
    exact ih hk hw hi

end

section

variable {s : State} {n : NodeId} {rec : List Byte} {st : Stream} {kind : FrameKind} {deadline : Option Time}

theorem State.get_frame_allocated (k : Nat) : (s.allocated n rec st kind deadline).frames.get k =
    if k = s.frames.lowestFree then
      some (frameRecord n (s.node n).epoch rec kind deadline (s.pieces.lowestFreeMany st.spans.length) s.time)
    else s.frames.get k := Pool.get_put ..

variable (hcount : recExtentCount rec = st.spans.length)
include hcount

/-- What an allocation leaves of the pieces: the ones taken are HELD and refer to the frame taken, and no other changes. -/
theorem State.RefsBut.get_allocated (h : s.RefsBut none) {q : Nat} {qc : Piece}
    (hq : (s.allocated n rec st kind deadline).pieces.get q = some qc) :
    (q ∈ s.pieces.lowestFreeMany st.spans.length ∧ qc.frame = s.frames.lowestFree ∧ qc.state = .held ∧
      (s.pieces.lowestFreeMany st.spans.length)[qc.position]? = some q) ∨
    (q ∉ s.pieces.lowestFreeMany st.spans.length ∧ s.pieces.get q = some qc ∧ qc.frame ≠ s.frames.lowestFree) := by
  by_cases hin : q ∈ s.pieces.lowestFreeMany st.spans.length
  · obtain ⟨k, hk⟩ := List.mem_iff_getElem?.1 hin
    obtain ⟨e, x, -, hget⟩ := State.exists_get_allocated (n := n) (kind := kind) (deadline := deadline) h.pieces hcount hk
    rw [hget] at hq
    cases hq
    exact .inl ⟨hin, rfl, rfl, hk⟩
  · rw [State.get_allocated_other hcount hin] at hq
    refine .inr ⟨hin, hq, fun e => ?_⟩
    obtain ⟨f, hf, -⟩ := h.ref q qc hq
    rw [e, Pool.get_lowestFree h.frames] at hf
    cases hf

theorem State.RefsBut.allocated (h : s.RefsBut none) :
    (s.allocated n rec st kind deadline).RefsBut (some s.frames.lowestFree) := by
  obtain ⟨-, hfree, -⟩ := Pool.lowestFreeMany_spec h.pieces st.spans.length
  refine ⟨Pool.sorted_put h.frames _ _, sorted_putPieces (by rw [State.length_lowestFreeMany])
    (by rw [State.length_lowestFreeMany, length_recExtents hcount]) h.pieces 0, fun p pc hp => ?_, fun k f hf m p hm => ?_,
    fun k f hf hgap => ?_⟩
  · rw [State.get_frame_allocated]
    rcases h.get_allocated hcount hp with ⟨-, hi, -, hpos⟩ | ⟨-, hp, hi⟩
    · exact ⟨_, if_pos hi, by simp [frameRecord, hpos]⟩
    · rw [if_neg hi]
      exact h.ref p pc hp
  · rw [State.get_frame_allocated] at hf
    split at hf
    · rename_i hk
      cases hf
      have hpos : (s.pieces.lowestFreeMany st.spans.length)[m]? = some p := by simpa [frameRecord] using hm
      obtain ⟨e, x, -, hget⟩ := State.exists_get_allocated (n := n) (kind := kind) (deadline := deadline) h.pieces hcount hpos
      exact ⟨_, hget, hk.symm, rfl⟩
    · obtain ⟨pc, hp, hi, hpos⟩ := h.back k f hf m p hm
      refine ⟨pc, ?_, hi, hpos⟩
      rw [State.get_allocated_other hcount fun hin => ?_, hp]
      rw [hfree p hin] at hp
      cases hp
  · rw [State.get_frame_allocated, if_neg fun e => hgap (by rw [e])] at hf
    exact h.filled k f hf nofun

/-- The records of a read taken: its pieces have no place yet. -/
theorem State.PiecesBut.allocated (h : s.PiecesBut none []) : (s.allocated n rec st kind deadline).PiecesBut
    (some s.frames.lowestFree) (s.pieces.lowestFreeMany st.spans.length) := by
  obtain ⟨hrise, hfree, -⟩ := Pool.lowestFreeMany_spec h.pieces st.spans.length
  have hpl : s.SamePlaces (s.allocated n rec st kind deadline) := .of_spans rfl rfl
  have hused {q : Nat} (hq : s.pieces.get q ≠ none) : q ∉ s.pieces.lowestFreeMany st.spans.length :=
    fun hin => hq (hfree q hin)
  have hsame {q : Nat} (hq : s.pieces.get q ≠ none) :
      (s.allocated n rec st kind deadline).pieces.get q = s.pieces.get q := State.get_allocated_other hcount (hused hq)
  have hlisted {j : SpanId} {q : Nat} (hq : q ∈ s.queued j) : s.pieces.get q ≠ none := by
    obtain ⟨-, qc, hqc, -⟩ := h.listed j q hq
    rw [hqc]
    nofun
  have hbusy {j : SpanId} {q : Nat} (hq : q ∈ (s.span j).service.busyPieces) : s.pieces.get q ≠ none := by
    obtain ⟨qc, hqc, -⟩ := h.busy j q hq
    rw [hqc]
    nofun
  have hdead {q : Nat} (hq : s.pieces.get q ≠ none) :
      (s.allocated n rec st kind deadline).deadlineOf q = s.deadlineOf q := by
    obtain ⟨qc, hqc⟩ := Option.ne_none_iff_exists'.1 hq
    rcases h.toRefsBut.get_allocated hcount ((hsame hq).trans hqc) with ⟨hin, -⟩ | ⟨-, -, hi⟩
    · exact absurd hin (hused hq)
    · simp only [State.deadlineOf, hsame hq, hqc, State.get_frame_allocated, if_neg hi]
  refine { toRefsBut := h.toRefsBut.allocated hcount, nodup := List.Pairwise.imp Nat.ne_of_lt hrise,
           used := fun q hq => ?_, once := fun j => by rw [hpl.queued]; exact h.once j, listed := fun j q hq => ?_,
           queued := fun q qc hq hs hn => ?_, timed := fun j q hq => ?_, untimed := fun j q hq => ?_,
           served := fun q qc hq => ?_, held := fun q qc hq hs hn => ?_, busy := fun j q hq => ?_,
           coming := fun q hq => ?_ }
  · obtain ⟨k, hk⟩ := List.mem_iff_getElem?.1 hq
    obtain ⟨e, x, -, hget⟩ := State.exists_get_allocated (n := n) (kind := kind) (deadline := deadline) h.pieces hcount hk
    rw [hget]
    nofun
  · rw [hpl.queued] at hq
    rw [hsame (hlisted hq)]
    exact ⟨hused (hlisted hq), (h.listed j q hq).2⟩
  · rcases h.toRefsBut.get_allocated hcount hq with ⟨hin, -⟩ | ⟨-, hq, -⟩
    · exact absurd hin hn
    · rw [hpl.queued]
      exact h.queued q qc hq hs List.not_mem_nil
  · rw [hpl.deadlines] at hq
    rw [hdead (hlisted (List.mem_append.2 (.inl hq)))]
    exact h.timed j q hq
  · rw [hpl.background] at hq
    rw [hdead (hlisted (List.mem_append.2 (.inr hq)))]
    exact h.untimed j q hq
  · rw [hpl.busy, hpl.coming]
    rcases h.toRefsBut.get_allocated hcount hq with ⟨hin, -⟩ | ⟨hn, hq, -⟩
    · rw [if_neg fun hand => hand.2 hin, List.count_eq_zero.2 fun hb => hbusy hb (hfree q hin),
        List.count_eq_zero.2 fun hc => h.coming q hc (hfree q hin)]
    · exact (h.served q qc hq).trans (if_congr (by simp [hn]) rfl rfl)
  · rcases h.toRefsBut.get_allocated hcount hq with ⟨hin, -⟩ | ⟨-, hq, hi⟩
    · exact absurd hin hn
    · obtain ⟨f, hf, hd, hall⟩ := h.held q qc hq hs List.not_mem_nil
      refine ⟨f, by rw [State.get_frame_allocated, if_neg hi, hf], hd, fun r hr => ?_⟩
      obtain ⟨rc, hr', -⟩ := h.toRefsBut.get_of_mem hf hr
      rw [State.pieceState_congr (hsame (by rw [hr']; nofun))]
      exact hall r hr
  · rw [hpl.busy] at hq
    rw [hsame (hbusy hq)]
    exact h.busy j q hq
  · rw [hpl.coming] at hq
    rw [hsame (h.coming q hq)]
    exact h.coming q hq

/-- The pieces of a read taken are all still to be placed. -/
theorem State.RefsBut.toPlace_allocated (h : s.RefsBut none) : (s.allocated n rec st kind deadline).ToPlace
    s.frames.lowestFree (s.pieces.lowestFreeMany st.spans.length) := fun q qc hq => by
  rcases h.get_allocated hcount hq with ⟨hin, hi, -⟩ | ⟨hn, -, hi⟩
  · exact ⟨fun _ => hi, fun _ _ => hin⟩
  · exact ⟨fun hin => absurd hin hn, fun e => absurd e hi⟩

theorem State.RefsBut.wholeHeld_allocated (h : s.RefsBut none) :
    (s.allocated n rec st kind none).WholeHeld s.frames.lowestFree := by
  refine ⟨_, (State.get_frame_allocated _).trans (if_pos rfl), rfl, fun q qc hq hi => ?_⟩
  rcases h.get_allocated hcount hq with ⟨-, -, hs, -⟩ | ⟨-, -, hne⟩
  · exact hs
  · exact absurd hi hne

omit hcount

theorem State.PiecesBut.modStream {gap : Option Nat} {loose : List Nat} (h : s.PiecesBut gap loose) (k : Handle)
    (g : Stream → Stream) : (s.modStream k g).PiecesBut gap loose := h.congr rfl rfl (.of_spans rfl rfl)

theorem State.PiecesBut.enterHold (h : s.PiecesBut none []) (k : Handle) (st : Stream) (i : Nat) :
    (s.enterHold k st i).PiecesBut none [] := by
  unfold State.enterHold
  extract_lets older joined swept
  have hjoined : joined.PiecesBut none [] := h.modStream ..
  have hswept : swept.PiecesBut none [] := by
    unfold swept
    split
    · exact foldl_inv (State.PiecesBut · none []) _ (fun _ v h => h.withdrawFrame .superseded v) _ _ hjoined
    · exact hjoined
  split
  · exact hswept.releaseFrame i
  · exact hswept.modStream ..

/-- A frame of which a piece waits has a piece. -/
theorem State.PiecesBut.close_of_waits {i : Nat} (h : s.PiecesBut (some i) []) {p : Nat}
    (hp : s.waits p = true) (hi : ∀ pc, s.pieces.get p = some pc → pc.frame = i) : s.PiecesBut none [] := by
  refine { h with toRefsBut := h.toRefsBut.close fun f hf hnone => ?_ }
  cases hpc : s.pieces.get p with
  | none => simp [State.waits, hpc] at hp
  | some pc =>
    have hmem := (h.mem_pieceRefs hpc hf).2 (hi pc hpc)
    rw [hnone] at hmem
    cases hmem

/-- A piece that has not been lost is as it was before the run. -/
theorem State.get_kept {k : Handle} (hs : s.pieces.sorted) (ps : List Nat) {q : Nat} {qc : Piece}
    (hq : (s.kept k ps).pieces.get q = some qc) : s.pieces.get q = some qc := by
  refine (foldl_inv (fun u : State => u.pieces.sorted ∧ ∀ q qc, u.pieces.get q = some qc → s.pieces.get q = some qc)
    (State.placePiece true k) (fun u p hu => ?_) ps s ⟨hs, fun _ _ => id⟩).2 q qc hq
  obtain ⟨hsort, hsub⟩ := hu
  rcases u.placePiece_cases true k p with ⟨e, -⟩ | ⟨pc, hp, ⟨hfalse, -⟩ | e⟩
  · rw [e]
    exact ⟨hsort, hsub⟩
  · cases hfalse
  · rw [e, State.recordOutcome_of_get hp]
    refine ⟨Pool.sorted_free hsort p, fun r rc hr => hsub r rc ?_⟩
    have hrp : r ≠ p := fun e => by
      rw [e, Pool.get_free_self hsort] at hr
      cases hr
    exact (Pool.get_free_ne _ hrp).symm.trans hr

theorem State.acceptRead_scrub (s : State) (n : NodeId) (rec : List Byte) (st : Stream) (deadline : Option Time)
    {v : State} (hv : (s.allocated n rec st .scrub deadline).kept (recStream rec).handle
      (s.pieces.lowestFreeMany st.spans.length) = v) : s.acceptRead n rec st .scrub deadline =
      if (s.pieces.lowestFreeMany st.spans.length).any v.waits = true then
        v.enterHold (recStream rec).handle st s.frames.lowestFree
      else v.finishIfDone s.frames.lowestFree := by
  rw [State.acceptRead_eq s n rec st .scrub deadline hv]
  simp

theorem State.acceptRead_other (s : State) (n : NodeId) (rec : List Byte) (st : Stream) (hk : kind ≠ .scrub) :
    s.acceptRead n rec st kind deadline = ((s.allocated n rec st kind deadline).placed (recStream rec).handle
      (s.pieces.lowestFreeMany st.spans.length)).finishIfDone s.frames.lowestFree := by
  rw [State.acceptRead_eq s n rec st kind deadline rfl, if_neg fun e => hk e.1, decide_eq_false hk]
  rfl

/-- The pieces of a scrub read after placement: those that wait make the frame a whole one in the hold. -/
theorem State.PiecesBut.kept_allocated (h : s.PiecesBut none []) (hcount : recExtentCount rec = st.spans.length) {v : State}
    (hv : (s.allocated n rec st .scrub none).kept (recStream rec).handle (s.pieces.lowestFreeMany st.spans.length) = v) :
    v.PiecesBut (some s.frames.lowestFree) [] ∧ v.WholeHeld s.frames.lowestFree ∧
      ((s.pieces.lowestFreeMany st.spans.length).any v.waits = true → v.PiecesBut none []) := by
  have halloc := h.allocated hcount (n := n) (kind := .scrub) (deadline := none)
  have hplace := h.toRefsBut.toPlace_allocated hcount (n := n) (kind := .scrub) (deadline := none)
  have hi {q : Nat} (hq : q ∈ s.pieces.lowestFreeMany st.spans.length) {qc : Piece}
      (hqc : (s.allocated n rec st .scrub none).pieces.get q = some qc) : qc.frame = s.frames.lowestFree :=
    (hplace q qc hqc).1 hq
  obtain ⟨hk, hw⟩ := halloc.kept (h := (recStream rec).handle) (h.toRefsBut.wholeHeld_allocated hcount)
    fun q hq qc hqc => hi hq hqc
  rw [hv] at hk hw
  refine ⟨hk, hw, fun hwaits => ?_⟩
  obtain ⟨p, hp, hpw⟩ := List.any_eq_true.1 hwaits
  exact hk.close_of_waits hpw fun pc hpc => hi hp (State.get_kept halloc.pieces _ (hv ▸ hpc))

/-- An acceptance leaves every piece in its place. A scrub read has no deadline (R36). -/
theorem State.PiecesBut.acceptRead (h : s.PiecesBut none []) (hcount : recExtentCount rec = st.spans.length)
    (hkind : kind = .scrub → deadline = none) : (s.acceptRead n rec st kind deadline).PiecesBut none [] := by
  by_cases hk : kind = .scrub
  · subst hk
    obtain rfl := hkind rfl
    obtain ⟨hkept, -, hclose⟩ := h.kept_allocated hcount (n := n) rfl
    rw [State.acceptRead_scrub s n rec st none rfl]
    split
    · rename_i hwaits
      exact (hclose hwaits).enterHold ..
    · exact hkept.finishIfDone
  · rw [State.acceptRead_other s n rec st hk]
    exact ((h.allocated hcount).placed (h.toRefsBut.toPlace_allocated hcount)).finishIfDone

end

end Sys2Proof.Machine
end

section
/-! PROOFS. Pieces in the slots of a span and on their way to the Frame Table (R90, R105, R108, R111, R118, R120). -/

namespace Sys2Proof.Machine

/-! ## The BUSY slots of a span -/

/-- The piece that a slot serves. -/
def Slot.piece (k : Slot) : Option Nat :=
  match k.state with
  | .busy p _ _ => some p
  | _ => none

theorem SpanService.busyPieces_eq (v : SpanService) : v.busyPieces = allSpans.filterMap fun k => v.slots[k].piece := rfl

theorem Slot.piece_of_free {k : Slot} (h : k.state = .free) : k.piece = none := by simp [Slot.piece, h]

theorem allSpans_around (k : SlotId) : ∃ front back, allSpans = front ++ k :: back ∧ k ∉ front ∧ k ∉ back :=
  ⟨allSpans.take k.val, allSpans.drop (k.val + 1), (allSpans_split k).1, by revert k; decide, by revert k; decide⟩

/-- The pieces in service around one slot, which stand when that slot changes. -/
theorem SpanService.busyPieces_split (v : SpanService) (k : SlotId) : ∃ front back,
    v.busyPieces = front ++ (v.slots[k].piece.toList ++ back) ∧
    ∀ (v' : SpanService) (w : Slot), v'.slots = v.slots.set k w → v'.busyPieces = front ++ (w.piece.toList ++ back) := by
  obtain ⟨as, bs, hall, hfront, hback⟩ := allSpans_around k
  have hsplit (u : SpanService) : u.busyPieces = (as.filterMap fun i => u.slots[i].piece) ++
      (u.slots[k].piece.toList ++ bs.filterMap fun i => u.slots[i].piece) := by
    rw [SpanService.busyPieces_eq, hall, List.filterMap_append, List.filterMap_cons]
    cases u.slots[k].piece <;> rfl
  refine ⟨_, _, hsplit v, fun v' w hw => ?_⟩
  have hne {i : SlotId} (hi : i ≠ k) : v'.slots[i] = v.slots[i] := by
    simp [hw, Fin.val_ne_of_ne (Ne.symm hi)]
  have hself : v'.slots[k] = w := by simp [hw]
  rw [hsplit v', hself, List.filterMap_congr (l := as) fun i hi => by rw [hne fun e => hfront (e ▸ hi)],
    List.filterMap_congr (l := bs) fun i hi => by rw [hne fun e => hback (e ▸ hi)]]

theorem SpanService.busyPieces_loseSlots (v : SpanService) {v' : SpanService} (h : v'.slots = v.loseSlots.slots) :
    v'.busyPieces = [] := by
  refine List.filterMap_eq_nil_iff.2 fun k _ => ?_
  have hk : v'.slots[k] = v.slots[k].lose := by rw [h, SpanService.loseSlots, bank8_get]
  change v'.slots[k].piece = none
  rw [hk]
  cases hocc : v.slots[k].occupied with
  | true => rw [Slot.lose, if_pos hocc]; rfl
  | false => rw [Slot.lose, if_neg (Bool.not_eq_true _ ▸ hocc), Slot.piece_of_free ((Slot.occupied_eq_false_iff _).1 hocc)]

section

variable {s t : State} {gap : Option Nat} {loose : List Nat} {p : Nat} {pc : Piece} {j : SpanId}

/-! ## Slots that hand their pieces on -/

/-- Slots of span `j` give up the pieces `new`, whose outcomes are put on their way. -/
theorem State.PiecesBut.handOver (h : s.PiecesBut gap loose) {new : List Nat} (hf : t.frames = s.frames)
    (hp : t.pieces = s.pieces) (hd : ∀ k, (t.span k).queue.deadlines = (s.span k).queue.deadlines)
    (hb : ∀ k, (t.span k).queue.background = (s.span k).queue.background)
    (hother : ∀ k, k ≠ j → (t.span k).service.busyPieces = (s.span k).service.busyPieces)
    (hmove : (s.span j).service.busyPieces.Perm (new ++ (t.span j).service.busyPieces))
    (hout : t.outcomesInFlight = s.outcomesInFlight ++ new) : t.PiecesBut gap loose := by
  have hqueued (k : SpanId) : t.queued k = s.queued k := by rw [State.queued, hd, hb, State.queued]
  have hnew {q : Nat} (hq : q ∈ new) : ∃ qc, s.pieces.get q = some qc ∧ qc.span = j :=
    h.busy j q (hmove.mem_iff.2 (List.mem_append.2 (.inl hq)))
  refine { toRefsBut := h.toRefsBut.congr hf hp, nodup := h.nodup, used := by rw [hp]; exact h.used,
           once := fun k => by rw [hqueued]; exact h.once k, listed := fun k => by rw [hqueued, hp]; exact h.listed k,
           queued := fun q qc hq => by rw [hqueued]; exact h.queued q qc (hp ▸ hq),
           timed := fun k => by simp only [hd, State.deadlineOf_congr hf hp]; exact h.timed k,
           untimed := fun k => by simp only [hb, State.deadlineOf_congr hf hp]; exact h.untimed k,
           served := fun q qc hq => ?_,
           held := fun q qc hq => by simp only [hf, State.pieceState, hp]; exact h.held q qc (hp ▸ hq),
           busy := fun k q hq => ?_, coming := fun q hq => ?_ }
  · rw [hp] at hq
    rw [← h.served q qc hq, hout, List.count_append]
    by_cases hk : qc.span = j
    · have hcount := hmove.count_eq q
      rw [List.count_append] at hcount
      rw [hk]
      omega
    · have hnone : new.count q = 0 := List.count_eq_zero.2 fun hin => by
        obtain ⟨rc, hr, hrj⟩ := hnew hin
        rw [hq] at hr
        cases hr
        exact hk hrj
      rw [hother _ hk, hnone]
      omega
  · rw [hp]
    by_cases hk : k = j
    · subst hk
      exact h.busy k q (hmove.mem_iff.2 (List.mem_append.2 (.inr hq)))
    · rw [hother k hk] at hq
      exact h.busy k q hq
  · rw [hp]
    rw [hout] at hq
    rcases List.mem_append.1 hq with hq | hq
    · exact h.coming q hq
    · obtain ⟨qc, hqc, -⟩ := hnew hq
      rw [hqc]
      nofun

/-- The outcome of a piece taken from its channel: the piece is loose (R60). -/
theorem State.PiecesBut.collect (h : s.PiecesBut none []) {o : PieceOutcome} {before after : List Report}
    (hr : s.reports = before ++ .outcome p o :: after) :
    ({ s with reports := before ++ after } : State).PiecesBut none [p] := by
  have hout : s.outcomesInFlight.Perm
      (p :: ({ s with reports := before ++ after } : State).outcomesInFlight) := by
    simp only [State.outcomesInFlight, hr, List.filterMap_append, List.filterMap_cons]
    exact List.perm_middle
  have hin : p ∈ s.outcomesInFlight := hout.mem_iff.2 List.mem_cons_self
  obtain ⟨pc, hp⟩ := Option.ne_none_iff_exists'.1 (h.coming p hin)
  have hserved := h.served p pc hp
  have hpos : 0 < s.outcomesInFlight.count p := List.count_pos_iff.2 hin
  have hstate : pc.state = .inService := by
    by_contra hne
    rw [if_neg fun e => hne e.1] at hserved
    omega
  have hother {q : Nat} {qc : Piece} (hq : s.pieces.get q = some qc) (hne : qc.state ≠ .inService) : q ∉ [p] := by
    intro hm
    obtain rfl := List.mem_singleton.1 hm
    rw [hp] at hq
    cases hq
    exact hne hstate
  refine { toRefsBut := h.toRefsBut.congr rfl rfl, nodup := List.nodup_singleton p, used := fun q hq => ?_, once := h.once,
           listed := fun k q hq => ?_, queued := fun q qc hq hs _ => h.queued q qc hq hs List.not_mem_nil, timed := h.timed,
           untimed := h.untimed, served := fun q qc hq => ?_,
           held := fun q qc hq hs _ => h.held q qc hq hs List.not_mem_nil, busy := h.busy,
           coming := fun q hq => h.coming q (hout.mem_iff.2 (List.mem_cons_of_mem _ hq)) }
  · rw [List.mem_singleton.1 hq]
    change s.pieces.get p ≠ none
    rw [hp]
    nofun
  · obtain ⟨-, qc, hqc, hqk, hqs⟩ := h.listed k q hq
    exact ⟨hother hqc (by rw [hqs]; nofun), qc, hqc, hqk, hqs⟩
  · have hq : s.pieces.get q = some qc := hq
    have hcount := hout.count_eq q
    have hbase := h.served q qc hq
    change (s.span qc.span).service.busyPieces.count q + _ = _
    by_cases e : q = p
    · subst e
      rw [hp] at hq
      cases hq
      rw [if_pos ⟨hstate, List.not_mem_nil⟩] at hserved
      rw [List.count_cons_self] at hcount
      rw [if_neg fun hand => hand.2 (List.mem_singleton.2 rfl)]
      omega
    · rw [List.count_cons_of_ne (Ne.symm e)] at hcount
      rw [← hcount, hbase]
      exact if_congr (by simp [e]) rfl rfl

/-! ## Dispatch -/

theorem State.mem_of_waiting {w : Waiting} (h : w ∈ s.unmasked j) : w.piece ∈ (s.span j).queue.deadlines := by
  obtain ⟨hw, -⟩ := List.mem_filter.1 h
  obtain ⟨q, hq, hw⟩ := List.mem_filterMap.1 hw
  unfold State.waiting at hw
  split at hw
  · cases hw
  · split at hw
    · cases hw
    · obtain ⟨d, -, rfl⟩ := Option.map_eq_some_iff.1 hw
      exact hq

theorem mem_of_chooseTied {ptr : NodeId} {ties : List Waiting} {x : Nat × NodeId} (h : chooseTied ptr ties = some x) :
    ∃ w ∈ ties, w.piece = x.1 := by
  unfold chooseTied at h
  split at h
  · cases h
  · cases h
    exact ⟨_, List.mem_singleton.2 rfl, rfl⟩
  · split at h
    · cases h
    · obtain ⟨w, hw, rfl⟩ := Option.map_eq_some_iff.1 h
      exact ⟨w, List.mem_of_find?_eq_some hw, rfl⟩

theorem State.mem_of_chooseBackground {x : Nat × Handle} (h : s.chooseBackground j = some x) :
    x.1 ∈ (s.span j).queue.background := by
  have hall : ∀ y ∈ (s.span j).queue.background.filterMap (fun p => (s.handleOf p).map fun h => (p, h)),
      y.1 ∈ (s.span j).queue.background := fun y hy => by
    obtain ⟨q, hq, hy⟩ := List.mem_filterMap.1 hy
    obtain ⟨k, -, rfl⟩ := Option.map_eq_some_iff.1 hy
    exact hq
  have hfold (l : List (Nat × Handle)) (hl : ∀ y ∈ l, y.1 ∈ (s.span j).queue.background) (best : Option (Nat × Handle))
      (hbest : ∀ y, best = some y → y.1 ∈ (s.span j).queue.background) (y : Nat × Handle)
      (hy : l.foldl (fun best x => match best with
        | none => some x
        | some b => if roundDistance (s.span j).arbiter.backgroundPtr x.2 <
            roundDistance (s.span j).arbiter.backgroundPtr b.2 then some x else some b) best = some y) :
      y.1 ∈ (s.span j).queue.background := by
    induction l generalizing best with
    | nil => exact hbest y hy
    | cons z r ih =>
      refine ih (fun w hw => hl w (List.mem_cons_of_mem _ hw)) _ (fun w hw => ?_) hy
      have hz := hl z List.mem_cons_self
      dsimp only at hw
      split at hw
      · cases hw
        exact hz
      · split at hw
        · cases hw
          exact hz
        · exact hbest w hw
  exact hfold _ hall none nofun x h

/-- A dispatch chooses a piece of its queue (R90). -/
theorem State.mem_of_choose {c : Choice} (h : s.choose j = some c) : c.piece ∈ s.queued j := by
  have hback {g : Prop} [Decidable g] {c : Choice} (hc : (if g then
      (s.chooseBackground j).map fun x => Choice.background x.1 x.2 else none) = some c) : c.piece ∈ s.queued j := by
    split at hc
    · obtain ⟨x, hx, rfl⟩ := Option.map_eq_some_iff.1 hc
      exact List.mem_append.2 (.inr (State.mem_of_chooseBackground hx))
    · cases hc
  unfold State.choose at h
  extract_lets a occ background at h
  split at h
  · exact hback h
  · rename_i w rest hun
    split at h
    · exact hback h
    · split at h
      · obtain ⟨x, hx, rfl⟩ := Option.map_eq_some_iff.1 h
        obtain ⟨y, hy, hyx⟩ := mem_of_chooseTied hx
        have hmem := State.mem_of_waiting (hun ▸ (List.mem_filter.1 hy).1)
        exact List.mem_append.2 (.inl (hyx ▸ hmem))
      · cases h

theorem SpanService.free_of_lowestFree {v : SpanService} {k : SlotId} (h : v.lowestFree = some k) :
    v.slots[k].state = .free := by
  have hk := List.find?_some h
  refine (Slot.occupied_eq_false_iff _).1 ?_
  simpa using hk

/-- The change of one piece record that keeps what it refers to. -/
theorem State.RefsBut.modPiece (h : s.RefsBut gap) (p : Nat) {g : Piece → Piece} (hf : ∀ pc, (g pc).frame = pc.frame)
    (hk : ∀ pc, (g pc).position = pc.position) : (s.modPiece p g).RefsBut gap := by
  have hget (q : Nat) : (s.modPiece p g).pieces.get q = if q = p then (s.pieces.get p).map g else s.pieces.get q :=
    Pool.get_modify ..
  refine ⟨h.frames, ?_, fun q qc hq => ?_, fun i f hi k q hkq => ?_, h.filled⟩
  · rw [State.modPiece_pieces, Pool.sorted, Pool.keys_modify]
    exact h.pieces
  · rw [hget] at hq
    split at hq
    · rename_i e
      obtain ⟨pc, hp, rfl⟩ := Option.map_eq_some_iff.1 hq
      rw [hf, hk, e]
      exact h.ref p pc hp
    · exact h.ref q qc hq
  · obtain ⟨qc, hq, hqi, hqk⟩ := h.back i f hi k q hkq
    rw [hget]
    by_cases e : q = p
    · subst e
      exact ⟨g qc, by simp [hq], (hf qc).trans hqi, (hk qc).trans hqk⟩
    · exact ⟨qc, by simp [e, hq], hqi, hqk⟩

end

end Sys2Proof.Machine
end

section
/-! PROOFS. The places of the pieces through a dispatch, a completion, a timeout and the loss of a link (R90, R108, R111,
R118, R120). -/

namespace Sys2Proof.Machine

section

variable {s t : State} {gap : Option Nat} {loose : List Nat} {p : Nat} {pc : Piece} {j : SpanId}

/-! ## A piece put in service -/

theorem State.get_serving (hp : t.pieces = s.pieces.modify p fun pc => { pc with state := .inService }) (q : Nat) :
    t.pieces.get q = if q = p then (s.pieces.get p).map fun pc => { pc with state := .inService } else s.pieces.get q := by
  rw [hp, Pool.get_modify]

/-- A loose piece, none of whose frame's pieces is HELD, made IN_SERVICE in a slot of its span. -/
theorem State.PiecesBut.serve (h : s.PiecesBut gap (p :: loose)) (hp : s.pieces.get p = some pc) (hspan : pc.span = j)
    (hfree : ∀ q qc, s.pieces.get q = some qc → qc.frame = pc.frame → qc.state ≠ .held) (hf : t.frames = s.frames)
    (ht : t.pieces = s.pieces.modify p fun pc => { pc with state := .inService })
    (hd : ∀ k, (t.span k).queue = (s.span k).queue)
    (hother : ∀ k, k ≠ j → (t.span k).service.busyPieces = (s.span k).service.busyPieces)
    (hmove : (t.span j).service.busyPieces.Perm (p :: (s.span j).service.busyPieces))
    (hout : t.outcomesInFlight = s.outcomesInFlight) : t.PiecesBut gap loose := by
  have hget := State.get_serving ht
  have hself : t.pieces.get p = some { pc with state := .inService } := by rw [hget, if_pos rfl, hp]; rfl
  have hne {q : Nat} (hq : q ≠ p) : t.pieces.get q = s.pieces.get q := by rw [hget, if_neg hq]
  have hnone {q : Nat} (hq : s.pieces.get q ≠ none) : t.pieces.get q ≠ none := by
    by_cases e : q = p
    · rw [e, hself]
      nofun
    · rwa [hne e]
  have hqueued (k : SpanId) : t.queued k = s.queued k := by rw [State.queued, hd, State.queued]
  have hdead (q : Nat) : t.deadlineOf q = s.deadlineOf q := by
    unfold State.deadlineOf
    rw [hf]
    by_cases e : q = p
    · rw [e, hself, hp]
    · rw [hne e]
  have hwaiting {q : Nat} {qc : Piece} (hq : t.pieces.get q = some qc) (hs : qc.state ≠ .inService) :
      q ≠ p ∧ s.pieces.get q = some qc := by
    have e : q ≠ p := by
      rintro rfl
      rw [hself] at hq
      cases hq
      exact hs rfl
    exact ⟨e, (hne e) ▸ hq⟩
  obtain ⟨hl, hnodup⟩ := List.nodup_cons.1 h.nodup
  have hrefs : t.RefsBut gap := (h.toRefsBut.modPiece p (g := fun pc => { pc with state := .inService }) (fun _ => rfl)
    fun _ => rfl).congr hf ht
  refine { toRefsBut := hrefs, nodup := hnodup, used := fun q hq => hnone (h.used q (List.mem_cons_of_mem _ hq)),
           once := fun k => by rw [hqueued]; exact h.once k, listed := fun k q hq => ?_, queued := fun q qc hq hs hn => ?_,
           timed := fun k q hq => by rw [hdead]; rw [hd] at hq; exact h.timed k q hq,
           untimed := fun k q hq => by rw [hdead]; rw [hd] at hq; exact h.untimed k q hq, served := fun q qc hq => ?_,
           held := fun q qc hq hs hn => ?_, busy := fun k q hq => ?_,
           coming := fun q hq => hnone (h.coming q (hout ▸ hq)) }
  · rw [hqueued] at hq
    obtain ⟨hn, qc, hqc, hk, hs⟩ := h.listed k q hq
    obtain ⟨hqp, hn⟩ := List.ne_and_not_mem_of_not_mem_cons hn
    exact ⟨hn, qc, by rw [hne hqp, hqc], hk, hs⟩
  · obtain ⟨hqp, hq⟩ := hwaiting hq (by rw [hs]; nofun)
    rw [hqueued]
    exact h.queued q qc hq hs (List.not_mem_cons_of_ne_of_not_mem hqp hn)
  · rw [hout]
    have hcount := hmove.count_eq q
    by_cases e : q = p
    · subst e
      rw [hself] at hq
      cases hq
      have hbase := h.served q pc hp
      rw [if_neg fun hand => hand.2 List.mem_cons_self, hspan] at hbase
      rw [List.count_cons_self] at hcount
      rw [if_pos ⟨rfl, hl⟩]
      simp only [hspan]
      omega
    · rw [hne e] at hq
      have hbase := h.served q qc hq
      have hbusy : (t.span qc.span).service.busyPieces.count q = (s.span qc.span).service.busyPieces.count q := by
        by_cases hk : qc.span = j
        · rw [hk, hcount, List.count_cons_of_ne (Ne.symm e)]
        · rw [hother _ hk]
      rw [hbusy, hbase]
      simp [e]
  · obtain ⟨hqp, hq⟩ := hwaiting hq (by rw [hs]; nofun)
    obtain ⟨f, hfr, hnd, hall⟩ := h.held q qc hq hs (List.not_mem_cons_of_ne_of_not_mem hqp hn)
    refine ⟨f, by rw [hf, hfr], hnd, fun r hr => ?_⟩
    have hrp : r ≠ p := by
      rintro rfl
      exact hfree q qc hq ((h.mem_pieceRefs hp hfr).1 hr).symm hs
    rw [State.pieceState_congr (hne hrp)]
    exact hall r hr
  · have hin : q = p ∧ k = j ∨ q ∈ (s.span k).service.busyPieces := by
      by_cases hk : k = j
      · subst hk
        exact (List.mem_cons.1 (hmove.mem_iff.1 hq)).imp_left fun e => ⟨e, rfl⟩
      · exact .inr (hother k hk ▸ hq)
    rcases hin with ⟨rfl, rfl⟩ | hin
    · exact ⟨_, hself, hspan⟩
    · obtain ⟨qc, hqc, hk⟩ := h.busy k q hin
      by_cases e : q = p
      · subst e
        rw [hp] at hqc
        cases hqc
        exact ⟨_, hself, hk⟩
      · exact ⟨qc, by rw [hne e, hqc], hk⟩

/-- The pieces in service after a FREE slot takes one. -/
theorem SpanService.busyPieces_take {v : SpanService} {k : SlotId} (hk : v.slots[k].state = .free) (now : Time) (p : Nat)
    (pc : Piece) : (v.take now k p pc).busyPieces.Perm (p :: v.busyPieces) := by
  obtain ⟨front, back, hv, hset⟩ := v.busyPieces_split k
  rw [hset (v.take now k p pc) _ rfl, hv, Slot.piece_of_free hk]
  exact List.perm_middle

/-- A piece of a deadline or background list is of a frame none of whose pieces is HELD. -/
theorem State.PiecesBut.not_held_of_queued (h : s.PiecesBut none []) (hp : s.pieces.get p = some pc)
    (hs : pc.state = .queued) {q : Nat} {qc : Piece} (hq : s.pieces.get q = some qc) (hf : qc.frame = pc.frame) :
    qc.state ≠ .held := fun hheld => by
  obtain ⟨f, hfr, -, hall⟩ := h.held q qc hq hheld List.not_mem_nil
  have := hall p ((h.mem_pieceRefs hp hfr).2 hf.symm)
  simp [State.pieceState, hp, hs] at this

theorem State.PiecesBut.putInService (h : s.PiecesBut gap (p :: loose)) (hp : s.pieces.get p = some pc)
    (hspan : pc.span = j) (hfree : ∀ q qc, s.pieces.get q = some qc → qc.frame = pc.frame → qc.state ≠ .held) {k : SlotId}
    (hk : (s.span j).service.slots[k].state = .free) : (s.putInService j k p pc).PiecesBut gap loose := by
  have served : ((s.modPiece p fun pc => { pc with state := .inService }).modService j fun v =>
      v.take s.time k p pc).PiecesBut gap loose := by
    refine h.serve hp hspan hfree rfl rfl (fun i => ?_) (fun i hi => ?_) ?_ rfl
    · rw [State.modService_queue]
      rfl
    · rw [State.span_modService, if_neg hi]
      rfl
    · rw [State.modService_service_self]
      exact SpanService.busyPieces_take hk ..
  unfold State.putInService
  dsimp only
  split
  · exact served
  · exact served.congr rfl rfl (.of_spans rfl rfl)

theorem State.PiecesBut.dispatchOne (h : s.PiecesBut none []) {c : Choice} (hc : s.choose j = some c)
    (ht : s.dispatchOne j c = some t) : t.PiecesBut none [] := by
  have hmem := State.mem_of_choose hc
  obtain ⟨-, pc, hp, hspan, hstate⟩ := h.listed j _ hmem
  cases hk : (s.span j).service.lowestFree with
  | none => simp [State.dispatchOne, hk] at ht
  | some k =>
    rw [State.dispatchOne_of_slot hk hp] at ht
    cases ht
    have hmoved := (h.unlist hmem).congr (t := (s.unlist j c.piece).modArbiter j fun a => a.moved c) rfl rfl
      ⟨fun i => by rw [State.modArbiter_queue], fun i => by rw [State.modArbiter_queue],
        fun i => by rw [State.modArbiter_service], rfl⟩
    have hpieces : ((s.unlist j c.piece).modArbiter j fun a => a.moved c).pieces = s.pieces := by simp
    refine hmoved.putInService (by rwa [hpieces]) hspan (fun q qc hq => ?_) ?_
    · exact h.not_held_of_queued hp hstate (hpieces ▸ hq)
    · rw [State.modArbiter_service, State.unlist_service]
      exact SpanService.free_of_lowestFree hk

/-! ## Slots given up -/

/-- The pieces in service around a slot whose piece is let go. -/
theorem SpanService.busyPieces_drop {v v' : SpanService} {k : SlotId} {w : Slot} (hv : v'.slots = v.slots.set k w)
    (hw : w.piece = none) : v.busyPieces.Perm (v.slots[k].piece.toList ++ v'.busyPieces) := by
  obtain ⟨front, back, hfrom, hset⟩ := v.busyPieces_split k
  rw [hset v' w hv, hfrom, hw]
  exact List.perm_append_comm_assoc ..

/-- The piece whose outcome a report brings to the Frame Table. -/
def Report.piece (r : Report) : Option Nat :=
  match r with
  | .outcome p _ => some p
  | _ => none

theorem State.outcomesInFlight_eq (s : State) : s.outcomesInFlight = s.reports.filterMap Report.piece := rfl

theorem State.outcomesInFlight_postAll (s : State) (rs : List Report) : (s.postAll rs).outcomesInFlight =
    s.outcomesInFlight ++ rs.filterMap Report.piece := List.filterMap_append ..

theorem Report.pieces_of_lost (ps : List Nat) (o : PieceOutcome) :
    (ps.map fun p => Report.outcome p o).filterMap Report.piece = ps := by
  have hone : Report.piece ∘ (fun p => Report.outcome p o) = some := rfl
  rw [List.filterMap_map, hone, List.filterMap_some]

/-- Slots of span `j` give up their pieces, whose outcomes are the ones among the reports posted. -/
theorem State.PiecesBut.letGo (h : s.PiecesBut gap loose) {g : SpanService → SpanService} {rs : List Report}
    (hmove : (s.span j).service.busyPieces.Perm (rs.filterMap Report.piece ++ (g (s.span j).service).busyPieces)) :
    ((s.modService j g).postAll rs).PiecesBut gap loose := by
  refine h.handOver (j := j) rfl rfl (fun k => ?_) (fun k => ?_) (fun k hk => ?_) ?_ (State.outcomesInFlight_postAll _ rs)
  · exact congrArg SpanQueue.deadlines (State.modService_queue ..)
  · exact congrArg SpanQueue.background (State.modService_queue ..)
  · change ((s.modService j g).span k).service.busyPieces = _
    rw [State.span_modService, if_neg hk]
  · change (s.span j).service.busyPieces.Perm (_ ++ ((s.modService j g).span j).service.busyPieces)
    rwa [State.modService_service_self]

/-- Every BUSY slot of span `j` gives up its piece with one outcome (R118, R120). -/
theorem State.PiecesBut.loseSlots (h : s.PiecesBut gap loose) {g : SpanService → SpanService} (o : PieceOutcome)
    (hg : (g (s.span j).service).slots = (s.span j).service.loseSlots.slots) :
    ((s.modService j g).postAll ((s.span j).service.busyPieces.map fun p => .outcome p o)).PiecesBut gap loose := by
  refine h.letGo ?_
  rw [Report.pieces_of_lost, SpanService.busyPieces_loseSlots _ hg, List.append_nil]

end

end Sys2Proof.Machine
end

section
/-! PROOFS. The prefetch depth and the scrub lists: what the operations of the Frame Table keep (R67, R71, R73, R74). -/

namespace Sys2Proof.Machine

/-- Frame record `i` is in use for stream record `k`, without cancel reason, and its unfinished pieces all wait (R71). -/
def State.Supersedable (s : State) (k i : Nat) : Prop :=
  ∃ f, s.frames.get i = some f ∧ f.stream.handle.toNat = k ∧ f.cancel = none ∧ ∀ p ∈ f.pieceRefs, s.waits p = true

/-- Frames and pieces refer to each other but in record `gap`, and depths and scrub lists are in order. -/
structure State.Deep (s : State) (gap : Option Nat) : Prop extends s.RefsBut gap where
  ordered : s.streams.sorted
  within : ∀ k st, s.streams.get k = some st → 1 ≤ st.depth ∧ st.outstanding ≤ st.depth
  scrubs : ∀ k st, s.streams.get k = some st → st.scrubList.Nodup ∧ ∀ i ∈ st.scrubList, s.Supersedable k i

theorem State.deep_iff {s : State} (h : s.RefsBut none) : s.depthOk ↔ s.Deep none := by
  constructor
  · rintro ⟨hsort, hall⟩
    have stream {k : Nat} {st : Stream} (hk : s.streams.get k = some st) := hall (k, st) (Pool.mem_of_get hk)
    refine ⟨h, hsort, fun k st hk => ?_, fun k st hk => ?_⟩
    · obtain ⟨hd, ho, -⟩ := stream hk
      exact ⟨hd, ho⟩
    · obtain ⟨-, -, hn, hl⟩ := stream hk
      refine ⟨hn, fun i hi => ?_⟩
      simpa [State.frameHas_iff, State.Supersedable, and_assoc] using hl i hi
  · intro hd
    refine ⟨hd.ordered, ?_⟩
    rintro ⟨k, st⟩ hk
    have hk := Pool.get_of_mem hd.ordered hk
    obtain ⟨hdep, hout⟩ := hd.within k st hk
    obtain ⟨hn, hl⟩ := hd.scrubs k st hk
    refine ⟨hdep, hout, hn, fun i hi => ?_⟩
    simpa [State.frameHas_iff, State.Supersedable, and_assoc] using hl i hi

/-! ## Streams that ask for no more -/

/-- One stream record asks for no more than another: as deep, no more frames outstanding, nothing new to supersede. -/
structure Stream.Tamer (st st' : Stream) : Prop where
  depth : st'.depth = st.depth
  outstanding : st'.outstanding ≤ st.outstanding
  scrubList : st'.scrubList.Sublist st.scrubList

theorem Stream.Tamer.refl (st : Stream) : st.Tamer st := ⟨rfl, Nat.le_refl _, List.Sublist.refl _⟩

theorem Stream.Tamer.trans {a b c : Stream} (h : a.Tamer b) (h' : b.Tamer c) : a.Tamer c :=
  ⟨h'.depth.trans h.depth, h'.outstanding.trans h.outstanding, h'.scrubList.trans h.scrubList⟩

/-- Every stream record of `t` is a tamer one of `s`. -/
structure State.StreamsTamed (s t : State) : Prop where
  ordered : s.streams.sorted → t.streams.sorted
  tame : ∀ k st', t.streams.get k = some st' → ∃ st, s.streams.get k = some st ∧ st.Tamer st'

theorem State.StreamsTamed.of_eq {s t : State} (h : t.streams = s.streams) : s.StreamsTamed t :=
  ⟨fun hs => h ▸ hs, fun _ st hk => ⟨st, h ▸ hk, .refl st⟩⟩

theorem State.StreamsTamed.trans {s t u : State} (h : s.StreamsTamed t) (h' : t.StreamsTamed u) : s.StreamsTamed u := by
  refine ⟨fun hs => h'.ordered (h.ordered hs), fun k st hk => ?_⟩
  obtain ⟨st', hk', hst'⟩ := h'.tame k st hk
  obtain ⟨st'', hk'', hst''⟩ := h.tame k st' hk'
  exact ⟨st'', hk'', hst''.trans hst'⟩

theorem State.StreamsTamed.of_modify {s t : State} {k : Nat} {g : Stream → Stream} (h : t.streams = s.streams.modify k g)
    (hg : ∀ st : Stream, st.Tamer (g st)) : s.StreamsTamed t := by
  refine ⟨fun hs => by rwa [h, Pool.sorted, Pool.keys_modify], fun m st' hm => ?_⟩
  rw [h, Pool.get_modify] at hm
  split at hm
  · rename_i e
    obtain ⟨st, hst, rfl⟩ := Option.map_eq_some_iff.1 hm
    exact ⟨st, e ▸ hst, hg st⟩
  · exact ⟨st', hm, .refl st'⟩

theorem State.StreamsTamed.of_each {s t : State} {g : Stream → Stream} (h : t.streams = s.streams.each g)
    (hg : ∀ st : Stream, st.Tamer (g st)) : s.StreamsTamed t := by
  refine ⟨fun hs => by rwa [h, Pool.sorted, Pool.keys_each], fun m st' hm => ?_⟩
  rw [h, Pool.get_each] at hm
  obtain ⟨st, hst, rfl⟩ := Option.map_eq_some_iff.1 hm
  exact ⟨st, hst, hg st⟩

theorem State.StreamsTamed.of_free {s t : State} {k : Nat} (h : t.streams = s.streams.free k) (hs : s.streams.sorted) :
    s.StreamsTamed t := by
  refine ⟨fun hs => h ▸ Pool.sorted_free hs k, fun m st' hm => ⟨st', ?_, .refl st'⟩⟩
  rw [h] at hm
  by_cases e : m = k
  · rw [e, Pool.get_free_self hs] at hm
    cases hm
  · rwa [Pool.get_free_ne _ e] at hm

section

variable {s t : State} {gap : Option Nat} {p i : Nat} {pc : Piece} {f : Frame}

/-- Streams made tamer, while what is left to supersede stays so. -/
theorem State.Deep.tamed {gap' : Option Nat} (h : s.Deep gap) (ht : t.RefsBut gap') (hst : s.StreamsTamed t)
    (hlist : ∀ k st i, t.streams.get k = some st → i ∈ st.scrubList → s.Supersedable k i → t.Supersedable k i) :
    t.Deep gap' := by
  refine ⟨ht, hst.ordered h.ordered, fun k st hk => ?_, fun k st hk => ?_⟩ <;>
    obtain ⟨st', hk', htame⟩ := hst.tame k st hk
  · obtain ⟨hd, ho⟩ := h.within k st' hk'
    rw [htame.depth]
    exact ⟨hd, htame.outstanding.trans ho⟩
  · obtain ⟨hn, hl⟩ := h.scrubs k st' hk'
    exact ⟨htame.scrubList.nodup hn, fun i hi => hlist k st i hk hi (hl i (htame.scrubList.subset hi))⟩

/-- The same for a change that leaves the frames, their pieces and the streams' numbers. -/
theorem State.Deep.congr (h : s.Deep gap) (hf : t.frames = s.frames) (hp : t.pieces = s.pieces) (hst : s.StreamsTamed t) :
    t.Deep gap :=
  h.tamed (h.toRefsBut.congr hf hp) hst fun k st i _ _ ⟨f, hi, hk, hc, hw⟩ =>
    ⟨f, hf ▸ hi, hk, hc, fun p hpf => (State.waits_congr (by rw [hp])).trans (hw p hpf)⟩

theorem State.Deep.modStream (h : s.Deep gap) (k : Handle) {g : Stream → Stream} (hg : ∀ st : Stream, st.Tamer (g st)) :
    (s.modStream k g).Deep gap := h.congr rfl rfl (.of_modify rfl hg)

theorem Stream.tamer_erase (st : Stream) (i : Nat) : st.Tamer { st with scrubList := st.scrubList.erase i } :=
  ⟨rfl, Nat.le_refl _, List.erase_sublist⟩

theorem State.Deep.gapped (h : s.Deep none) (i : Nat) : s.Deep (some i) := { h with toRefsBut := h.toRefsBut.gapped i }

/-! ## Outcomes and the finish of a frame -/

theorem State.Deep.record (h : s.Deep gap) (hp : s.pieces.get p = some pc) (hg : gap = none ∨ gap = some pc.frame)
    (o : PieceOutcome) : (s.recordOutcome p o).Deep (some pc.frame) := by
  refine h.tamed (h.toRefsBut.record hp o hg) (.of_eq (by simp)) ?_
  rintro k st i - - ⟨f, hf, hk, hc, hw⟩
  have hwaits {q : Nat} (hqp : q ≠ p) (hq : s.waits q = true) : (s.recordOutcome p o).waits q = true := by
    obtain ⟨g, hg, -⟩ := h.ref p pc hp
    rwa [State.waits_congr ((h.toRefsBut.recorded hp o hg).1.2 q hqp)]
  by_cases hi : i = pc.frame
  · subst hi
    refine ⟨_, (h.toRefsBut.recorded hp o hf).2.2.1, hk, hc, fun q hq => ?_⟩
    rw [Frame.pieceRefs_finishing] at hq
    obtain ⟨hq, hqp⟩ := List.mem_filter.1 hq
    exact hwaits (by simpa using hqp) (hw q hq)
  · obtain ⟨g, hg, -⟩ := h.ref p pc hp
    refine ⟨f, by rw [(h.toRefsBut.recorded hp o hg).2.1 i hi, hf], hk, hc, fun q hq => hwaits ?_ (hw q hq)⟩
    rintro rfl
    exact hi ((h.toRefsBut.mem_pieceRefs hp hf).1 hq).symm

theorem Stream.count_depth (st : Stream) (status : FrameStatus) (late : Bool) : (st.count status late).depth = st.depth := by
  unfold Stream.count
  split
  · split <;> rfl
  all_goals rfl

/-- A finished frame leaves its stream's scrub list, the only one that holds it. -/
theorem State.Deep.finishFrame (h : s.Deep (some i)) (hf : s.frames.get i = some f) (hnone : f.pieceRefs = []) :
    (s.finishFrame i f).Deep none := by
  have hstreams : (s.finishFrame i f).streams = s.streams.modify f.stream.handle.toNat fun st =>
      { st.count f.status (isLate (f.lateness s.time)) with
        outstanding := st.outstanding - 1, scrubList := st.scrubList.erase i } := by
    rw [State.finishFrame_eq]
  refine h.tamed (h.toRefsBut.finishFrame hf hnone) (.of_modify hstreams fun st => ⟨?_, Nat.sub_le _ _, List.erase_sublist⟩) ?_
  · exact Stream.count_depth ..
  · rintro k st m hk hm ⟨g, hg, hgk, hc, hw⟩
    have hmi : m ≠ i := by
      rintro rfl
      rw [hf] at hg
      cases hg
      subst hgk
      rw [hstreams, Pool.get_modify, if_pos rfl] at hk
      obtain ⟨st', hk', rfl⟩ := Option.map_eq_some_iff.1 hk
      exact (h.scrubs _ st' hk').1.not_mem_erase hm
    refine ⟨g, ?_, hgk, hc, fun q hq => ?_⟩
    · rw [State.finishFrame_frames, Pool.get_free_ne _ hmi, hg]
    · rw [State.waits_congr (s := s) (by rw [State.finishFrame_pieces])]
      exact hw q hq

theorem State.Deep.finishIfDone (h : s.Deep (some i)) : (s.finishIfDone i).Deep none := by
  rcases s.finishIfDone_cases i with ⟨e, hleft⟩ | ⟨f, hf, hnone, e⟩
  · rw [e]
    exact { h with toRefsBut := h.toRefsBut.close hleft }
  · rw [e]
    exact h.finishFrame hf hnone

theorem State.Deep.takeOutcome (h : s.Deep none) (p : Nat) (o : PieceOutcome) : (s.takeOutcome p o).Deep none := by
  rcases s.takeOutcome_cases p o with e | ⟨pc, hp, e⟩
  · rwa [e]
  · rw [e]
    exact (h.record hp (.inl rfl) o).finishIfDone

theorem State.Deep.loseQueue (h : s.Deep none) (j : SpanId) : (s.loseQueue j).Deep none := by
  have hlost := foldl_inv (State.Deep · none) (fun s p => s.takeOutcome p .spanLost)
    (fun _ p h => h.takeOutcome p .spanLost) (s.queued j) (s.emptied j) (h.congr rfl rfl (.of_eq rfl))
  rw [State.loseQueue_eq]
  split
  · exact hlost
  · exact hlost.congr rfl rfl (.of_eq rfl)

/-! ## Withdrawal -/

theorem State.dequeued_streams (s : State) (p : Nat) (pc : Piece) : (s.dequeued p pc).streams = s.streams := by
  unfold State.dequeued
  split <;> simp

theorem State.Deep.withdrawPiece (h : s.Deep (some i)) (hi : ∀ pc, s.pieces.get p = some pc → pc.frame = i)
    (o : PieceOutcome) : (State.withdrawPiece o s p).Deep (some i) := by
  rcases s.withdrawPiece_cases o p with ⟨-, e⟩ | ⟨pc, hp, -, e⟩
  · rwa [e]
  · have hout : (s.dequeued p pc).Deep (some i) := h.congr (by simp) (by simp) (.of_eq (State.dequeued_streams ..))
    rw [e, ← hi pc hp]
    exact hout.record (by rw [State.dequeued_pieces]; exact hp) (.inr (by rw [hi pc hp])) o

theorem State.Deep.withdrawn (o : PieceOutcome) (ps : List Nat) (h : s.Deep (some i))
    (hi : ∀ p ∈ ps, ∀ pc, s.pieces.get p = some pc → pc.frame = i) : (s.withdrawn o ps).Deep (some i) := by
  induction ps generalizing s with
  | nil => exact h
  | cons p r ih =>
    exact ih (h.withdrawPiece (hi p List.mem_cons_self) o) fun q hq qc hqc =>
      hi q (List.mem_cons_of_mem _ hq) qc (h.toRefsBut.get_withdrawPiece hqc)

/-- A frame that takes its cancel reason has left its stream's scrub list. -/
theorem State.Deep.reasoned (h : s.Deep none) (hf : s.frames.get i = some f) (r : CancelReason) :
    (s.reasoned i f r).Deep none := by
  have hrefs : (s.reasoned i f r).RefsBut none :=
    (h.toRefsBut.modFrame i (g := fun f => { f with cancel := some r }) fun _ => rfl).congr rfl rfl
  refine h.tamed hrefs (.of_modify rfl fun st => st.tamer_erase i) ?_
  rintro k st m hk hm ⟨g, hg, hgk, hc, hw⟩
  have hmi : m ≠ i := by
    rintro rfl
    rw [hf] at hg
    cases hg
    subst hgk
    have hk : (s.streams.modify f.stream.handle.toNat fun st =>
      { st with scrubList := st.scrubList.erase m }).get f.stream.handle.toNat = some st := hk
    rw [Pool.get_modify, if_pos rfl] at hk
    obtain ⟨st', hk', rfl⟩ := Option.map_eq_some_iff.1 hk
    exact (h.scrubs _ st' hk').1.not_mem_erase hm
  refine ⟨g, ?_, hgk, hc, hw⟩
  exact (Pool.get_modify ..).trans ((if_neg hmi).trans hg)

theorem State.Deep.withdrawFrame (h : s.Deep none) (r : CancelReason) (i : Nat) :
    (State.withdrawFrame r s i).Deep none := by
  rcases s.withdrawFrame_cases r i with e | ⟨f, hf, -, e⟩
  · rwa [e]
  · rw [e]
    refine (((h.reasoned hf r).gapped i).withdrawn r.outcome f.pieceRefs fun p hp pc hpc => ?_).finishIfDone
    exact (h.toRefsBut.mem_pieceRefs hpc hf).1 hp

/-! ## Placement -/

theorem State.Deep.enqueue (h : s.Deep gap) (hp : s.pieces.get p = some pc) : (s.enqueue p pc).Deep gap := by
  refine h.tamed (h.toRefsBut.enqueue hp) (.of_eq (by simp)) ?_
  rintro k st m - - ⟨g, hg, hgk, hc, hw⟩
  refine ⟨g, by simpa using hg, hgk, hc, fun q hq => ?_⟩
  by_cases e : q = p
  · subst e
    rw [State.waits_of_get ((State.get_enqueue hp q).trans (if_pos rfl))]
    rfl
  · rw [State.waits_congr ((State.get_enqueue hp q).trans (if_neg e))]
    exact hw q hq

/-- A placement leaves every piece record that it does not free with its frame. -/
theorem State.RefsBut.frame_placed (h : s.RefsBut gap) {hold : Bool} {k : Handle} {q : Nat} {qc : Piece}
    (hq : (State.placePiece hold k s p).pieces.get q = some qc) : ∃ rc, s.pieces.get q = some rc ∧ qc.frame = rc.frame := by
  rcases s.placePiece_cases hold k p with ⟨e, -⟩ | ⟨pc, hp, ⟨-, e⟩ | e⟩
  · exact ⟨qc, e ▸ hq, rfl⟩
  · rw [e, State.get_enqueue hp] at hq
    split at hq
    · rename_i eq
      cases hq
      exact ⟨pc, eq ▸ hp, rfl⟩
    · exact ⟨qc, hq, rfl⟩
  · rw [e] at hq
    exact ⟨qc, (h.get_recorded hp _ hq).2, rfl⟩

theorem State.Deep.placePiece (h : s.Deep (some i)) (hi : ∀ pc, s.pieces.get p = some pc → pc.frame = i) (hold : Bool)
    (k : Handle) : (State.placePiece hold k s p).Deep (some i) := by
  rcases s.placePiece_cases hold k p with ⟨e, -⟩ | ⟨pc, hp, ⟨-, e⟩ | e⟩
  · rwa [e]
  · rw [e]
    exact h.enqueue hp
  · rw [e, ← hi pc hp]
    exact h.record hp (.inr (by rw [hi pc hp])) _

theorem State.Deep.placePieces (hold : Bool) (k : Handle) (ps : List Nat) (h : s.Deep (some i))
    (hi : ∀ p ∈ ps, ∀ pc, s.pieces.get p = some pc → pc.frame = i) :
    (ps.foldl (State.placePiece hold k) s).Deep (some i) := by
  induction ps generalizing s with
  | nil => exact h
  | cons p r ih =>
    refine ih (h.placePiece (hi p List.mem_cons_self) hold k) fun q hq qc hqc => ?_
    obtain ⟨rc, hr, e⟩ := h.toRefsBut.frame_placed hqc
    rw [e]
    exact hi q (List.mem_cons_of_mem _ hq) rc hr

theorem State.Deep.releaseFrame (h : s.Deep none) (i : Nat) : (s.releaseFrame i).Deep none := by
  rcases s.releaseFrame_cases i with e | ⟨f, hf, -, e⟩
  · rwa [e]
  · have hdue : (s.dueFrame i).Deep none := by
      refine h.tamed (h.toRefsBut.modFrame i fun _ => rfl) (.of_eq rfl) ?_
      rintro k st m - - ⟨g, hg, hgk, hc, hw⟩
      obtain ⟨g', hg', e⟩ : ∃ g', (s.dueFrame i).frames.get m = some g' ∧
          (g' = g ∨ g' = { g with deadline := some (plusMicros s.time s.deadlineUnit.scrubTarget) }) := by
        have hm : (s.dueFrame i).frames.get m = if m = i then (s.frames.get i).map fun f =>
          { f with deadline := some (plusMicros s.time s.deadlineUnit.scrubTarget) } else s.frames.get m := Pool.get_modify ..
        rw [hm]
        split
        · rename_i e
          subst e
          exact ⟨_, by rw [hg]; rfl, .inr rfl⟩
        · exact ⟨g, hg, .inl rfl⟩
      rcases e with rfl | rfl
      · exact ⟨_, hg', hgk, hc, hw⟩
      · exact ⟨_, hg', hgk, hc, hw⟩
    rw [e]
    refine ((hdue.gapped i).placePieces false _ _ fun p hp pc hpc => ?_).finishIfDone
    exact (h.toRefsBut.mem_pieceRefs hpc hf).1 (List.mem_of_mem_filter hp)

end

end Sys2Proof.Machine
end

section
/-! PROOFS. The prefetch depth and the scrub lists through an acceptance and a dispatch (R52, R67, R71 to R75, R90). -/

namespace Sys2Proof.Machine

section

variable {s t : State} {gap : Option Nat} {p i : Nat} {pc : Piece} {f : Frame} {n : NodeId} {rec : List Byte} {st : Stream}
  {kind : FrameKind} {deadline : Option Time}

/-! ## The checks passed -/

theorem depthAndPools_pass {st' : Stream} {victim : Option Nat} (h : s.depthAndPools st = .pass st' victim) :
    st' = st ∧ ((victim = none ∧ st.outstanding < st.depth) ∨
      ∃ v, victim = some v ∧ st.state = .scrubbing ∧ st.scrubList.head? = some v) := by
  unfold State.depthAndPools at h
  split at h
  · split at h
    · cases h
      exact ⟨rfl, .inl ⟨rfl, ‹_›⟩⟩
    · cases h
  · split at h
    · rename_i hk
      split at h
      · cases h
      · split at h
        · cases h
          exact ⟨rfl, .inr ⟨_, rfl, hk.1, ‹_›⟩⟩
        · cases h
    · cases h

theorem State.stream_of_named {k : StreamId} (h : s.named k = some st) : s.streams.get k.handle.toNat = some st := by
  unfold State.named at h
  split at h
  · exact h
  · cases h

/-- What a FRAME_READ that passes its checks is known to be (R52). -/
theorem readChecks_pass {victim : Option Nat} (h : s.readChecks n rec = .pass st victim) :
    s.streams.get (recStream rec).handle.toNat = some st ∧ (s.node n).state = .attached ∧
      recExtentCount rec = st.spans.length ∧ ((victim = none ∧ st.outstanding < st.depth) ∨
        ∃ v, victim = some v ∧ st.state = .scrubbing ∧ st.scrubList.head? = some v) := by
  cases hn : s.named (recStream rec) with
  | none =>
    rw [readChecks_of_unnamed hn] at h
    cases h
  | some st' =>
    by_cases hstranger : (s.node n).state ≠ .attached ∨ st'.owner ≠ some n
    · rw [readChecks_of_stranger hn hstranger] at h
      cases h
    · rw [not_or, not_not, not_not] at hstranger
      obtain ⟨ha, ho⟩ := hstranger
      rw [readChecks_of_owner hn ha ho] at h
      split at h
      · cases h
      · split at h
        · cases h
        · rename_i hargs
          split at h
          · cases h
          · obtain ⟨rfl, hroom⟩ := depthAndPools_pass h
            have hmatch : extentsMatch st (recExtentCount rec) (recExtents rec (recExtentCount rec)) = true := by
              cases hm : extentsMatch st (recExtentCount rec) (recExtents rec (recExtentCount rec)) with
              | true => rfl
              | false => exact absurd (.inr hm) hargs
            obtain ⟨hcount, -⟩ := (extentsMatch_iff ..).1 hmatch
            exact ⟨State.stream_of_named hn, ha, hcount, hroom⟩

/-- A scrub read has no deadline, and only a read under play has one (R36). -/
theorem Stream.timing_scrub (st : Stream) (number : Nat) : (st.timing number).1 = .scrub → (st.timing number).2 = none := by
  unfold Stream.timing
  split
  · split <;> nofun
  · exact fun _ => rfl
  · exact fun _ => rfl

/-! ## Acceptance -/

/-- One more frame of a stream that has room for it, not yet in its scrub list. -/
theorem State.Deep.allocated (h : s.Deep none) (hcount : recExtentCount rec = st.spans.length)
    (hroom : ∀ cur, s.streams.get (recStream rec).handle.toNat = some cur → cur.outstanding < cur.depth) :
    (s.allocated n rec st kind deadline).Deep (some s.frames.lowestFree) := by
  have hget (k : Nat) : (s.allocated n rec st kind deadline).streams.get k = if k = (recStream rec).handle.toNat then
      (s.streams.get (recStream rec).handle.toNat).map fun st => { st with outstanding := st.outstanding + 1 }
      else s.streams.get k := Pool.get_modify ..
  have hstands {k m : Nat} (hm : s.Supersedable k m) : (s.allocated n rec st kind deadline).Supersedable k m := by
    obtain ⟨f, hf, hk, hc, hw⟩ := hm
    refine ⟨f, ?_, hk, hc, fun q hq => ?_⟩
    · rw [State.get_frame_allocated, if_neg, hf]
      rintro rfl
      rw [Pool.get_lowestFree h.frames] at hf
      cases hf
    · obtain ⟨qc, hqc, -⟩ := h.toRefsBut.get_of_mem hf hq
      obtain ⟨-, hfree, -⟩ := Pool.lowestFreeMany_spec h.pieces st.spans.length
      have hnot : q ∉ s.pieces.lowestFreeMany st.spans.length := fun hin => by
        rw [hfree q hin] at hqc
        cases hqc
      rw [State.waits_congr (State.get_allocated_other hcount hnot)]
      exact hw q hq
  have hsort : (s.streams.modify (recStream rec).handle.toNat fun st =>
      { st with outstanding := st.outstanding + 1 }).sorted := by
    rw [Pool.sorted, Pool.keys_modify]
    exact h.ordered
  refine ⟨h.toRefsBut.allocated hcount, hsort, fun k st' hk => ?_, fun k st' hk => ?_⟩ <;> rw [hget] at hk
  · split at hk
    · obtain ⟨cur, hcur, rfl⟩ := Option.map_eq_some_iff.1 hk
      exact ⟨(h.within _ cur hcur).1, hroom cur hcur⟩
    · exact h.within k st' hk
  · obtain ⟨cur, hcur, hlist⟩ : ∃ cur, s.streams.get k = some cur ∧ st'.scrubList = cur.scrubList := by
      split at hk
      · rename_i e
        obtain ⟨cur, hcur, rfl⟩ := Option.map_eq_some_iff.1 hk
        exact ⟨cur, e ▸ hcur, rfl⟩
      · exact ⟨st', hk, rfl⟩
    obtain ⟨hn, hl⟩ := h.scrubs k cur hcur
    rw [hlist]
    exact ⟨hn, fun m hm => hstands (hl m hm)⟩

/-- A frame that waits whole joins its stream's scrub list (R71), and the rest of the entry keeps the lists in order. -/
theorem State.Deep.enterHold (h : s.Deep none) {k : Handle} (hnot : ∀ cur, s.streams.get k.toNat = some cur → i ∉ cur.scrubList)
    (hi : s.Supersedable k.toNat i) (st : Stream) : (s.enterHold k st i).Deep none := by
  unfold State.enterHold
  extract_lets older joined swept
  have hjoined : joined.Deep none := by
    have hget (m : Nat) : joined.streams.get m = if m = k.toNat then
        (s.streams.get k.toNat).map fun st => { st with scrubList := st.scrubList ++ [i] } else s.streams.get m :=
      Pool.get_modify ..
    have hsort : joined.streams.sorted := by
      change ((s.streams.modify _ _).keys).Pairwise _
      rw [Pool.keys_modify]
      exact h.ordered
    refine ⟨h.toRefsBut.congr rfl rfl, hsort, fun m st' hm => ?_, fun m st' hm => ?_⟩ <;> rw [hget] at hm <;> split at hm
    · obtain ⟨cur, hcur, rfl⟩ := Option.map_eq_some_iff.1 hm
      exact h.within _ cur hcur
    · exact h.within m st' hm
    · rename_i e
      subst e
      obtain ⟨cur, hcur, rfl⟩ := Option.map_eq_some_iff.1 hm
      obtain ⟨hn, hl⟩ := h.scrubs _ cur hcur
      refine ⟨List.nodup_append.2 ⟨hn, List.nodup_singleton i, fun a ha b hb e => ?_⟩, fun m hm => ?_⟩
      · exact hnot cur hcur (List.mem_singleton.1 hb ▸ e ▸ ha)
      · rcases List.mem_append.1 hm with hm | hm
        · exact hl m hm
        · rw [List.mem_singleton.1 hm]
          exact hi
    · exact h.scrubs m st' hm
  have hswept : swept.Deep none := by
    unfold swept
    split
    · exact foldl_inv (State.Deep · none) _ (fun _ v h => h.withdrawFrame .superseded v) _ _ hjoined
    · exact hjoined
  split
  · exact hswept.releaseFrame i
  · exact hswept.modStream k fun st => ⟨rfl, Nat.le_refl _, List.Sublist.refl _⟩

/-- A placement changes of a frame record only its positions. -/
theorem State.get_frame_placed {hold : Bool} {k : Handle} {m : Nat} (hf : s.frames.get m = some f) :
    ∃ g, (State.placePiece hold k s p).frames.get m = some g ∧ g.stream = f.stream ∧ g.cancel = f.cancel := by
  rcases s.placePiece_cases hold k p with ⟨e, -⟩ | ⟨pc, hp, ⟨-, e⟩ | e⟩
  · exact ⟨f, by rw [e, hf], rfl, rfl⟩
  · exact ⟨f, by rw [e, State.enqueue_frames, hf], rfl, rfl⟩
  · rw [e, State.recordOutcome_of_get hp]
    by_cases hm : m = pc.frame
    · exact ⟨{ f with positions := f.positions.set pc.position (.finished .spanLost) }, by
        simp [Pool.get_modify, ← hm, hf], rfl, rfl⟩
    · exact ⟨f, by simp [Pool.get_modify, hm, hf], rfl, rfl⟩

/-- The frame of a scrub read, some piece of which is HELD, may enter the scrub list of its stream. -/
theorem State.supersedable_kept (hk : s.PiecesBut none []) (hcount : recExtentCount rec = st.spans.length)
    {v : State} (hv : (s.allocated n rec st .scrub none).kept (recStream rec).handle
      (s.pieces.lowestFreeMany st.spans.length) = v) :
    v.Supersedable (recStream rec).handle.toNat s.frames.lowestFree := by
  obtain ⟨hkept, ⟨f, hf, -, hheld⟩, -⟩ := hk.kept_allocated hcount (n := n) hv
  have hstart := (State.get_frame_allocated (s := s) (n := n) (rec := rec) (st := st) (kind := .scrub) (deadline := none)
    s.frames.lowestFree).trans (if_pos rfl)
  obtain ⟨g, hg, hstream, hcancel⟩ := foldl_inv (fun u : State => ∃ g, u.frames.get s.frames.lowestFree = some g ∧
    g.stream = recStream rec ∧ g.cancel = none) (State.placePiece true (recStream rec).handle) (fun u p hu => by
      obtain ⟨g, hg, hs, hc⟩ := hu
      obtain ⟨g', hg', hs', hc'⟩ := State.get_frame_placed (p := p) (hold := true) (k := (recStream rec).handle) hg
      exact ⟨g', hg', hs'.trans hs, hc'.trans hc⟩) (s.pieces.lowestFreeMany st.spans.length) _ ⟨_, hstart, rfl, rfl⟩
  have hg : v.frames.get s.frames.lowestFree = some g := hv ▸ hg
  rw [hf] at hg
  cases hg
  refine ⟨f, hf, by rw [hstream], hcancel, fun q hq => ?_⟩
  obtain ⟨qc, hqc, hqi⟩ := hkept.toRefsBut.get_of_mem hf hq
  rw [State.waits_of_get hqc, hheld q qc hqc hqi]
  rfl

theorem State.Deep.acceptRead (h : s.Deep none) (hk : s.PiecesBut none []) (hcount : recExtentCount rec = st.spans.length)
    (hkind : kind = .scrub → deadline = none)
    (hroom : ∀ cur, s.streams.get (recStream rec).handle.toNat = some cur → cur.outstanding < cur.depth) :
    (s.acceptRead n rec st kind deadline).Deep none := by
  have halloc := h.allocated hcount hroom (n := n) (kind := kind) (deadline := deadline)
  have hplaced (hold : Bool) := halloc.placePieces hold (recStream rec).handle (s.pieces.lowestFreeMany st.spans.length)
    fun q hq qc hqc => (h.toRefsBut.toPlace_allocated hcount q qc hqc).1 hq
  by_cases hs : kind = .scrub
  · subst hs
    obtain rfl := hkind rfl
    rw [State.acceptRead_scrub s n rec st none rfl]
    split
    · rename_i hwaits
      obtain ⟨-, -, hclose⟩ := hk.kept_allocated hcount (n := n) rfl
      refine State.Deep.enterHold { hplaced true with toRefsBut := (hclose hwaits).toRefsBut } (fun cur hcur hin => ?_)
        (State.supersedable_kept hk hcount rfl) st
      have hstreams : ((s.allocated n rec st .scrub none).kept (recStream rec).handle
          (s.pieces.lowestFreeMany st.spans.length)).streams = s.streams.modify (recStream rec).handle.toNat fun st =>
            { st with outstanding := st.outstanding + 1 } :=
        foldl_keeps State.streams (State.placePiece true (recStream rec).handle) (by simp) _ _
      rw [hstreams, Pool.get_modify, if_pos rfl] at hcur
      obtain ⟨now, hnow, rfl⟩ := Option.map_eq_some_iff.1 hcur
      obtain ⟨f, hf, -⟩ := (h.scrubs _ now hnow).2 _ hin
      rw [Pool.get_lowestFree h.frames] at hf
      cases hf
    · exact (hplaced true).finishIfDone
  · rw [State.acceptRead_other s n rec st hs]
    exact (hplaced false).finishIfDone

/-- A supersession out of a scrub list makes room in its stream at once (R75). -/
theorem State.Deep.room_after_supersession (h : s.Deep none) {k v : Nat} (hst : s.streams.get k = some st)
    (hv : v ∈ st.scrubList) (cur : Stream) (hcur : (s.withdrawFrame .superseded v).streams.get k = some cur) :
    cur.outstanding < cur.depth := by
  obtain ⟨hdepth, hout⟩ := h.within k st hst
  obtain ⟨f, hf, rfl, hcancel, hwaits⟩ := (h.scrubs k st hst).2 v hv
  obtain ⟨p, hp⟩ := List.exists_mem_of_ne_nil _ (h.filled v f hf nofun)
  obtain ⟨hwithdraw, -⟩ := withdrawalTakesEveryWaitingPieceOfAFrame
  obtain ⟨-, htaken⟩ := hwithdraw .superseded s v f (h.toRefsBut.refersBack hf)
  obtain ⟨-, hwhole, -⟩ := htaken hcancel ⟨p, hp, hwaits p hp⟩
  obtain ⟨-, -, -, hstreams⟩ := hwhole hwaits
  rw [hstreams, Pool.get_modify, if_pos rfl, hst] at hcur
  cases hcur
  dsimp only
  omega

/-! ## A dispatch -/

theorem State.Deep.unlist (h : s.Deep gap) (j : SpanId) (p : Nat) : (s.unlist j p).Deep gap :=
  h.congr (by simp) (by simp) (.of_eq (by simp))

/-- The frame of a piece put in service leaves its scrub list, so that every list still waits whole (R73). -/
theorem State.Deep.putInService (h : s.Deep none) (hp : s.pieces.get p = some pc) (j : SpanId) (k : SlotId) :
    (s.putInService j k p pc).Deep none := by
  obtain ⟨f, hf, -⟩ := h.ref p pc hp
  have hrefs := h.toRefsBut.modPiece p (g := fun pc => { pc with state := .inService }) (fun _ => rfl) fun _ => rfl
  rw [State.putInService_eq hf]
  refine h.tamed (hrefs.congr rfl rfl) (.of_modify rfl fun st => st.tamer_erase pc.frame) ?_
  rintro m st' i hm hi ⟨g, hg, hgk, hc, hw⟩
  have hne : i ≠ pc.frame := by
    rintro rfl
    rw [hf] at hg
    cases hg
    subst hgk
    have hm : (s.streams.modify f.stream.handle.toNat fun st =>
      { st with scrubList := st.scrubList.erase pc.frame }).get f.stream.handle.toNat = some st' := hm
    rw [Pool.get_modify, if_pos rfl] at hm
    obtain ⟨cur, hcur, rfl⟩ := Option.map_eq_some_iff.1 hm
    exact (h.scrubs _ cur hcur).1.not_mem_erase hi
  refine ⟨g, hg, hgk, hc, fun q hq => ?_⟩
  have hqp : q ≠ p := by
    rintro rfl
    exact hne ((h.toRefsBut.mem_pieceRefs hp hg).1 hq).symm
  rw [State.waits_congr (s := s) ((Pool.get_modify ..).trans (if_neg hqp))]
  exact hw q hq

theorem State.Deep.dispatchOne (h : s.Deep none) {j : SpanId} {c : Choice} (ht : s.dispatchOne j c = some t) :
    t.Deep none := by
  cases hk : (s.span j).service.lowestFree with
  | none => simp [State.dispatchOne, hk] at ht
  | some k =>
    cases hp : s.pieces.get c.piece with
    | none => simp [State.dispatchOne, hk, hp] at ht
    | some pc =>
      rw [State.dispatchOne_of_slot hk hp] at ht
      cases ht
      have hmoved : ((s.unlist j c.piece).modArbiter j fun a => a.moved c).Deep none :=
        (h.unlist j c.piece).congr rfl rfl (.of_eq rfl)
      exact hmoved.putInService (by simpa using hp) j k

end

end Sys2Proof.Machine
end

section
/-! PROOFS. Changes that leave frames, pieces and every place as they stand, and no stream asking for more. -/

namespace Sys2Proof.Machine

/-- From `s` to `t` frames, pieces and their places stand, every port is alike, and the streams are tamer. -/
structure State.Calm (s t : State) : Prop extends s.SamePlaces t where
  frames : t.frames = s.frames
  pieces : t.pieces = s.pieces
  ports : s.PortsAlike t
  streams : s.streams.sorted → s.StreamsTamed t

section

variable {s t u : State}

theorem State.Calm.refl (s : State) : s.Calm s := ⟨.refl s, rfl, rfl, .refl s, fun _ => .of_eq rfl⟩

theorem State.Calm.trans (h : s.Calm t) (h' : t.Calm u) : s.Calm u :=
  ⟨h.toSamePlaces.trans h'.toSamePlaces, h'.frames.trans h.frames, h'.pieces.trans h.pieces, h.ports.trans h'.ports,
    fun hs => (h.streams hs).trans (h'.streams ((h.streams hs).ordered hs))⟩

theorem State.Calm.ite {c : Prop} [Decidable c] (ht : s.Calm t) (hu : s.Calm u) : s.Calm (if c then t else u) := by
  split <;> assumption

theorem State.Calm.foldl {α : Type} {f : State → α → State} (h : ∀ (s : State) (a : α), s.Calm (f s a)) (l : List α) (s : State) :
    s.Calm (l.foldl f s) := by
  induction l generalizing s with
  | nil => exact .refl s
  | cons a r ih => exact (h s a).trans (ih _)

/-! ## The parts of the state -/

/-- A change of parts that no place, port or stream record is in. -/
theorem State.Calm.of_rest (hf : t.frames = s.frames) (hp : t.pieces = s.pieces) (hn : t.nodes = s.nodes)
    (hst : t.streams = s.streams) (hs : t.spans = s.spans) (hr : t.reports = s.reports) : s.Calm t :=
  ⟨.of_spans hs hr, hf, hp, .of_nodes hn, fun _ => .of_eq hst⟩

theorem State.calm_modNode {n : NodeId} {f : Node → Node} (h : (s.node n).Alike (f (s.node n))) : s.Calm (s.modNode n f) :=
  ⟨.of_spans rfl rfl, rfl, rfl, State.portsAlike_modNode h, fun _ => .of_eq rfl⟩

theorem State.calm_notifyAll (s : State) (tag : EventTag) (b : List Field) : s.Calm (s.notifyAll tag b) :=
  ⟨.of_spans (by simp) (by simp), by simp, by simp, s.portsAlike_notifyAll tag b, fun _ => .of_eq (by simp)⟩

theorem State.calm_modSpan (s : State) (j : SpanId) {f : SpanState → SpanState}
    (hd : (f (s.span j)).queue.deadlines = (s.span j).queue.deadlines)
    (hb : (f (s.span j)).queue.background = (s.span j).queue.background)
    (hv : (f (s.span j)).service.busyPieces = (s.span j).service.busyPieces) : s.Calm (s.modSpan j f) := by
  have hspan {α : Type} (g : SpanState → α) (hg : g (f (s.span j)) = g (s.span j)) (k : SpanId) :
      g ((s.modSpan j f).span k) = g (s.span k) := by
    rw [State.span_modSpan]
    split
    · rename_i e
      rw [hg, e]
    · rfl
  exact ⟨⟨hspan (·.queue.deadlines) hd, hspan (·.queue.background) hb, hspan (·.service.busyPieces) hv, rfl⟩, rfl, rfl,
    .of_nodes rfl, fun _ => .of_eq rfl⟩

theorem State.calm_modQueue (s : State) (j : SpanId) {f : SpanQueue → SpanQueue}
    (hd : (f (s.span j).queue).deadlines = (s.span j).queue.deadlines)
    (hb : (f (s.span j).queue).background = (s.span j).queue.background) : s.Calm (s.modQueue j f) :=
  s.calm_modSpan j hd hb rfl

theorem State.calm_modArbiter (s : State) (j : SpanId) (f : Arbiter → Arbiter) : s.Calm (s.modArbiter j f) :=
  s.calm_modSpan j rfl rfl rfl

theorem State.calm_modMonitor (s : State) (j : SpanId) (f : Monitor → Monitor) : s.Calm (s.modMonitor j f) :=
  s.calm_modSpan j rfl rfl rfl

theorem State.calm_modBudget (s : State) (j : SpanId) (f : Budget → Budget) : s.Calm (s.modBudget j f) :=
  s.calm_modSpan j rfl rfl rfl

theorem State.calm_modService (s : State) (j : SpanId) {f : SpanService → SpanService}
    (h : (f (s.span j).service).slots = (s.span j).service.slots) : s.Calm (s.modService j f) :=
  s.calm_modSpan j rfl rfl (congrArg (fun slots => SpanService.busyPieces { (s.span j).service with slots := slots }) h)

theorem State.calm_modConfig (s : State) (f : ConfigBlock → ConfigBlock) : s.Calm (s.modConfig f) :=
  .of_rest rfl rfl rfl rfl rfl rfl

theorem State.calm_modStream (s : State) (k : Handle) {g : Stream → Stream} (hg : ∀ st : Stream, st.Tamer (g st)) :
    s.Calm (s.modStream k g) :=
  ⟨.of_spans rfl rfl, rfl, rfl, .of_nodes rfl, fun _ => .of_modify rfl hg⟩

theorem State.calm_each (s : State) {g : Stream → Stream} (hg : ∀ st : Stream, st.Tamer (g st)) :
    s.Calm { s with streams := s.streams.each g } :=
  ⟨.of_spans rfl rfl, rfl, rfl, .of_nodes rfl, fun _ => .of_each rfl hg⟩

theorem State.calm_postAll (s : State) {rs : List Report} (h : rs.filterMap Report.piece = []) : s.Calm (s.postAll rs) :=
  ⟨⟨fun _ => rfl, fun _ => rfl, fun _ => rfl, by rw [State.outcomesInFlight_postAll, h, List.append_nil]⟩, rfl, rfl,
    .of_nodes rfl, fun _ => .of_eq rfl⟩

theorem State.calm_post (s : State) {r : Report} (h : r.piece = none) : s.Calm (s.post r) :=
  s.calm_postAll (rs := [r]) (by simp [h])

/-- A report other than an outcome taken from its channel. -/
theorem State.calm_collect {before after : List Report} {r : Report} (hr : s.reports = before ++ r :: after)
    (h : r.piece = none) : s.Calm { s with reports := before ++ after } := by
  refine ⟨⟨fun _ => rfl, fun _ => rfl, fun _ => rfl, ?_⟩, rfl, rfl, .of_nodes rfl, fun _ => .of_eq rfl⟩
  rw [State.outcomesInFlight_eq, State.outcomesInFlight_eq, hr]
  simp [h]

/-! ## Stream records -/

theorem Stream.tamer_still (st : Stream) (k : StreamState) : st.Tamer (st.still k) :=
  ⟨rfl, Nat.le_refl _, List.nil_sublist _⟩

theorem Stream.tamer_of_same {st st' : Stream} (hd : st'.depth = st.depth) (ho : st'.outstanding = st.outstanding)
    (hl : st'.scrubList = st.scrubList) : st.Tamer st' := ⟨hd, by rw [ho], by rw [hl]⟩

theorem Stream.tamer_count (st : Stream) (status : FrameStatus) (late : Bool) : st.Tamer (st.count status late) := by
  unfold Stream.count
  split
  · split <;> exact Stream.tamer_of_same rfl rfl rfl
  all_goals exact Stream.tamer_of_same rfl rfl rfl

theorem Stream.tamer_releaseSpan (st : Stream) (j : SpanId) : st.Tamer (st.releaseSpan j) := by
  unfold Stream.releaseSpan
  split
  · exact Stream.tamer_of_same rfl rfl rfl
  · exact .refl st

/-! ## The blocks -/

theorem State.calm_beginSelection (s : State) (j : SpanId) : s.Calm (s.beginSelection j) :=
  .ite (s.calm_modArbiter ..) (.refl s)

theorem State.calm_rearmDeadline (s : State) (j : SpanId) : s.Calm (s.rearmDeadline j) := s.calm_modQueue j rfl rfl

theorem State.calm_rearmWindow (s : State) (j : SpanId) : s.Calm (s.rearmWindow j) := s.calm_modQueue j rfl rfl

theorem State.calm_recomputeOvercommit (s : State) (j : SpanId) : s.Calm (s.recomputeOvercommit j) :=
  .ite (.refl s) ((s.calm_modBudget ..).trans (State.calm_notifyAll ..))

theorem State.calm_updateDegraded (s : State) (j : SpanId) : s.Calm (s.updateDegraded j) :=
  s.calm_each fun st => by
    split
    · exact Stream.tamer_of_same rfl rfl rfl
    · exact .refl st

theorem State.calm_commit (s : State) (e : SpanEntry) : s.Calm (s.commit e) :=
  (s.calm_modBudget ..).trans (State.calm_recomputeOvercommit ..)

theorem State.calm_uncommit (s : State) (e : SpanEntry) : s.Calm (s.uncommit e) :=
  .ite ((s.calm_modBudget ..).trans (State.calm_recomputeOvercommit ..)) (.refl s)

theorem State.calm_freeStream (s : State) (k : Handle) : s.Calm (s.freeStream k) := by
  unfold State.freeStream
  split
  · exact .refl s
  · extract_lets given
    have hgiven : s.Calm given := (State.Calm.foldl State.calm_uncommit _ s).trans (.of_rest rfl rfl rfl rfl rfl rfl)
    exact hgiven.trans ⟨.of_spans rfl rfl, rfl, rfl, .of_nodes rfl, fun hs => .of_free rfl hs⟩

theorem State.calm_releaseAbsent (s : State) (j : SpanId) : s.Calm (s.releaseAbsent j) := by
  unfold State.releaseAbsent
  extract_lets freed given released
  have hgiven : s.Calm given := s.calm_modBudget ..
  have hreleased : s.Calm released := hgiven.trans (given.calm_each fun st => st.tamer_releaseSpan j)
  exact hreleased.trans ((State.calm_updateDegraded ..).trans (State.calm_recomputeOvercommit ..))

theorem State.calm_noticeOrphaned (former : NodeId) (s : State) (k : Handle) : s.Calm (State.noticeOrphaned former s k) := by
  unfold State.noticeOrphaned
  split
  · exact .refl s
  · exact State.calm_notifyAll ..

theorem State.calm_orphanExpires (s : State) (k : Handle) : s.Calm (s.orphanExpires k) := by
  unfold State.orphanExpires
  split
  · exact .refl s
  · have told {g : Stream → Stream} (hg : ∀ st : Stream, st.Tamer (g st)) (tag : EventTag) (b : List Field) :
        s.Calm ((s.modStream k g).notifyAll tag b) := (s.calm_modStream k hg).trans (State.calm_notifyAll ..)
    have hsame (st : Stream) : st.Tamer { st with state := .closing, prior := none, orphanExpiry := none } :=
      Stream.tamer_of_same rfl rfl rfl
    exact .ite ((told hsame ..).trans (State.calm_freeStream ..)) (told hsame ..)

theorem State.calm_zeroGrace (s : State) (hs : List Handle) : s.Calm (s.zeroGrace hs) :=
  .ite (.foldl State.calm_orphanExpires hs s) (.refl s)

theorem State.calm_oweCancels (s : State) (n : NodeId) (hs : List Handle) : s.Calm (s.oweCancels n hs) := by
  refine s.calm_postAll (List.filterMap_eq_nil_iff.2 fun r hr => ?_)
  obtain ⟨k, -, rfl⟩ := List.mem_map.1 hr
  rfl

theorem State.calm_leaveStreams (s : State) (n : NodeId) {g : Stream → Stream} (hg : ∀ st : Stream, st.Tamer (g st)) :
    s.Calm (s.leaveStreams n g) := by
  refine s.calm_each fun st => ?_
  split
  · split
    · exact hg st
    · exact Stream.tamer_of_same rfl rfl rfl
  · exact .refl st

theorem State.calm_releaseClaim (s : State) (n : NodeId) : s.Calm (s.releaseClaim n) :=
  .ite (s.calm_modConfig ..) (.refl s)

theorem State.calm_noticeClaim (s : State) (n : NodeId) (released : Bool) : s.Calm (s.noticeClaim n released) :=
  .ite (s.calm_notifyAll ..) (.refl s)

theorem State.calm_spanNotice (s : State) (j : SpanId) (k : SpanNotice) (more : List Field) :
    s.Calm (s.spanNotice j k more) := s.calm_notifyAll ..

theorem State.calm_reportLink (s : State) (j : SpanId) : s.Calm (s.reportLink j) := s.calm_post rfl

theorem State.calm_handOn (s : State) (j : SpanId) (before : Monitor) : s.Calm (s.handOn j before) := by
  unfold State.handOn
  extract_lets m told
  have htold : s.Calm told := .ite (s.calm_post rfl) (.refl s)
  exact .ite (htold.trans (told.calm_post rfl)) htold

theorem State.calm_healthNotice (s : State) (j : SpanId) (k : SpanNotice) (more : List Field) :
    s.Calm (s.healthNotice j k more) := s.calm_notifyAll ..

theorem State.calm_restored (s : State) (j : SpanId) : s.Calm (s.restored j) := s.calm_healthNotice ..

theorem State.calm_judgeWindow (s : State) (j : SpanId) : s.Calm (s.judgeWindow j) := by
  unfold State.judgeWindow
  extract_lets before judged turned handed derated restored
  have hhanded : s.Calm handed := (s.calm_modMonitor ..).trans (State.calm_handOn ..)
  have hderated : s.Calm derated := .ite (hhanded.trans (State.calm_healthNotice ..)) hhanded
  have hrestored : s.Calm restored := .ite (hderated.trans (State.calm_restored ..)) hderated
  exact .ite (hrestored.trans (State.calm_healthNotice ..)) hrestored

theorem State.calm_configureCeiling (s : State) (j : SpanId) (c f : Nat) : s.Calm (s.configureCeiling j c f) := by
  unfold State.configureCeiling
  extract_lets before configured handed
  have hhanded : s.Calm handed := ((s.calm_modMonitor ..).trans (configured.calm_post rfl)).trans (State.calm_handOn ..)
  exact .ite (hhanded.trans (State.calm_restored ..)) hhanded

theorem State.calm_configureFloor (s : State) (j : SpanId) (f : Nat) : s.Calm (s.configureFloor j f) := by
  unfold State.configureFloor
  extract_lets before handed
  have hhanded : s.Calm handed := (s.calm_modMonitor ..).trans (State.calm_handOn ..)
  exact .ite (hhanded.trans (State.calm_restored ..)) hhanded

theorem State.calm_monitorTakes (j : SpanId) (s : State) (x : Nat × Nat) : s.Calm (State.monitorTakes j s x) :=
  .ite (s.calm_configureFloor ..) (s.calm_modMonitor ..)

theorem State.calm_admissionTakesPart (s : State) (x : Nat × Nat) : s.Calm (s.admissionTakesPart x) := by
  unfold State.admissionTakesPart
  split <;> exact .of_rest rfl rfl rfl rfl rfl rfl

theorem Node.alike_takes (nd : Node) (x : Nat × Nat) : nd.Alike (nd.takes x) := by
  unfold Node.takes
  split <;> exact .of_same rfl rfl rfl rfl rfl

theorem SpanService.takes_slots (v : SpanService) (x : Nat × Nat) : (v.takes x).slots = v.slots := by
  unfold SpanService.takes
  split <;> rfl

theorem State.calm_takeParams (s : State) (b : ParamBlock) (scope : Option SpanId) (vs : List (Nat × Nat)) :
    s.Calm (s.takeParams b scope vs) := by
  unfold State.takeParams
  split
  · exact .foldl State.calm_admissionTakesPart vs s
  · exact s.calm_modBudget ..
  · exact .of_rest rfl rfl rfl rfl rfl rfl
  · rename_i n
    exact State.calm_modNode (foldl_inv (Node.Alike (s.node n)) Node.takes
      (fun _ x h => h.trans (Node.alike_takes _ x)) vs _ (.refl _))
  · exact (s.calm_modArbiter ..).trans ((State.calm_rearmWindow ..).trans (State.calm_beginSelection ..))
  · exact (s.calm_modArbiter ..).trans (State.calm_beginSelection ..)
  · exact .foldl (State.calm_monitorTakes _) vs s
  · exact s.calm_modService _ (foldl_keeps SpanService.slots _ SpanService.takes_slots vs _)

end

end Sys2Proof.Machine
end

section
/-! PROOFS. Orderly changes: what each operation keeps of the three invariants of this family. -/

namespace Sys2Proof.Machine

open Host (Outcome)

/-- From `s`, where node `a`'s command is still to be answered, to `t`, where node `b`'s is: the places of the event FIFOs,
the places of the pieces, and depths and scrub lists are kept. -/
structure Orderly (a b : Option NodeId) (s t : State) : Prop where
  exchange : s.exchangeDue a → t.exchangeDue b
  pieces : s.PiecesBut none [] → t.PiecesBut none []
  depth : s.PiecesBut none [] → s.Deep none → t.Deep none

section

variable {a b c : Option NodeId} {s t u : State} {n : NodeId}

theorem Orderly.refl (a : Option NodeId) (s : State) : Orderly a a s s := ⟨id, id, fun _ => id⟩

theorem Orderly.trans (h : Orderly a b s t) (h' : Orderly b c t u) : Orderly a c s u :=
  ⟨fun hs => h'.exchange (h.exchange hs), fun hs => h'.pieces (h.pieces hs),
    fun hp hd => h'.depth (h.pieces hp) (h.depth hp hd)⟩

theorem Orderly.ite {p : Prop} [Decidable p] (ht : Orderly a b s t) (hu : Orderly a b s u) :
    Orderly a b s (if p then t else u) := by
  split <;> assumption

theorem Orderly.foldl {α : Type} {f : State → α → State} (h : ∀ (s : State) (x : α), Orderly a a s (f s x)) (l : List α)
    (s : State) : Orderly a a s (l.foldl f s) := by
  induction l generalizing s with
  | nil => exact .refl a s
  | cons x r ih => exact (h s x).trans (ih _)

theorem State.Calm.orderly (h : s.Calm t) : Orderly a a s t where
  exchange hs := hs.of_ports h.ports h.frames
  pieces hs := hs.congr h.frames h.pieces h.toSamePlaces
  depth _ hd := hd.congr h.frames h.pieces (h.streams hd.ordered)

/-! ## Answers -/

/-- An answer against the reservation of the command taken. -/
theorem orderly_answer (s : State) (n : NodeId) (tag : EventTag) (c : Nat) (body : List Field) :
    Orderly (some n) none s (s.modNode n fun nd => nd.answer s.time tag c body) where
  exchange hs := hs.answer tag c body
  pieces hs := hs.congr rfl rfl (.of_spans rfl rfl)
  depth _ hd := hd.congr rfl rfl (.of_eq rfl)

theorem orderly_result (s : State) (n : NodeId) (c : Nat) (st : ResultStatus) (body : List Field) :
    Orderly (some n) none s (s.result n c st body) := orderly_answer ..

theorem orderly_frameDone (s : State) (n : NodeId) (st : FrameStatus) (body : List Field) :
    Orderly (some n) none s (s.frameDone n st body) := orderly_answer ..

theorem State.Calm.answered (h : s.Calm t) (n : NodeId) (c : Nat) (st : ResultStatus) (body : List Field) :
    Orderly (some n) none s (t.result n c st body) := h.orderly.trans (orderly_result ..)

/-! ## The Frame Table -/

theorem orderly_takeOutcome {p : Nat} (h : s.PiecesBut none [] → u.PiecesBut none [p]) (hc : s.exchangeDue a → u.exchangeDue a)
    (hd : s.Deep none → u.Deep none) (o : PieceOutcome) : Orderly a a s (u.takeOutcome p o) where
  exchange hs := (hc hs).takeOutcome p o
  pieces hs := (h hs).takeOutcome o
  depth _ hs := (hd hs).takeOutcome p o

theorem orderly_withdrawFrame (r : CancelReason) (s : State) (i : Nat) : Orderly a a s (State.withdrawFrame r s i) where
  exchange hs := hs.withdrawFrame r i
  pieces hs := hs.withdrawFrame r i
  depth _ hd := hd.withdrawFrame r i

theorem orderly_cancelStream (s : State) (i : StreamId) : Orderly a a s (s.cancelStream i) :=
  .foldl (orderly_withdrawFrame _) _ s

theorem orderly_releaseFrame (s : State) (i : Nat) : Orderly a a s (s.releaseFrame i) where
  exchange hs := hs.releaseFrame i
  pieces hs := hs.releaseFrame i
  depth _ hd := hd.releaseFrame i

theorem orderly_loseQueue (s : State) (j : SpanId) : Orderly a a s (s.loseQueue j) where
  exchange hs := hs.loseQueue j
  pieces hs := hs.loseQueue j
  depth _ hd := hd.loseQueue j

theorem orderly_takeLate (s : State) (l : LateFrame) : Orderly a a s (s.takeLate l) := by
  unfold State.takeLate
  split
  · exact .refl a s
  · refine .ite ?_ (.refl a s)
    split
    · exact .refl a s
    · exact .ite (orderly_withdrawFrame ..) (.refl a s)

/-- A read accepted for its stream's owner, in a stream that has room by then (R55, R75). -/
theorem orderly_acceptRead {rec : List Byte} {st : Stream} {kind : FrameKind} {deadline : Option Time}
    (hu : Orderly (some n) (some n) s u) (ha : (u.node n).state = .attached) (hcount : recExtentCount rec = st.spans.length)
    (hkind : kind = .scrub → deadline = none)
    (hroom : s.Deep none → ∀ cur, u.streams.get (recStream rec).handle.toNat = some cur → cur.outstanding < cur.depth) :
    Orderly (some n) none s (u.acceptRead n rec st kind deadline) where
  exchange hs := (hu.exchange hs).acceptRead ha rec st kind deadline
  pieces hs := (hu.pieces hs).acceptRead hcount hkind
  depth hp hd := (hu.depth hp hd).acceptRead (hu.pieces hp) hcount hkind (hroom hd)

theorem orderly_count (s : State) (k : Handle) (status : FrameStatus) (late : Bool) (st : FrameStatus)
    (body : List Field) : Orderly (some n) none s ((s.modStream k fun st => st.count status late).frameDone n st body) :=
  (s.calm_modStream k fun st => st.tamer_count status late).orderly.trans (orderly_frameDone ..)

theorem orderly_readFrame (s : State) (n : NodeId) (rec : List Byte) : Orderly (some n) none s (s.readFrame n rec) := by
  unfold State.readFrame
  split
  · exact orderly_frameDone ..
  · rename_i st victim hv
    obtain ⟨hst, ha, hcount, hroom⟩ := readChecks_pass hv
    have hfits (hlow : st.outstanding < st.depth) (cur : Stream)
        (hcur : s.streams.get (recStream rec).handle.toNat = some cur) : cur.outstanding < cur.depth := by
      rw [hst] at hcur
      cases hcur
      exact hlow
    extract_lets timing
    rcases hroom with ⟨rfl, hlow⟩ | ⟨v, rfl, hstate, hhead⟩
    · split
      · rename_i d hd
        refine .ite (orderly_count ..) (orderly_acceptRead (.refl _ s) ha hcount (fun hs => ?_) fun _ => hfits hlow)
        rw [← hd]
        exact st.timing_scrub _ hs
      · exact orderly_acceptRead (.refl _ s) ha hcount (fun _ => rfl) fun _ => hfits hlow
    · have htiming : timing = (.scrub, none) := timing_of_scrubbing hstate _
      rw [htiming]
      refine .ite (orderly_acceptRead (orderly_withdrawFrame ..) ?_ hcount (fun _ => rfl) fun hd => ?_) (orderly_count ..)
      · rw [State.withdrawFrame_node_state, ha]
      · exact hd.room_after_supersession hst (List.mem_of_mem_head? hhead)

/-! ## Dispatch and slots -/

theorem State.putInService_nodes (s : State) (j : SpanId) (k : SlotId) (p : Nat) (pc : Piece) :
    (s.putInService j k p pc).nodes = s.nodes ∧ (s.putInService j k p pc).frames = s.frames := by
  unfold State.putInService
  dsimp only
  split <;> exact ⟨rfl, rfl⟩

theorem State.dispatchOne_nodes {j : SpanId} {x : Choice} (ht : s.dispatchOne j x = some t) :
    t.nodes = s.nodes ∧ t.frames = s.frames := by
  unfold State.dispatchOne at ht
  split at ht
  · cases ht
    obtain ⟨hn, hf⟩ := State.putInService_nodes ((s.unlist j x.piece).modArbiter j fun a => a.moved x) j ‹_› x.piece ‹_›
    exact ⟨hn.trans (by simp), hf.trans (by simp)⟩
  · cases ht

theorem orderly_dispatchOne {j : SpanId} {x : Choice} (hx : s.choose j = some x) (ht : s.dispatchOne j x = some t) :
    Orderly a a s t where
  exchange hs := hs.of_ports (.of_nodes (State.dispatchOne_nodes ht).1) (State.dispatchOne_nodes ht).2
  pieces hs := hs.dispatchOne hx ht
  depth _ hd := hd.dispatchOne ht

/-- Slots that give their pieces to outcomes on their way. -/
theorem orderly_letGo {j : SpanId} {g : SpanService → SpanService} {rs : List Report}
    (hmove : (s.span j).service.busyPieces.Perm (rs.filterMap Report.piece ++ (g (s.span j).service).busyPieces)) :
    Orderly a a s ((s.modService j g).postAll rs) where
  exchange hs := hs.of_ports (.of_nodes rfl) rfl
  pieces hs := hs.letGo hmove
  depth _ hd := hd.congr rfl rfl (.of_eq rfl)

theorem orderly_loseSlots {j : SpanId} {g : SpanService → SpanService} (o : PieceOutcome)
    (hg : (g (s.span j).service).slots = (s.span j).service.loseSlots.slots) : Orderly a a s
      ((s.modService j g).postAll ((s.span j).service.busyPieces.map fun p => .outcome p o)) where
  exchange hs := hs.of_ports (.of_nodes rfl) rfl
  pieces hs := hs.loseSlots o hg
  depth _ hd := hd.congr rfl rfl (.of_eq rfl)

theorem orderly_holdExpires (s : State) (j : SpanId) : Orderly a a s (s.holdExpires j) :=
  ((s.calm_modService j rfl).orderly.trans (orderly_loseQueue ..)).trans (State.calm_spanNotice ..).orderly

theorem orderly_leaveUp (s : State) (j : SpanId) (cause : LinkDownCause) : Orderly a a s (s.leaveUp j cause) := by
  unfold State.leaveUp
  extract_lets v lost expiry posted served stopped told
  have hserved : Orderly a a s served := orderly_loseSlots (g := fun v =>
    { v.loseSlots.train posted.time 1 with relinkExpiry := some expiry }) .spanLost rfl
  have htold : Orderly a a s told := hserved.trans
    (((served.calm_modArbiter ..).trans (State.calm_reportLink ..)).trans (State.calm_spanNotice ..)).orderly
  exact .ite (htold.trans (orderly_holdExpires ..)) htold

theorem orderly_becomeAbsent (s : State) (j : SpanId) : Orderly a a s (s.becomeAbsent j) := by
  unfold State.becomeAbsent
  extract_lets lost q posted served stopped told
  have hserved : Orderly a a s served :=
    orderly_loseSlots (g := fun v => { v.loseSlots with link := .absent, relinkExpiry := none }) .spanLost rfl
  exact hserved.trans
    (((served.calm_modArbiter ..).trans (stopped.calm_postAll rfl)).trans (State.calm_spanNotice ..)).orderly

theorem orderly_resetLink (s : State) (j : SpanId) : Orderly a a s (s.resetLink j) := by
  unfold State.resetLink
  split
  · exact orderly_leaveUp ..
  · exact (s.calm_modService j rfl).orderly
  · exact ((s.calm_modService j rfl).trans (State.calm_reportLink ..)).orderly
  · exact .refl a s

/-! ## Streams -/

theorem orderly_stopStream (s : State) (n : NodeId) (code : Nat) (i : StreamId) (st : Stream) (z : Bool) :
    Orderly (some n) none s (s.stopStream n code i st z) :=
  .ite (((s.calm_modStream _ fun st => st.tamer_still .stopped).answered ..).trans (orderly_cancelStream ..))
    (orderly_result ..)

/-- A stream opened: none of its frames is outstanding (R9). -/
theorem State.Deep.opened (h : s.Deep none) {st : Stream} (hd : 1 ≤ st.depth) (ho : st.outstanding = 0)
    (hl : st.scrubList = []) (k : Nat) : ({ s with streams := s.streams.put k st } : State).Deep none := by
  have hget (m : Nat) : ({ s with streams := s.streams.put k st } : State).streams.get m =
      if m = k then some st else s.streams.get m := Pool.get_put ..
  refine ⟨h.toRefsBut.congr rfl rfl, Pool.sorted_put h.ordered k st, fun m st' hm => ?_, fun m st' hm => ?_⟩ <;>
    rw [hget] at hm <;> split at hm
  · cases hm
    omega
  · exact h.within m st' hm
  · cases hm
    rw [hl]
    exact ⟨List.nodup_nil, nofun⟩
  · exact h.scrubs m st' hm

theorem one_le_clamp (v : Nat) : 1 ≤ clamp 1 16 v := by
  unfold clamp
  split
  · exact Nat.le_refl 1
  · split <;> omega

theorem orderly_tryOpen (s : State) (n : NodeId) (x : OpenArgs) : Orderly (some n) none s (s.tryOpen n x) := by
  unfold State.tryOpen
  split
  · exact orderly_result ..
  · extract_lets es
    split
    · exact orderly_result ..
    · rename_i k h st committed opened _ _
      refine .ite (Orderly.trans (t := opened) ?_ (orderly_result ..)) (orderly_result ..)
      have hcommitted : s.Calm committed := .foldl State.calm_commit es s
      refine hcommitted.orderly.trans ⟨fun hs => hs.of_ports (.of_nodes rfl) rfl, fun hs => hs.congr rfl rfl (.of_spans rfl rfl),
        fun _ hd => hd.opened (one_le_clamp _) rfl rfl k⟩

/-! ## Nodes that leave and resets -/

theorem State.unanswered_modNode {f : Node → Node} (h : (f (s.node n)).epoch = (s.node n).epoch) (m : NodeId) :
    (s.modNode n f).unanswered m = s.unanswered m := by
  have hepoch : ((s.modNode n f).node m).epoch = (s.node m).epoch := by
    rw [State.node_modNode]
    split
    · rename_i e
      rw [e, h]
    · rfl
  rw [State.unanswered, State.unanswered, hepoch, State.modNode_frames]

/-- A node loses its FIFOs and every reservation as it is lost (R155). -/
theorem State.exchangeDue.lose (h : s.exchangeDue none) (n : NodeId) : (s.modNode n Node.lose).exchangeDue none := by
  obtain ⟨hsort, hnode⟩ := h
  refine ⟨hsort, fun m => ?_⟩
  obtain ⟨hcmd, htot, hres⟩ := hnode m
  rw [State.unanswered_modNode rfl, State.node_modNode]
  split
  · exact ⟨Nat.zero_le _, Nat.zero_le _, rfl⟩
  · exact ⟨hcmd, htot, hres⟩

/-- A node that detaches gives up the places of its unanswered reads (R157). -/
theorem State.exchangeDue.detached (h : s.exchangeDue (some n)) (ha : (s.node n).state = .attached) :
    (s.modNode n fun nd => nd.detached (s.unanswered n)).exchangeDue (some n) := by
  obtain ⟨hsort, hnode⟩ := h
  refine ⟨hsort, fun m => ?_⟩
  obtain ⟨hcmd, htot, hres⟩ := hnode m
  rw [State.unanswered_modNode rfl, State.node_modNode]
  split
  · rename_i hm
    subst hm
    rw [if_pos rfl, if_pos ha] at hres
    refine ⟨hcmd, ?_, ?_⟩
    · simp only [Node.total, Node.detached] at htot ⊢
      omega
    · simp only [Node.detached, reduceCtorEq, if_false, if_true]
      omega
  · exact ⟨hcmd, htot, hres⟩

/-- A change of node ports alone. -/
theorem orderly_ports {f : Node → Node} (h : s.exchangeDue a → (s.modNode n f).exchangeDue b) :
    Orderly a b s (s.modNode n f) :=
  ⟨h, fun h => h.congr rfl rfl (.of_spans rfl rfl), fun _ h => h.congr rfl rfl (.of_eq rfl)⟩

theorem orderly_loseNode (s : State) (n : NodeId) (cause : LossCause) : Orderly none none s (s.loseNode n cause) := by
  unfold State.loseNode
  extract_lets hs held lost released told noticed
  have hlost : Orderly none none s lost := orderly_ports fun h => h.lose n
  have hreleased : lost.Calm released :=
    (lost.calm_leaveStreams n (g := fun st => st.orphan lost.time lost.orphanGrace) fun st =>
      ⟨rfl, Nat.le_refl _, List.nil_sublist _⟩).trans (State.calm_releaseClaim ..)
  have hnoticed : lost.Calm noticed := ((hreleased.trans (State.calm_notifyAll ..)).trans (told.calm_noticeClaim ..)).trans
    (.foldl (State.calm_noticeOrphaned n) _ _)
  exact hlost.trans ((hnoticed.trans (noticed.calm_oweCancels ..)).trans (State.calm_zeroGrace ..)).orderly

theorem orderly_detach (s : State) (n : NodeId) (handover : Bool) (ha : (s.node n).state = .attached) :
    Orderly (some n) none s (s.detach n handover) := by
  unfold State.detach
  extract_lets hs held reads orphaned closed gone left told claim noticed answered owed
  have hgone : Orderly (some n) (some n) s gone := orderly_ports fun h => h.detached ha
  have hleft : gone.Calm left := by
    refine (gone.calm_leaveStreams n fun st => ?_).trans (State.calm_releaseClaim ..)
    split <;> exact ⟨rfl, Nat.le_refl _, List.nil_sublist _⟩
  have hclaim : gone.Calm claim := (hleft.trans (State.calm_notifyAll ..)).trans (told.calm_noticeClaim ..)
  have hnoticed : gone.Calm noticed := .ite (hclaim.trans (.foldl (State.calm_noticeOrphaned n) _ _)) hclaim
  have howed : Orderly (some n) none s owed :=
    (hgone.trans (hnoticed.answered ..)).trans (answered.calm_oweCancels ..).orderly
  exact .ite (howed.trans (owed.calm_zeroGrace hs).orderly) howed

/-! ## Nothing at work -/

/-- A state without frames, pieces, streams, records and reservations (R192). -/
structure State.Idle (s : State) : Prop where
  frames : s.frames = []
  pieces : s.pieces = []
  streams : s.streams = []
  ports : ∀ n, (s.node n).commands = [] ∧ (s.node n).events = [] ∧ (s.node n).reserved = 0
  queued : ∀ j, s.queued j = []
  busy : ∀ j, (s.span j).service.busyPieces = []
  coming : s.outcomesInFlight = []

theorem State.Idle.orderly (h : t.Idle) : Orderly a none s t := by
  obtain ⟨hf, hp, hst, hports, hq, hb, hc⟩ := h
  have hrefs : t.RefsBut none := by
    refine ⟨?_, ?_, ?_, ?_, ?_⟩ <;> simp [hf, hp, Pool.sorted, Pool.keys]
  refine ⟨fun _ => ⟨hrefs.frames, fun n => ?_⟩, fun _ => ?_, fun _ _ => ⟨hrefs, ?_, ?_, ?_⟩⟩
  · obtain ⟨hcmd, hev, hres⟩ := hports n
    have hnone : t.unanswered n = 0 := by
      rw [State.unanswered, hf]
      rfl
    simp [hcmd, hev, hres, hnone, Node.total]
  · have hlists (j : SpanId) : (t.span j).queue.deadlines = [] ∧ (t.span j).queue.background = [] :=
      List.append_eq_nil_iff.1 (hq j)
    constructor <;> simp [hrefs, hp, hq, hb, hc, fun j => (hlists j).1, fun j => (hlists j).2]
  all_goals simp [hst, Pool.sorted, Pool.keys]

theorem SpanState.busyPieces_atReset (now : Time) (presence : Bool) {slots : Vector Slot 8} (sent : List SpanMessage)
    (p : PartParams) (q : SpanParams) (h : ∀ k : SlotId, slots[k].state = .free) :
    (SpanState.atReset now presence slots sent p q).service.busyPieces = [] :=
  List.filterMap_eq_nil_iff.2 fun k _ => Slot.piece_of_free (h k)

theorem orderly_warmReset (s : State) (kind : ResetKind) : Orderly a none s (s.warmReset kind) := by
  have hnode (n : NodeId) : (s.warmReset kind).node n = (s.node n).warm s.config.part := bank4_get ..
  have hspan (j : SpanId) : (s.warmReset kind).span j = (s.span j).warm s.time s.config.part s.config.spans[j] :=
    bank8_get ..
  refine State.Idle.orderly ⟨rfl, rfl, rfl, fun n => ?_, fun j => ?_, fun j => ?_, ?_⟩
  · rw [hnode]
    exact ⟨rfl, rfl, rfl⟩
  · rw [State.queued, hspan]
    rfl
  · rw [hspan]
    refine SpanState.busyPieces_atReset _ _ _ _ _ fun k => ?_
    rw [bank8_get]
    rfl
  · rw [State.outcomesInFlight_eq]
    refine List.filterMap_eq_nil_iff.2 fun r hr => ?_
    have hsurvives := (List.mem_filter.1 hr).2
    cases r with
    | outcome p o => cases hsurvives
    | _ => rfl

theorem orderly_powerOn (s : State) (presence : Vector Bool 8) (linkUp : Vector Bool 4) (pending : List Instr) :
    Orderly a none s { State.cold presence linkUp with pending := pending } := by
  have hnode (n : NodeId) : (State.cold presence linkUp).node n = Node.cold linkUp[n] := bank4_get ..
  have hspan (j : SpanId) : (State.cold presence linkUp).span j = SpanState.cold presence[j] := bank8_get ..
  refine State.Idle.orderly ⟨rfl, rfl, rfl, fun n => ?_, fun j => ?_, fun j => ?_, rfl⟩
  · change ((State.cold presence linkUp).node n).commands = [] ∧ ((State.cold presence linkUp).node n).events = [] ∧
      ((State.cold presence linkUp).node n).reserved = 0
    rw [hnode]
    exact ⟨rfl, rfl, rfl⟩
  · change (State.cold presence linkUp).queued j = []
    rw [State.queued, hspan]
    rfl
  · change ((State.cold presence linkUp).span j).service.busyPieces = []
    rw [hspan]
    refine SpanState.busyPieces_atReset _ _ _ _ _ fun k => ?_
    rw [bank8_get]
    rfl

end

end Sys2Proof.Machine
end

section
/-! PROOFS. Every row but ATTACH keeps the three invariants of this family. -/

namespace Sys2Proof.Machine

open Host (Outcome)

/-- An event that takes its state to one in which the three invariants are kept. -/
def KeepsOrder (s : State) (o : Outcome State Fault Refusal) : Prop := ∀ t, o = .next t → Orderly none none s t

section

variable {s t u : State} {n : NodeId} {code : Nat}

theorem KeepsOrder.next (h : Orderly none none s t) : KeepsOrder s (.next t) := fun _ e => by
  cases e
  exact h

theorem KeepsOrder.stay (s : State) : KeepsOrder s (.next s) := .next (.refl none s)

theorem KeepsOrder.calm (h : s.Calm t) : KeepsOrder s (.next t) := .next h.orderly

theorem KeepsOrder.stay_or {c : Prop} [Decidable c] (h : Orderly none none s t) :
    KeepsOrder s (if c then .next t else .next s) := by
  split
  · exact .next h
  · exact .stay s

/-! ## Reports and commands taken -/

theorem Report.piece_of_channel {channel : Report → Bool} (hc : ∀ p o, channel (.outcome p o) = false) {r : Report}
    (hr : channel r = true) : r.piece = none := by
  cases r with
  | outcome p o => exact absurd hr (by rw [hc]; nofun)
  | _ => rfl

theorem withReport_order {channel : Report → Bool} {act : Report → State → Option State}
    (hc : ∀ p o, channel (.outcome p o) = false) (h : ∀ r u t, act r u = some t → Orderly none none u t) :
    KeepsOrder s (withReport s channel act) := fun t ht => by
  rcases withReport_cases ht with rfl | ⟨r, before, after, ⟨hr, hch, -⟩, ht⟩
  · exact .refl none t
  · exact (s.calm_collect hr (Report.piece_of_channel hc hch)).orderly.trans (h r _ t ht)

/-- The same for an event whose action always goes on. -/
theorem withReport_some_order {channel : Report → Bool} {f : Report → State → State}
    (hc : ∀ p o, channel (.outcome p o) = false) (h : ∀ r u, Orderly none none u (f r u)) :
    KeepsOrder s (withReport s channel fun r u => some (f r u)) :=
  withReport_order hc fun r u t e => by
    cases e
    exact h r u

theorem orderly_taken {rec : List Byte} {rest : List (List Byte)} (h : (s.node n).commands = rec :: rest) :
    Orderly none (some n) s (s.taken n rest) := orderly_ports fun hs => hs.taken h

theorem withCommand_order {act : List Byte → State → State} (h : ∀ rec u, Orderly (some n) none u (act rec u)) :
    KeepsOrder s (withCommand n code s act) := fun t ht => by
  rcases withCommand_cases ht with rfl | ⟨rec, rest, ⟨hc, -⟩, rfl⟩
  · exact .refl none t
  · exact (orderly_taken hc).trans (h rec _)

theorem withAttached_order {act : List Byte → State → State}
    (h : ∀ rec u, (u.node n).state = .attached → Orderly (some n) none u (act rec u)) :
    KeepsOrder s (withAttached n code s act) := withCommand_order fun rec u => by
  split
  · exact h rec u ‹_›
  · exact orderly_result ..

theorem withClaim_order {act : List Byte → State → State} (h : ∀ rec u, Orderly (some n) none u (act rec u)) :
    KeepsOrder s (withClaim n code s act) := withAttached_order fun rec u _ => .ite (h rec u) (orderly_result ..)

theorem withOwned_order {i : StreamId} {act : Stream → State → State} (h : ∀ st, Orderly (some n) none s (act st s)) :
    Orderly (some n) none s (s.withOwned n code i act) := by
  unfold State.withOwned
  split
  · exact orderly_result ..
  · exact .ite (h _) (orderly_result ..)

/-! ## The windows of a port -/

theorem Node.alike_announce (nd : Node) (now : Time) : nd.Alike (nd.announce now) := by
  unfold Node.announce
  split
  · exact .refl nd
  · split
    · rename_i h
      obtain ⟨-, hroom⟩ := h
      refine ⟨by simp, by simp, by simp, by simp, fun _ => ?_⟩
      simp only [Node.total, Node.write_events, Node.write_reserved, List.length_append, List.length_singleton] at hroom ⊢
      omega
    · exact .refl nd

theorem Node.alike_eventRead (nd : Node) (now : Time) (len : Nat) : nd.Alike (nd.eventRead now len) := by
  unfold Node.eventRead
  split
  · exact .of_same rfl rfl rfl rfl rfl
  · rename_i e rest hev
    refine Node.Alike.trans ?_ (Node.alike_announce _ now)
    refine ⟨rfl, rfl, rfl, rfl, fun h => ?_⟩
    simp only [Node.total, hev, List.length_cons] at h ⊢
    omega

/-- A command written into its window keeps its place from the start (R166). -/
theorem State.exchangeDue.commandWrite (h : s.exchangeDue none) (n : NodeId) (bytes : List Byte) :
    (s.modNode n fun nd => nd.commandWrite bytes).exchangeDue none := by
  obtain ⟨hsort, hnode⟩ := h
  refine ⟨hsort, fun m => ?_⟩
  obtain ⟨hcmd, htot, hres⟩ := hnode m
  rw [State.unanswered_modNode (Node.commandWrite_epoch ..), State.node_modNode]
  split
  · rename_i hm
    subst hm
    unfold Node.commandWrite
    split
    · exact ⟨hcmd, htot, hres⟩
    · rename_i hrefused
      rw [not_or, Bool.not_eq_true, Node.entryRefused, Bool.or_eq_false_iff] at hrefused
      obtain ⟨-, hfull, hplaces⟩ := hrefused
      have hfull := of_decide_eq_false hfull
      have hplaces := of_decide_eq_false hplaces
      simp only [Node.total, List.length_append, List.length_singleton] at hplaces ⊢
      exact ⟨by omega, by omega, by omega⟩
  · exact ⟨hcmd, htot, hres⟩

theorem windowAccess_order {f : Node → Node} (s : State) (h : ∀ nd : Node, nd.Alike (f nd)) :
    KeepsOrder s (if (s.node n).linkUp then .next (s.modNode n f) else .next s) :=
  .stay_or (State.calm_modNode (h _)).orderly

/-! ## The rows of the streams and the nodes -/

theorem unknownCommand_order (n : NodeId) (s : State) : KeepsOrder s (execUnknownCommand n s) := by
  unfold execUnknownCommand
  split
  · exact .stay s
  · rename_i rec rest hc
    exact .stay_or ((orderly_taken hc).trans (orderly_result ..))

theorem Node.alike_clearFlags (nd : Node) : nd.Alike nd.clearFlags := .of_same rfl rfl rfl rfl rfl

theorem clearNodeFlags_order (n : NodeId) (s : State) : KeepsOrder s (execClearNodeFlags n s) :=
  withAttached_order fun _ _ _ => (State.calm_modNode (Node.alike_clearFlags _)).answered ..

theorem queryPart_order (n : NodeId) (s : State) : KeepsOrder s (execQueryPart n s) :=
  withCommand_order fun _ _ => orderly_result ..

theorem detach_order (n : NodeId) (s : State) : KeepsOrder s (execDetach n s) :=
  withAttached_order fun _ _ hn => orderly_detach _ _ _ hn

theorem openStream_order (n : NodeId) (s : State) : KeepsOrder s (execOpenStream n s) :=
  withAttached_order fun _ _ _ => orderly_tryOpen ..

theorem stop_order (n : NodeId) (s : State) : KeepsOrder s (execStop n s) :=
  withAttached_order fun _ _ _ => withOwned_order fun _ => orderly_stopStream ..

theorem frameRead_order (n : NodeId) (s : State) : KeepsOrder s (execFrameRead n s) :=
  withCommand_order fun _ _ => orderly_readFrame ..

theorem configEnd_order (n : NodeId) (s : State) : KeepsOrder s (execConfigEnd n s) :=
  withClaim_order fun _ u => (u.calm_modConfig ..).answered ..

theorem partReset_order (n : NodeId) (s : State) : KeepsOrder s (execPartReset n s) :=
  withClaim_order fun _ _ => orderly_warmReset ..

theorem heartbeat_order (n : NodeId) (s : State) : KeepsOrder s (execHeartbeat n s) := by
  refine withAttached_order fun _ u _ => ?_
  split
  · exact orderly_result ..
  · exact .ite ((State.calm_modNode (.of_same rfl rfl rfl rfl rfl)).answered ..)
      ((State.calm_modNode (.of_same rfl rfl rfl rfl rfl)).answered ..)

theorem closeStream_order (n : NodeId) (s : State) : KeepsOrder s (execCloseStream n s) :=
  withAttached_order fun _ u _ => withOwned_order fun _ => .ite (orderly_result ..)
    (((u.calm_modStream _ fun st => st.tamer_still .closing).answered ..).trans (orderly_cancelStream ..))

theorem adopt_order (n : NodeId) (s : State) : KeepsOrder s (execAdopt n s) := by
  refine withAttached_order fun rec u _ => ?_
  extract_lets i
  split
  · exact orderly_result ..
  · exact .ite (((u.calm_modStream _ fun st => Stream.tamer_of_same (st' := st.adoptedBy n) rfl rfl rfl).answered ..).trans
      (State.calm_notifyAll ..).orderly) (orderly_result ..)

theorem queryStream_order (n : NodeId) (s : State) : KeepsOrder s (execQueryStream n s) := by
  refine withAttached_order fun rec u _ => ?_
  split <;> exact orderly_result ..

theorem State.calm_play (s : State) (k : Handle) (x : Anchor) :
    s.Calm (s.modStream k fun st => { st.still .playing with anchor := some x }) :=
  s.calm_modStream k fun st => (st.tamer_still .playing).trans (Stream.tamer_of_same rfl rfl rfl)

theorem play_order (n : NodeId) (s : State) : KeepsOrder s (execPlay n s) :=
  withAttached_order fun _ u _ => withOwned_order fun _ =>
    .ite (orderly_stopStream ..) (.ite (orderly_result ..) (.ite (orderly_result ..)
      (((State.calm_play u _ _).answered ..).trans (orderly_cancelStream ..))))

theorem scrub_order (n : NodeId) (s : State) : KeepsOrder s (execScrub n s) :=
  withAttached_order fun _ u _ => withOwned_order fun _ =>
    .ite (((u.calm_modStream _ fun st => st.tamer_still .scrubbing).answered ..).trans (orderly_cancelStream ..))
      (orderly_result ..)

theorem querySpan_order (n : NodeId) (s : State) : KeepsOrder s (execQuerySpan n s) := by
  refine withAttached_order fun rec u _ => ?_
  split <;> exact orderly_result ..

theorem clearTrip_order (n : NodeId) (s : State) : KeepsOrder s (execClearTrip n s) := by
  refine withClaim_order fun rec u => ?_
  split
  · exact orderly_result ..
  · exact .ite (orderly_result ..) (.ite (orderly_result ..)
      ((((u.calm_modMonitor ..).trans (State.calm_handOn ..)).answered ..).trans (State.calm_healthNotice ..).orderly))

theorem ackSpanStatus_order (n : NodeId) (s : State) : KeepsOrder s (execAckSpanStatus n s) := by
  refine withAttached_order fun rec u _ => ?_
  split
  · exact orderly_result ..
  · exact (u.calm_modMonitor ..).answered ..

theorem linkReset_order (n : NodeId) (s : State) : KeepsOrder s (execLinkReset n s) := by
  refine withClaim_order fun rec u => ?_
  split
  · exact orderly_result ..
  · exact .ite (orderly_result ..) ((orderly_result ..).trans (orderly_resetLink ..))

theorem configBegin_order (n : NodeId) (s : State) : KeepsOrder s (execConfigBegin n s) := by
  refine withAttached_order fun rec u _ => ?_
  split
  · exact (u.calm_modConfig ..).answered ..
  · exact .ite (orderly_result ..) (orderly_result ..)

theorem partReports_piece (number : Nat) (values : List (Nat × Nat)) :
    (partReports number values).filterMap Report.piece = [] := by
  unfold partReports
  split <;> rfl

theorem spanReports_piece (j : SpanId) (after : SpanParams) (number : Nat) (values : List (Nat × Nat)) :
    (spanReports j after number values).filterMap Report.piece = [] := by
  unfold spanReports
  split <;> rfl

theorem configSet_order (n : NodeId) (s : State) : KeepsOrder s (execConfigSet n s) := by
  refine withClaim_order fun rec u => ?_
  split
  · exact orderly_result ..
  · exact ((u.calm_modConfig ..).answered ..).trans (State.calm_postAll _ (partReports_piece ..)).orderly
  · exact ((u.calm_modConfig ..).answered ..).trans (State.calm_postAll _ (spanReports_piece ..)).orderly

theorem configGet_order (n : NodeId) (s : State) : KeepsOrder s (execConfigGet n s) := by
  refine withAttached_order fun rec u _ => ?_
  extract_lets named
  split <;> exact orderly_result ..

theorem heartbeatTimerExpiry_order (n : NodeId) (s : State) : KeepsOrder s (execHeartbeatTimerExpiry n s) := by
  unfold execHeartbeatTimerExpiry
  split
  · exact .stay s
  · exact .stay_or (orderly_loseNode ..)

theorem pcieLinkDown_order (n : NodeId) (s : State) : KeepsOrder s (execPcieLinkDown n s) := by
  have down : s.Calm (s.modNode n fun nd => { nd with linkUp := false }) := State.calm_modNode (.of_same rfl rfl rfl rfl rfl)
  unfold execPcieLinkDown
  extract_lets u
  split
  · exact .next (down.orderly.trans (orderly_loseNode ..))
  · exact .calm down

theorem pcieLinkUp_order (n : NodeId) (s : State) : KeepsOrder s (execPcieLinkUp n s) := by
  unfold execPcieLinkUp
  split
  · exact .stay s
  · exact .calm (State.calm_modNode (.of_same rfl rfl rfl rfl rfl))

theorem orphanTimerExpiry_order (h : Handle) (s : State) : KeepsOrder s (execOrphanTimerExpiry h s) := by
  unfold execOrphanTimerExpiry
  split
  · exact .stay s
  · split
    · exact .stay s
    · exact .stay_or (State.calm_orphanExpires ..).orderly

theorem drainEnd_order (h : Handle) (s : State) : KeepsOrder s (execDrainEnd h s) := by
  unfold execDrainEnd
  split
  · exact .stay s
  · exact .stay_or (State.calm_freeStream ..).orderly

/-! ## The rows of the queues and the spans -/

theorem State.lateReportOf_piece {j : SpanId} {p : Nat} {r : Report} (h : s.lateReportOf j p = some r) : r.piece = none := by
  unfold State.lateReportOf at h
  split at h
  · cases h
  · obtain ⟨f, -, rfl⟩ := Option.map_eq_some_iff.1 h
    rfl

theorem deadlineExpiry_order (j : SpanId) (s : State) : KeepsOrder s (execDeadlineExpiry j s) := by
  unfold execDeadlineExpiry
  split
  · exact .stay s
  · refine .stay_or ((s.calm_postAll (List.filterMap_eq_nil_iff.2 fun r hr => ?_)).trans
      (State.calm_rearmDeadline ..)).orderly
    obtain ⟨p, -, hp⟩ := List.mem_filterMap.1 hr
    exact State.lateReportOf_piece hp

theorem windowOpeningExpiry_order (j : SpanId) (s : State) : KeepsOrder s (execWindowOpeningExpiry j s) := by
  unfold execWindowOpeningExpiry
  split
  · exact .stay s
  · exact .stay_or ((s.calm_modQueue j rfl rfl).trans (State.calm_post _ rfl)).orderly

theorem settleTimerExpiry_order (h : Handle) (s : State) : KeepsOrder s (execSettleTimerExpiry h s) := by
  unfold execSettleTimerExpiry
  split
  · exact .stay s
  · split
    · exact .stay s
    · have stopped : s.Calm (s.modStream h fun st => { st with settleExpiry := none }) :=
        s.calm_modStream h fun _ => Stream.tamer_of_same rfl rfl rfl
      exact .stay_or (stopped.orderly.trans (.foldl orderly_releaseFrame _ _))

theorem dispatch_order (j : SpanId) (s : State) : KeepsOrder s (execDispatch j s) := by
  have ended : KeepsOrder s (.next (s.endSelection j)) := .calm (s.calm_modArbiter ..)
  unfold execDispatch
  split
  · exact .stay s
  · split
    · split
      · exact ended
      · rename_i hc
        split
        · exact ended
        · rename_i ht
          exact .next (orderly_dispatchOne hc ht)
    · exact ended

/-- A slot whose piece, where it has one, is handed on with an outcome. -/
theorem orderly_vacate {j : SpanId} {k : SlotId} {w : Slot} {g : SpanService → SpanService} {rs : List Report}
    (hg : (g (s.span j).service).slots = (s.span j).service.slots.set k w) (hw : w.piece = none)
    (hrs : rs.filterMap Report.piece = (s.span j).service.slots[k].piece.toList) :
    Orderly none none s ((s.modService j g).postAll rs) :=
  orderly_letGo (hrs ▸ SpanService.busyPieces_drop hg hw)

theorem extentDone_order (j : SpanId) (slot gen result : Byte) (s : State) :
    KeepsOrder s (execExtentDone j slot gen result s) := by
  have stale : KeepsOrder s (.next (s.modService j SpanService.stale)) := .calm (s.calm_modService j rfl)
  unfold execExtentDone
  split
  · exact stale
  · rename_i k hk
    extract_lets w
    split
    · split
      · rename_i p d e hw
        have hposted : Orderly none none s ((s.modService j fun v => v.setSlot k w.release).postAll
            [.outcome p (resultOutcome result)]) := orderly_vacate rfl rfl (by rw [Slot.piece, hw]; rfl)
        exact .next (hposted.trans (State.calm_postAll _ rfl).orderly)
      · rename_i d hw
        exact .next (orderly_vacate (rs := [.select j]) (g := fun v => (v.setSlot k w.release).stale) rfl rfl
          (by rw [Slot.piece, hw]; rfl))
      · exact stale
    · exact stale

theorem slotExpiry_order (j : SpanId) (k : SlotId) (s : State) : KeepsOrder s (execSlotExpiry j k s) := by
  unfold execSlotExpiry
  extract_lets w
  split
  · rename_i p d e hw
    exact .stay_or (orderly_vacate (w := { w with state := .zombie d }) rfl rfl (by rw [Slot.piece, hw]; rfl))
  · exact .stay s

theorem ready_order (j : SpanId) (attempt : Byte) (s : State) : KeepsOrder s (execReady j attempt s) := by
  unfold execReady
  split
  · exact .stay_or (((s.calm_modService j rfl).trans ((State.calm_reportLink ..).trans (State.calm_post _ rfl))).trans
      (State.calm_spanNotice ..)).orderly
  · exact .stay s

theorem trainingAttemptExpiry_order (j : SpanId) (s : State) : KeepsOrder s (execTrainingAttemptExpiry j s) := by
  unfold execTrainingAttemptExpiry
  split
  · split
    · split
      · exact .calm (s.calm_modService j rfl)
      · exact .calm ((s.calm_modService j rfl).trans ((State.calm_spanNotice ..).trans (State.calm_reportLink ..)))
    · exact .stay s
  · exact .stay s

theorem linkLossIndication_order (j : SpanId) (s : State) : KeepsOrder s (execLinkLossIndication j s) :=
  .stay_or ((s.calm_modService j rfl).orderly.trans (orderly_leaveUp ..))

theorem monitorWindowExpiry_order (j : SpanId) (s : State) : KeepsOrder s (execMonitorWindowExpiry j s) :=
  .stay_or (State.calm_judgeWindow ..).orderly

theorem relinkHoldExpiry_order (j : SpanId) (s : State) : KeepsOrder s (execRelinkHoldExpiry j s) := by
  unfold execRelinkHoldExpiry
  split
  · exact .stay s
  · exact .stay_or (orderly_holdExpires ..)

theorem presenceDeasserted_order (j : SpanId) (s : State) : KeepsOrder s (execPresenceDeasserted j s) := by
  have noted : s.Calm (s.modService j fun v => { v with presence := false }) := s.calm_modService j rfl
  unfold execPresenceDeasserted
  extract_lets u
  split
  · exact .calm noted
  · exact .next (noted.orderly.trans (orderly_becomeAbsent ..))

theorem presenceAsserted_order (j : SpanId) (s : State) : KeepsOrder s (execPresenceAsserted j s) := by
  have noted : s.Calm (s.modService j fun v => { v with presence := true }) := s.calm_modService j rfl
  unfold execPresenceAsserted
  extract_lets u
  split
  · exact .calm (noted.trans ((u.calm_modService j rfl).trans
      ((State.calm_spanNotice ..).trans (State.calm_reportLink ..))))
  · exact .calm noted

/-! ## The rows that take a report -/

/-- An event that takes only reports of its own kind. -/
theorem order_of_match (h : Orderly none none s u) (e : some u = some t) : Orderly none none s t := by
  cases e
  exact h

theorem absentRelease_order (j : SpanId) (s : State) : KeepsOrder s (execAbsentRelease j s) := by
  refine withReport_order (fun _ _ => rfl) fun r u t e => ?_
  split at e
  · exact order_of_match (u.calm_releaseAbsent j).orderly e
  · cases e

theorem linkStateReport_order (j : SpanId) (s : State) : KeepsOrder s (execLinkStateReport j s) := by
  refine withReport_order (fun _ _ => rfl) fun r u t e => ?_
  split at e
  · exact order_of_match ((u.calm_modBudget ..).trans (State.calm_updateDegraded ..)).orderly e
  · cases e

theorem configuredCeilingChange_order (j : SpanId) (s : State) : KeepsOrder s (execConfiguredCeilingChange j s) := by
  refine withReport_order (fun _ _ => rfl) fun r u t e => ?_
  split at e
  · exact order_of_match (u.calm_configureCeiling ..).orderly e
  · cases e

theorem parameterReport_order (b : ParamBlock) (s : State) : KeepsOrder s (execParameterReport b s) := by
  refine withReport_order (fun _ _ => by cases b <;> rfl) fun r u t e => ?_
  split at e
  · exact order_of_match (u.calm_takeParams ..).orderly e
  · cases e

theorem ceilingReport_order (j : SpanId) (s : State) : KeepsOrder s (execCeilingReport j s) := by
  refine withReport_order (fun _ _ => rfl) fun r u t e => ?_
  split at e
  · exact order_of_match ((u.calm_modBudget ..).trans (State.calm_recomputeOvercommit ..)).orderly e
  · cases e

theorem cancelUndispatched_order (h : Handle) (s : State) : KeepsOrder s (execCancelUndispatched h s) := by
  refine withReport_order (fun _ _ => rfl) fun r u t e => ?_
  split at e
  · exact order_of_match (.foldl (orderly_withdrawFrame .cancelled) _ u) e
  · cases e

theorem lateReport_order (j : SpanId) (s : State) : KeepsOrder s (execLateReport j s) := by
  refine withReport_order (fun _ _ => rfl) fun r u t e => ?_
  split at e
  · exact order_of_match (orderly_takeLate ..) e
  · cases e

theorem maskWrite_order (j : SpanId) (s : State) : KeepsOrder s (execMaskWrite j s) := by
  refine withReport_order (fun _ _ => rfl) fun r u t e => ?_
  split at e
  · exact order_of_match (State.Calm.ite (.refl u)
      ((u.calm_modArbiter ..).trans (State.calm_beginSelection ..))).orderly e
  · cases e

theorem latencyReport_order (j : SpanId) (s : State) : KeepsOrder s (execLatencyReport j s) := by
  refine withReport_order (fun _ _ => rfl) fun r u t e => ?_
  split at e
  · exact order_of_match (u.calm_modMonitor ..).orderly e
  · cases e

theorem selection_order (j : SpanId) (s : State) : KeepsOrder s (execSelection j s) :=
  withReport_some_order (fun _ _ => rfl) fun _ _ => (State.calm_beginSelection ..).orderly

theorem queueSpanLoss_order (j : SpanId) (s : State) : KeepsOrder s (execQueueSpanLoss j s) :=
  withReport_some_order (fun _ _ => rfl) fun _ _ => orderly_loseQueue ..

theorem tripClassEvent_order (j : SpanId) (s : State) : KeepsOrder s (execTripClassEvent j s) :=
  withReport_some_order (fun _ _ => rfl) fun _ _ => (State.calm_modMonitor ..).orderly

theorem monitorAbsent_order (j : SpanId) (s : State) : KeepsOrder s (execMonitorAbsent j s) :=
  withReport_some_order (fun _ _ => rfl) fun _ u => by
    have handed := (u.calm_modMonitor j fun m => m.forget u.time).trans (State.calm_handOn _ j (u.span j).monitor)
    exact (State.Calm.ite (handed.trans (State.calm_restored ..)) handed).orderly

/-- The outcome of a piece taken from its channel finishes the piece, which has no other place (R60). -/
theorem pieceOutcome_order (p : Nat) (s : State) : KeepsOrder s (execPieceOutcome p s) := fun t ht => by
  rcases withReport_cases ht with rfl | ⟨r, before, after, ⟨hr, hch, -⟩, ht⟩
  · exact .refl none t
  · cases r with
    | outcome q o =>
      obtain rfl : q = p := of_decide_eq_true hch
      cases ht
      exact orderly_takeOutcome (fun h => h.collect hr) (fun h => h.of_ports (.of_nodes rfl) rfl)
        (fun h => h.congr rfl rfl (.of_eq rfl)) o
    | _ => cases hch

/-- Every row but ATTACH keeps the three invariants. -/
theorem exec_order (c : Instr) (s : State) (ha : ∀ n, c ≠ .attach n) : KeepsOrder s (exec c s) := by
  cases c with
  | attach n => exact absurd rfl (ha n)
  | powerOnReset => exact .next (orderly_powerOn ..)
  | resetPin => exact .next (orderly_warmReset ..)
  | commandWindowWrite n bytes => exact .stay_or (orderly_ports fun h => h.commandWrite n bytes)
  | eventWindowRead n len => exact windowAccess_order s fun nd => nd.alike_eventRead s.time len
  | windowAccessIgnored n access => exact windowAccess_order s fun _ => .of_same rfl rfl rfl rfl rfl
  | unknownCommand n => exact unknownCommand_order n s
  | detach n => exact detach_order n s
  | heartbeat n => exact heartbeat_order n s
  | clearNodeFlags n => exact clearNodeFlags_order n s
  | queryPart n => exact queryPart_order n s
  | openStream n => exact openStream_order n s
  | closeStream n => exact closeStream_order n s
  | adopt n => exact adopt_order n s
  | queryStream n => exact queryStream_order n s
  | play n => exact play_order n s
  | stop n => exact stop_order n s
  | scrub n => exact scrub_order n s
  | frameRead n => exact frameRead_order n s
  | querySpan n => exact querySpan_order n s
  | clearTrip n => exact clearTrip_order n s
  | ackSpanStatus n => exact ackSpanStatus_order n s
  | linkReset n => exact linkReset_order n s
  | configBegin n => exact configBegin_order n s
  | configSet n => exact configSet_order n s
  | configGet n => exact configGet_order n s
  | configEnd n => exact configEnd_order n s
  | partReset n => exact withClaim_order fun _ _ => orderly_warmReset ..
  | pcieLinkDown n => exact pcieLinkDown_order n s
  | pcieLinkUp n => exact pcieLinkUp_order n s
  | heartbeatTimerExpiry n => exact heartbeatTimerExpiry_order n s
  | orphanTimerExpiry h => exact orphanTimerExpiry_order h s
  | cancelUndispatched h => exact cancelUndispatched_order h s
  | drainEnd h => exact drainEnd_order h s
  | absentRelease j => exact absentRelease_order j s
  | linkStateReport j => exact linkStateReport_order j s
  | ceilingReport j => exact ceilingReport_order j s
  | pieceOutcome p => exact pieceOutcome_order p s
  | deadlineExpiry j => exact deadlineExpiry_order j s
  | lateReport j => exact lateReport_order j s
  | windowOpeningExpiry j => exact windowOpeningExpiry_order j s
  | selection j => exact selection_order j s
  | dispatch j => exact dispatch_order j s
  | maskWrite j => exact maskWrite_order j s
  | settleTimerExpiry h => exact settleTimerExpiry_order h s
  | extentDone j slot gen result => exact extentDone_order j slot gen result s
  | slotExpiry j k => exact slotExpiry_order j k s
  | ready j attempt => exact ready_order j attempt s
  | trainingAttemptExpiry j => exact trainingAttemptExpiry_order j s
  | linkLossIndication j => exact linkLossIndication_order j s
  | relinkHoldExpiry j => exact relinkHoldExpiry_order j s
  | queueSpanLoss j => exact queueSpanLoss_order j s
  | presenceDeasserted j => exact presenceDeasserted_order j s
  | presenceAsserted j => exact presenceAsserted_order j s
  | spanMessageOther j bytes => exact .stay s
  | latencyReport j => exact latencyReport_order j s
  | tripClassEvent j => exact tripClassEvent_order j s
  | monitorWindowExpiry j => exact monitorWindowExpiry_order j s
  | monitorAbsent j => exact monitorAbsent_order j s
  | parameterReport b => exact parameterReport_order b s
  | configuredCeilingChange j => exact configuredCeilingChange_order j s

end

end Sys2Proof.Machine
end

section
/-! PROOFS. The three invariants of this family through ATTACH and through a step: the places of the event FIFOs, of the
pieces, and the prefetch depths. -/

namespace Sys2Proof.Machine

section

variable {s t : State} {n : NodeId}

/-! ## ATTACH -/

theorem State.calm_notifyOthers (s : State) (but : NodeId) (tag : EventTag) (b : List Field) :
    s.Calm (s.notifyOthers but tag b) :=
  ⟨.of_spans (by simp) (by simp), by simp, by simp, s.portsAlike_notifyOthers but tag b, fun _ => .of_eq (by simp)⟩

/-- With its new epoch a node owes no answer to a read, where no frame carries that epoch (R149, R150). -/
theorem State.exchangeDue.attached (h : s.exchangeDue (some n)) (hn : (s.node n).state ≠ .attached)
    (hfresh : s.epochsFresh) (now : Time) (requested : Nat) :
    (s.modNode n fun nd => nd.attached now requested).exchangeDue (some n) := by
  obtain ⟨hsort, hnode⟩ := h
  refine ⟨hsort, fun m => ?_⟩
  obtain ⟨hcmd, htot, hres⟩ := hnode m
  by_cases hm : m = n
  · subst hm
    have hnone : (s.modNode m fun nd => nd.attached now requested).unanswered m = 0 := by
      rw [State.unanswered, State.node_modNode_self, State.modNode_frames, Pool.countOf]
      refine List.length_eq_zero_iff.2 (List.filter_eq_nil_iff.2 fun kv hkv hin => ?_)
      obtain ⟨hk, he⟩ := Bool.and_eq_true_iff.1 hin
      have hne := hfresh kv hkv
      rw [of_decide_eq_true hk] at hne
      exact hne (of_decide_eq_true he)
    rw [hnone, State.node_modNode_self]
    rw [if_neg hn] at hres
    refine ⟨hcmd, ?_, by simpa [Node.attached, Node.clearFlags] using hres⟩
    simp only [Node.total, Node.attached, Node.clearFlags, List.length_nil] at htot ⊢
    omega
  · have hsame : (s.modNode n fun nd => nd.attached now requested).node m = s.node m := State.node_modNode_ne s hm _
    rw [State.unanswered, hsame]
    exact ⟨hcmd, htot, hres⟩

/-- What an ATTACH can do: nothing, the answer WRONG_STATE, or the attachment (R150). -/
theorem execAttach_cases (ht : execAttach n s = .next t) : Orderly none none s t ∨
    ∃ rec rest body notice, (s.node n).commands = rec :: rest ∧ (s.node n).state ≠ .attached ∧
      t = (((s.taken n rest).modNode n fun nd => nd.attached s.time (recArg rec 0)).notifyOthers n
        (.nodeNotice .peerAttached) notice).result n 1 .ok body := by
  rcases withCommand_cases ht with rfl | ⟨rec, rest, ⟨hc, -⟩, rfl⟩
  · exact .inl (.refl none t)
  · dsimp only
    split
    · exact .inl ((orderly_taken hc).trans (orderly_result ..))
    · rename_i hs
      exact .inr ⟨rec, rest, _, _, hc, by simpa using hs, rfl⟩

theorem attach_order (hfresh : s.epochsFresh) : KeepsOrder s (execAttach n s) := fun t ht => by
  rcases execAttach_cases ht with h | ⟨rec, rest, body, notice, hc, hs, rfl⟩
  · exact h
  · have hfresh' : (s.taken n rest).epochsFresh := by simpa using hfresh
    have hattached := orderly_ports (a := some n) (b := some n) fun h => State.exchangeDue.attached (s := s.taken n rest) h
      (by simpa using hs) hfresh' s.time (recArg rec 0)
    exact (((orderly_taken hc).trans hattached).trans (State.calm_notifyOthers ..).orderly).trans (orderly_result ..)

/-- Pieces, depths and scrub lists through any row: an ATTACH touches the node ports alone. -/
theorem exec_keeps_pieces_depth (c : Instr) (s : State) (ht : exec c s = .next t) :
    (s.PiecesBut none [] → t.PiecesBut none []) ∧ (s.PiecesBut none [] → s.Deep none → t.Deep none) := by
  by_cases ha : ∃ n, c = .attach n
  · obtain ⟨n, rfl⟩ := ha
    rcases execAttach_cases (n := n) ht with h | ⟨rec, rest, body, notice, -, -, rfl⟩
    · exact ⟨h.pieces, h.depth⟩
    · exact ⟨fun h => h.congr (by simp) (by simp) (.of_spans (by simp) (by simp)),
        fun _ h => h.congr (by simp) (by simp) (.of_eq (by simp))⟩
  · have h := exec_order c s (fun n e => ha ⟨n, e⟩) t ht
    exact ⟨h.pieces, h.depth⟩

/-! ## The step -/

/-- All that a step can be: a row from the front of the queue, a row that has arisen, or a microsecond. -/
theorem step_cases (ht : step s = .next t) : (∃ c rest, exec c { s with pending := rest } = .next t) ∨ t = s.tick := by
  unfold step at ht
  split at ht
  · exact .inl ⟨_, _, ht⟩
  · split at ht
    · exact .inl ⟨_, s.pending, ht⟩
    · cases ht
      exact .inr rfl

theorem calm_tick (s : State) : s.Calm s.tick := .of_rest rfl rfl rfl rfl rfl rfl

theorem calm_pending (s : State) (rest : List Instr) : s.Calm { s with pending := rest } := .of_rest rfl rfl rfl rfl rfl rfl

theorem step_order (hfresh : s.epochsFresh) (ht : step s = .next t) : Orderly none none s t := by
  rcases step_cases ht with ⟨c, rest, ht⟩ | rfl
  · refine (calm_pending s rest).orderly.trans ?_
    by_cases ha : ∃ n, c = .attach n
    · obtain ⟨n, rfl⟩ := ha
      exact attach_order (s := { s with pending := rest }) hfresh t ht
    · exact exec_order c _ (fun n e => ha ⟨n, e⟩) t ht
  · exact (calm_tick s).orderly

theorem step_keeps_pieces_depth (ht : step s = .next t) :
    (s.PiecesBut none [] → t.PiecesBut none []) ∧ (s.PiecesBut none [] → s.Deep none → t.Deep none) := by
  rcases step_cases ht with ⟨c, rest, ht⟩ | rfl
  · have htaken := (calm_pending s rest).orderly (a := none)
    obtain ⟨hp, hd⟩ := exec_keeps_pieces_depth c _ ht
    exact ⟨fun h => hp (htaken.pieces h), fun h hs => hd (htaken.pieces h) (htaken.depth h hs)⟩
  · have h := (calm_tick s).orderly (a := none)
    exact ⟨h.pieces, h.depth⟩

end

/-- Settles O57: each row keeps the places, the answers taking theirs from the reservations; ATTACH by the premise. -/
theorem stepKeepsAPlaceForEveryAnswer : Obligations.StepKeepsAPlaceForEveryAnswer := by
  intro s t hs hfresh ht
  rw [State.exchangeOk_iff] at hs ⊢
  exact (step_order hfresh ht).exchange hs

/-- Settles O58: each row keeps every piece in one place, by way of pieces out of their places within an event. -/
theorem stepKeepsEveryPieceInItsPlace : Obligations.StepKeepsEveryPieceInItsPlace := by
  intro s t hs ht
  rw [State.piecesOk_iff] at hs ⊢
  exact (step_keeps_pieces_depth ht).1 hs

/-- Settles O59: each row makes streams tamer, or one deeper where its checks found room, with its frame waiting whole. -/
theorem stepKeepsOutstandingWithinPrefetchDepth : Obligations.StepKeepsOutstandingWithinPrefetchDepth := by
  intro s t hp hd ht
  rw [State.piecesOk_iff] at hp
  obtain ⟨hpieces, hdepth⟩ := step_keeps_pieces_depth ht
  exact (State.deep_iff (hpieces hp).toRefsBut).2 (hdepth hp ((State.deep_iff hp.toRefsBut).1 hd))

end Sys2Proof.Machine
end

section
/-! PROOFS. A scrub read taken for a stream record that has another settle interval than the one its settle timer is
started from (R74): the statement of ScrubFrameEntersTheSettleHold binds only the two span lists to each other. -/

namespace Sys2Proof.Machine

/-- A FRAME_READ of one extent for the stream of handle 0. -/
def readOfOne : List Byte := [9, 0, 1]

/-- A stream in SCRUBBING with one span, reserved, and a settle interval of so many milliseconds. -/
def settling (settle : Nat) : Stream :=
  { state := .scrubbing, owner := some 0, prior := none, period := 1, frameBlocks := 1, share := 1,
    spans := [{ span := 0, u := 0, reserved := true }], depth := 1, lead := 0, settle := settle, scrub := .every,
    late := .serve, anchor := none, outstanding := 0, degraded := false, framesOk := 0, framesLate := 0,
    framesSkipped := 0, framesFailed := 0, orphanExpiry := none, settleExpiry := none, scrubList := [] }

/-- A part with that stream alone, the link of its span UP. -/
def settlingPart (settle : Nat) : State :=
  { State.reset.modService 0 fun v => { v with link := .up } with streams := [(0, settling settle)] }

/-- The settle timer runs for the interval of the stream's own record, whatever the record given to the acceptance says. -/
theorem settleExpiry_of_settlingPart : ((settlingPart 7).acceptRead 0 readOfOne (settling 5) .scrub none).streams.map
    (fun kv => kv.2.settleExpiry) = [some 7000] := by decide +kernel

/-- Refutes O29: `st` and `cur` may differ in their settle intervals. With 5 ms in the one and 7 ms in the other the timer
is started for 7 ms, and the statement asks for 5 ms. -/
theorem not_scrubFrameEntersTheSettleHold : ¬ Obligations.ScrubFrameEntersTheSettleHold := by
  intro h
  obtain ⟨i, ps, pool, -, -, -, -, -, heq⟩ := h 0 (settlingPart 7) readOfOne (settling 5) (settling 7) List.Pairwise.nil
    List.Pairwise.nil rfl rfl (by decide) ⟨{ span := 0, u := 0, reserved := true }, by decide +kernel, by decide +kernel⟩
  have hstarted := settleExpiry_of_settlingPart
  rw [heq] at hstarted
  have hasked : [some (5000 : Time)] = [some 7000] := hstarted
  exact absurd hasked (by decide)

end Sys2Proof.Machine
end

section
/-! PROOFS. The bytes of event records, command records and span-link messages (R178–R180): what little-endian bytes
read back as, where a block stands in a row of blocks, and the layouts put together from these. -/

namespace Sys2Proof.Machine

/-! ## Little-endian bytes -/

@[simp] theorem length_leBytes (k n : Nat) : (leBytes k n).length = k := by
  induction k generalizing n with
  | zero => rfl
  | succ k ih => simp [leBytes, ih]

theorem leNat_leBytes (k n : Nat) : leNat (leBytes k n) = n % 256 ^ k := by
  induction k generalizing n with
  | zero => simp [leBytes, leNat, Nat.mod_one]
  | succ k ih =>
    have hbyte : (BitVec.ofNat 8 n).toNat = n % 256 := BitVec.toNat_ofNat n 8
    rw [leBytes, leNat, ih, hbyte, pow_succ', Nat.mod_mul]

theorem leNat_leBytes_of_lt {k n : Nat} (h : n < 256 ^ k) : leNat (leBytes k n) = n := by
  rw [leNat_leBytes, Nat.mod_eq_of_lt h]

@[simp] theorem leNat_singleton (b : Byte) : leNat [b] = b.toNat := by simp [leNat]

theorem leNat_leBytes_toNat {w : Nat} (k : Nat) (v : BitVec w) (h : 2 ^ w ≤ 256 ^ k) :
    leNat (leBytes k v.toNat) = v.toNat :=
  leNat_leBytes_of_lt (v.isLt.trans_le h)

/-! ## Blocks in a row of blocks -/

theorem take_drop_of_split {l pre blk post : List Byte} {off len : Nat} (h : l = pre ++ (blk ++ post))
    (hpre : pre.length = off) (hblk : blk.length = len) : (l.drop off).take len = blk := by
  rw [h, List.drop_left' hpre, List.take_left' hblk]

theorem recNat_of_split {l pre blk post : List Byte} {off len : Nat} (h : l = pre ++ (blk ++ post))
    (hpre : pre.length = off) (hblk : blk.length = len) : recNat l off len = leNat blk :=
  congrArg leNat (take_drop_of_split h hpre hblk)

theorem recNat_append_right {pre : List Byte} {off : Nat} (hpre : pre.length = off) (l : List Byte) (k len : Nat) :
    recNat (pre ++ l) (off + k) len = recNat l k len := by
  rw [recNat, ← List.drop_drop, List.drop_left' hpre, recNat]

/-- Of blocks of one width, the block at index `k` stands behind `k` widths. -/
theorem flatMap_split {α : Type} {f : α → List Byte} {w : Nat} {l : List α} {k : Nat} {x : α}
    (hw : ∀ y ∈ l, (f y).length = w) (hk : l[k]? = some x) :
    ∃ pre post, l.flatMap f = pre ++ (f x ++ post) ∧ pre.length = w * k := by
  induction l generalizing k with
  | nil => simp at hk
  | cons y r ih =>
    have hy : (f y).length = w := hw y (by simp)
    cases k with
    | zero =>
      obtain rfl : y = x := by simpa using hk
      exact ⟨[], r.flatMap f, by simp, by simp⟩
    | succ k =>
      obtain ⟨pre, post, hsplit, hlen⟩ := ih (fun z hz => hw z (by simp [hz])) (by simpa using hk)
      exact ⟨f y ++ pre, post, by simp [hsplit], by simp [hy, hlen, Nat.mul_succ, Nat.add_comm]⟩

theorem length_flatMap_const {α : Type} {f : α → List Byte} {w : Nat} {l : List α}
    (hw : ∀ y ∈ l, (f y).length = w) : (l.flatMap f).length = w * l.length := by
  rw [List.length_flatMap, List.map_congr_left hw, List.map_const', List.sum_replicate, smul_eq_mul, Nat.mul_comm]

/-! ## The presence mask and the body slots of an event record -/

theorem presenceMask_eq_mul (l : List Field) (i : Nat) : presenceMask l i = 2 ^ i * presenceMask l 0 := by
  induction l generalizing i with
  | nil => rfl
  | cons f r ih =>
    rw [presenceMask, presenceMask, ih (i + 1), ih (0 + 1)]
    split <;> ring

theorem presenceMask_cons_zero (f : Field) (r : List Field) :
    presenceMask (f :: r) 0 = f.isSome.toNat + 2 * presenceMask r 0 := by
  rw [presenceMask, presenceMask_eq_mul r (0 + 1)]
  cases f <;> rfl

theorem presenceMask_lt (l : List Field) : presenceMask l 0 < 2 ^ l.length := by
  induction l with
  | nil => simp [presenceMask]
  | cons f r ih =>
    have hf : f.isSome.toNat ≤ 1 := Bool.toNat_le _
    rw [presenceMask_cons_zero, List.length_cons, pow_succ]
    omega

theorem testBit_presenceMask (l : List Field) (k : Nat) :
    (presenceMask l 0).testBit k = (l[k]?.join).isSome := by
  induction l generalizing k with
  | nil => simp [presenceMask]
  | cons f r ih =>
    rw [presenceMask_cons_zero]
    cases k with
    | zero => cases f <;> simp [Nat.testBit_zero]
    | succ k =>
      have hhalf : (f.isSome.toNat + 2 * presenceMask r 0) / 2 = presenceMask r 0 := by
        have hf : f.isSome.toNat ≤ 1 := Bool.toNat_le _
        omega
      rw [Nat.testBit_succ, hhalf, ih, List.getElem?_cons_succ]

/-- The number a body slot is written as: an absent one as zero. -/
def slotWord : Field → Nat
  | none => 0
  | some v => v.toNat

theorem slotWord_lt (f : Field) : slotWord f < 256 ^ 8 := by
  cases f with
  | none => simp [slotWord]
  | some v => exact v.isLt

theorem bodyBytes_eq_flatMap (n : Nat) (l : List Field) :
    bodyBytes n l = (List.range n).flatMap fun k => leBytes 8 (slotWord l[k]?.join) := by
  induction n generalizing l with
  | zero => rfl
  | succ n ih =>
    rw [List.range_succ_eq_map, List.flatMap_cons, List.flatMap_map]
    cases l with
    | nil => simp only [bodyBytes, ih, List.getElem?_nil]; rfl
    | cons f r =>
      simp only [bodyBytes, ih, List.getElem?_cons_zero, List.getElem?_cons_succ]
      cases f <;> rfl

/-! ## An event record (R179) -/

/-- The first 8 bytes of an event record. -/
def EventRec.lead (e : EventRec) (left : Nat) : List Byte :=
  [BitVec.ofNat 8 e.tag.kindCode, BitVec.ofNat 8 e.tag.statusCode, BitVec.ofNat 8 e.command,
    BitVec.ofNat 8 (e.command / 256), BitVec.ofNat 8 e.epoch.toNat, BitVec.ofNat 8 (e.epoch.toNat / 256),
    BitVec.ofNat 8 left, BitVec.ofNat 8 (left / 256)]

theorem EventRec.bytes_eq (e : EventRec) (left : Nat) (h : e.body.length ≤ 61) :
    e.bytes left = e.lead left ++ (leBytes 8 e.time.toNat ++ (leBytes 8 (2 * presenceMask e.body 0) ++
      (List.range 61).flatMap fun k => leBytes 8 (slotWord e.body[k]?.join))) := by
  have hmask : presenceMask (e.body.take 61) 1 = 2 * presenceMask e.body 0 := by
    rw [List.take_of_length_le h, presenceMask_eq_mul, pow_one]
  rw [EventRec.bytes, Config.bodySlots, hmask, bodyBytes_eq_flatMap]
  simp [leBytes, EventRec.lead]

theorem length_slotRow (l : List Field) :
    ((List.range 61).flatMap fun k => leBytes 8 (slotWord l[k]?.join)).length = 488 := by
  rw [length_flatMap_const (w := 8) (fun _ _ => length_leBytes _ _), List.length_range]

theorem EventRec.length_bytes (e : EventRec) (left : Nat) (h : e.body.length ≤ 61) :
    (e.bytes left).length = 512 := by
  rw [e.bytes_eq left h]
  simp only [List.length_append, length_slotRow, length_leBytes]
  rfl

theorem EventRec.take_bytes (e : EventRec) (left : Nat) (h : e.body.length ≤ 61) :
    (e.bytes left).take 8 = e.lead left := by
  rw [e.bytes_eq left h]
  exact List.take_left' rfl

theorem EventRec.time_bytes (e : EventRec) (left : Nat) (h : e.body.length ≤ 61) :
    leNat (((e.bytes left).drop 8).take 8) = e.time.toNat := by
  rw [take_drop_of_split (e.bytes_eq left h) (by simp [EventRec.lead]) (length_leBytes _ _),
    leNat_leBytes_toNat 8 _ (by norm_num)]

theorem EventRec.mask_bytes (e : EventRec) (left : Nat) (h : e.body.length ≤ 61) :
    leNat (((e.bytes left).drop 16).take 8) = 2 * presenceMask e.body 0 := by
  have hlt : presenceMask e.body 0 < 2 ^ 61 :=
    (presenceMask_lt _).trans_le (Nat.pow_le_pow_right (by decide) h)
  rw [take_drop_of_split ((e.bytes_eq left h).trans (List.append_assoc _ _ _).symm)
    (by simp [EventRec.lead]) (length_leBytes _ _)]
  exact leNat_leBytes_of_lt (by omega)

theorem EventRec.mask_testBit (e : EventRec) (left k : Nat) (h : e.body.length ≤ 61) :
    (leNat (((e.bytes left).drop 16).take 8)).testBit (k + 1) = (e.body[k]?.join).isSome := by
  rw [e.mask_bytes left h, Nat.testBit_succ, Nat.mul_div_cancel_left _ (by decide), testBit_presenceMask]

theorem EventRec.slot_bytes (e : EventRec) (left k : Nat) (h : e.body.length ≤ 61) (hk : k < 61) :
    leNat (((e.bytes left).drop (24 + 8 * k)).take 8) = slotWord e.body[k]?.join := by
  obtain ⟨pre, post, hsplit, hlen⟩ := flatMap_split (f := fun k => leBytes 8 (slotWord e.body[k]?.join)) (w := 8)
    (fun _ _ => length_leBytes _ _) (List.getElem?_range hk)
  have hbytes : e.bytes left =
      (e.lead left ++ leBytes 8 e.time.toNat ++ leBytes 8 (2 * presenceMask e.body 0) ++ pre) ++
      (leBytes 8 (slotWord e.body[k]?.join) ++ post) := by
    rw [e.bytes_eq left h, hsplit]
    simp only [List.append_assoc]
  rw [take_drop_of_split hbytes (by simp [EventRec.lead, hlen]; omega) (length_leBytes _ _)]
  exact leNat_leBytes_of_lt (slotWord_lt _)

/-! ## Span-link messages (R180) -/

theorem readExtent_bytes_layout (slot : SlotId) (gen : Gen) (count : Nat) (start : StartBlock) (token : Token)
    (hcount : count < 65536) :
    let b := (SpanMessage.readExtent slot gen count start token).bytes
    b.length = 24 ∧ b.take 4 = [1, BitVec.ofNat 8 slot.val, gen, 0] ∧ leNat ((b.drop 4).take 2) = count ∧
    leNat ((b.drop 6).take 6) = start.toNat ∧ (b.drop 12).take 4 = [0, 0, 0, 0] ∧
    leNat ((b.drop 16).take 8) = token.toNat := by
  have hgen : BitVec.ofNat 8 gen.toNat = gen := BitVec.ofNat_toNat ..
  refine ⟨by simp [SpanMessage.bytes], by simp [SpanMessage.bytes, leBytes], ?_, ?_, ?_, ?_⟩
  · exact (congrArg leNat (show _ = leBytes 2 count from rfl)).trans (leNat_leBytes_of_lt hcount)
  · exact (congrArg leNat (show _ = leBytes 6 start.toNat from rfl)).trans (leNat_leBytes_toNat 6 _ (by norm_num))
  · rfl
  · exact (congrArg leNat (show _ = leBytes 8 token.toNat from rfl)).trans (leNat_leBytes_toNat 8 _ (by norm_num))

theorem ofSpanMessage_of_short_two (j : SpanId) (r : List Byte) (h : r.length < 3) :
    Instr.ofSpanMessage j (2 :: r) = .spanMessageOther j (2 :: r) := by
  match r, h with
  | [], _ => rfl
  | [_], _ => rfl
  | [_, _], _ => rfl

theorem ofSpanMessage_of_other (j : SpanId) (b : Byte) (r : List Byte) (h2 : b ≠ 2) (h4 : b ≠ 4) :
    Instr.ofSpanMessage j (b :: r) = .spanMessageOther j (b :: r) := by
  unfold Instr.ofSpanMessage
  split
  next heq => exact absurd (List.cons.inj heq).1 h2
  next heq => exact absurd (List.cons.inj heq).1 h4
  next => rfl

/-! ## The arguments of a command record (R178) -/

section CommandRecord
variable (code : BitVec 16) (b2 b3 h g : Byte) (ignored : List Byte) (args : List (BitVec 64)) (more : List Byte)

/-- A command record: its code, its bytes 2 to 5, ten bytes that are not examined, and its argument slots. -/
def commandBytes : List Byte :=
  leBytes 2 code.toNat ++ [b2, b3, h, g] ++ ignored ++ args.flatMap (fun v => leBytes 8 v.toNat) ++ more

theorem commandBytes_eq : commandBytes code b2 b3 h g ignored args more =
    leBytes 2 code.toNat ++ (b2 :: b3 :: h :: g ::
      (ignored ++ (args.flatMap (fun v => leBytes 8 v.toNat) ++ more))) := by
  simp [commandBytes]

theorem recCode_commandBytes : recCode (commandBytes code b2 b3 h g ignored args more) = code.toNat := by
  rw [recCode, recNat_of_split (pre := []) (commandBytes_eq ..) List.length_nil (length_leBytes _ _)]
  exact leNat_leBytes_toNat 2 _ (by norm_num)

theorem recNat_two_commandBytes : recNat (commandBytes code b2 b3 h g ignored args more) 2 1 = b2.toNat := by
  rw [commandBytes_eq]
  exact leNat_singleton b2

theorem recNat_three_commandBytes : recNat (commandBytes code b2 b3 h g ignored args more) 3 1 = b3.toNat := by
  rw [commandBytes_eq]
  exact leNat_singleton b3

theorem recStream_commandBytes :
    recStream (commandBytes code b2 b3 h g ignored args more) = { handle := h, gen := g } := by
  have hh : recNat (commandBytes code b2 b3 h g ignored args more) 4 1 = h.toNat := by
    rw [commandBytes_eq]
    exact leNat_singleton h
  have hg : recNat (commandBytes code b2 b3 h g ignored args more) 5 1 = g.toNat := by
    rw [commandBytes_eq]
    exact leNat_singleton g
  rw [recStream, hh, hg, BitVec.ofNat_toNat, BitVec.ofNat_toNat, BitVec.setWidth_eq, BitVec.setWidth_eq]

variable {ignored args}

/-- Argument slot `k` stands behind `16 + 8 k` bytes. -/
theorem commandBytes_split {k : Nat} {v : BitVec 64} (hign : ignored.length = 10) (hk : args[k]? = some v) :
    ∃ pre post, commandBytes code b2 b3 h g ignored args more = pre ++ (leBytes 8 v.toNat ++ post) ∧
      pre.length = 16 + 8 * k := by
  obtain ⟨pre, post, hsplit, hlen⟩ := flatMap_split (f := fun v : BitVec 64 => leBytes 8 v.toNat) (w := 8)
    (fun _ _ => length_leBytes _ _) hk
  refine ⟨leBytes 2 code.toNat ++ [b2, b3, h, g] ++ ignored ++ pre, post ++ more, ?_, ?_⟩
  · rw [commandBytes, hsplit]
    simp only [List.append_assoc]
  · simp [hign, hlen]
    omega

theorem recArg_commandBytes {k : Nat} {v : BitVec 64} (hign : ignored.length = 10) (hk : args[k]? = some v) :
    recArg (commandBytes code b2 b3 h g ignored args more) k = v.toNat := by
  obtain ⟨pre, post, hsplit, hlen⟩ := commandBytes_split code b2 b3 h g more hign hk
  rw [recArg, recNat_of_split hsplit hlen (length_leBytes _ _), leNat_leBytes_toNat 8 _ (by norm_num)]

theorem recArgSigned_commandBytes {k : Nat} {v : BitVec 64} (hign : ignored.length = 10) (hk : args[k]? = some v) :
    recArgSigned (commandBytes code b2 b3 h g ignored args more) k = v.toInt := by
  rw [recArgSigned, recArg_commandBytes code b2 b3 h g more hign hk, BitVec.ofNat_toNat, BitVec.setWidth_eq]

theorem recCookie_commandBytes {v : BitVec 64} (hign : ignored.length = 10) (hv : args[0]? = some v) :
    recCookie (commandBytes code b2 b3 h g ignored args more) = v.setWidth 32 := by
  obtain ⟨pre, post, hsplit, hlen⟩ := commandBytes_split code b2 b3 h g more hign hv
  have hhalves : leBytes 8 v.toNat ++ post = leBytes 4 v.toNat ++ ((leBytes 8 v.toNat).drop 4 ++ post) := rfl
  rw [hhalves] at hsplit
  rw [recCookie, recNat_of_split hsplit hlen (length_leBytes _ _), leNat_leBytes]
  apply BitVec.eq_of_toNat_eq
  simp

theorem recArg_commandBytes_getD {k : Nat} (hign : ignored.length = 10) (hargs : args.length = 16) (hk : k < 16) :
    recArg (commandBytes code b2 b3 h g ignored args more) k = (args.getD k 0).toNat := by
  apply recArg_commandBytes code b2 b3 h g more hign
  rw [List.getD_eq_getElem?_getD, List.getElem?_eq_getElem (hargs ▸ hk), Option.getD_some]

theorem recOpenArgs_commandBytes (hign : ignored.length = 10) (hargs : args.length = 16) :
    recOpenArgs (commandBytes code b2 b3 h g ignored args more) =
      let v (k : Nat) := (args.getD k 0).toNat
      { period := v 0, frameBlocks := v 1, width := v 2,
        spans := [v 3, v 4, v 5, v 6, v 7, v 8, v 9, v 10].take (v 2), depth := v 11, lead := v 12, scrub := v 13,
        late := v 14, settle := if b3.getLsbD 1 then some (v 15) else none } := by
  have harg {k : Nat} (hk : k < 16) := recArg_commandBytes_getD code b2 b3 h g more hign hargs hk
  have hflag : recSettlePresent (commandBytes code b2 b3 h g ignored args more) = b3.getLsbD 1 := by
    rw [recSettlePresent, recNat_three_commandBytes]
    rfl
  simp only [recOpenArgs, List.map_cons, List.map_nil, hflag, harg (by decide : 0 < 16), harg (by decide : 1 < 16),
    harg (by decide : 2 < 16), harg (by decide : 3 + 0 < 16), harg (by decide : 3 + 1 < 16),
    harg (by decide : 3 + 2 < 16), harg (by decide : 3 + 3 < 16), harg (by decide : 3 + 4 < 16),
    harg (by decide : 3 + 5 < 16), harg (by decide : 3 + 6 < 16), harg (by decide : 3 + 7 < 16),
    harg (by decide : 11 < 16), harg (by decide : 12 < 16), harg (by decide : 13 < 16), harg (by decide : 14 < 16),
    harg (by decide : 15 < 16)]

end CommandRecord

/-! ## The extents of a FRAME_READ (R178) -/

/-- The 24 bytes of an extent, with the seven of them that are not examined. -/
def extentBytes (x : Extent × List Byte) : List Byte :=
  [BitVec.ofNat 8 x.1.span] ++ x.2.take 1 ++ leBytes 2 x.1.count ++ leBytes 6 x.1.start.toNat ++ x.2.drop 1 ++
    leBytes 8 x.1.token.toNat

/-- What the extents of a record are held to: their fields fit, and seven bytes go unexamined. -/
def ExtentFits (x : Extent × List Byte) : Prop := x.1.span < 256 ∧ x.1.count < 65536 ∧ x.2.length = 7

theorem length_extentBytes {x : Extent × List Byte} (h : ExtentFits x) : (extentBytes x).length = 24 := by
  obtain ⟨-, -, hpad⟩ := h
  simp [extentBytes, hpad]

/-- The fields of an extent stand in its bytes 0, 2, 4 and 16. -/
theorem recNat_extentBytes {x : Extent × List Byte} (hx : ExtentFits x) (post : List Byte) :
    recNat (extentBytes x ++ post) 0 1 = x.1.span ∧ recNat (extentBytes x ++ post) 2 2 = x.1.count ∧
    recNat (extentBytes x ++ post) 4 6 = x.1.start.toNat ∧ recNat (extentBytes x ++ post) 16 8 = x.1.token.toNat := by
  obtain ⟨ext, pad⟩ := x
  obtain ⟨hspan, hcount, hpad⟩ := hx
  match pad, hpad with
  | [_, _, _, _, _, _, _], _ =>
    exact ⟨(leNat_singleton _).trans (Nat.mod_eq_of_lt hspan),
      show leNat (leBytes 2 ext.count) = _ from leNat_leBytes_of_lt hcount,
      show leNat (leBytes 6 ext.start.toNat) = _ from leNat_leBytes_toNat 6 _ (by norm_num),
      show leNat (leBytes 8 ext.token.toNat) = _ from leNat_leBytes_toNat 8 _ (by norm_num)⟩

theorem recExtent_of_split {l pre post : List Byte} {i : Nat} {x : Extent × List Byte}
    (hl : l = pre ++ (extentBytes x ++ post)) (hpre : pre.length = 32 + 24 * i) (hx : ExtentFits x) :
    recExtent l i = x.1 := by
  have hread (k len : Nat) : recNat l (32 + 24 * i + k) len = recNat (extentBytes x ++ post) k len := by
    rw [hl, recNat_append_right hpre]
  obtain ⟨hspan, hcount, hstart, htoken⟩ := recNat_extentBytes hx post
  have hfirst : recNat l (32 + 24 * i) 1 = x.1.span := (hread 0 1).trans hspan
  simp [recExtent, hfirst, hread, hcount, hstart, htoken]

theorem recExtents_extentBytes {head more : List Byte} {exts : List (Extent × List Byte)} (hhead : head.length = 32)
    (hfit : ∀ x ∈ exts, ExtentFits x) :
    recExtents (head ++ exts.flatMap extentBytes ++ more) exts.length = exts.map Prod.fst := by
  apply List.ext_getElem?
  intro i
  by_cases hi : i < exts.length
  · have hget : exts[i]? = some exts[i] := List.getElem?_eq_getElem hi
    obtain ⟨pre, post, hsplit, hlen⟩ := flatMap_split (fun y hy => length_extentBytes (hfit y hy)) hget
    have hrec : recExtent (head ++ exts.flatMap extentBytes ++ more) i = exts[i].1 :=
      recExtent_of_split (pre := head ++ pre) (post := post ++ more) (by rw [hsplit]; simp only [List.append_assoc])
        (by simp [hhead, hlen]) (hfit _ (List.getElem_mem hi))
    rw [recExtents, List.getElem?_map, List.getElem?_range hi, List.getElem?_map, hget, Option.map_some, hrec,
      Option.map_some]
  · simp [recExtents, hi]

/-! ## The statement -/

theorem eventRec_layout (e : EventRec) (left : Nat) (h : e.body.length ≤ 61) :
    (e.bytes left).length = 512 ∧ (e.bytes left).take 8 = e.lead left ∧
    leNat (((e.bytes left).drop 8).take 8) = e.time.toNat ∧
    (∀ k < 61, (leNat (((e.bytes left).drop 16).take 8)).testBit (k + 1) = (e.body[k]?.join).isSome) ∧
    ∀ k < 61, leNat (((e.bytes left).drop (24 + 8 * k)).take 8) = slotWord e.body[k]?.join :=
  ⟨e.length_bytes left h, e.take_bytes left h, e.time_bytes left h, fun k _ => e.mask_testBit left k h,
    fun k hk => e.slot_bytes left k h hk⟩

/-- Settles O43: the layouts of event records, messages, command records and extents by their lemmas above, the codes
by evaluation. -/
theorem recordAndMessageLayouts : Obligations.RecordAndMessageLayouts := by
  refine ⟨?events, readExtent_bytes_layout, fun _ => rfl, ?received, fun _ _ _ _ _ => rfl,
    ⟨rfl, rfl, rfl, rfl, rfl⟩, ⟨rfl, rfl, rfl, rfl, rfl, rfl, rfl, rfl, rfl, rfl, rfl, rfl, rfl, rfl⟩, ?commands,
    fun _ _ _ hhead hfit => recExtents_extentBytes hhead hfit⟩
  case events =>
    intro e left h
    obtain ⟨hlen, hlead, htime, hmask, hslot⟩ := eventRec_layout e left h
    refine ⟨hlen, hlead, htime, hmask, fun k hk => (hslot k hk).trans ?_⟩
    cases e.body[k]?.join <;> rfl
  case received =>
    intro j b c d r s
    exact ⟨rfl, rfl, ofSpanMessage_of_short_two j r, rfl, rfl,
      fun h2 h4 => ⟨ofSpanMessage_of_other j b r h2 h4, rfl⟩⟩
  case commands =>
    intro code b2 b3 h g ignored args more hign
    exact ⟨recCode_commandBytes .., recNat_two_commandBytes ..,
      congrArg (Nat.testBit · 0) (recNat_three_commandBytes code b2 b3 h g ignored args more),
      recStream_commandBytes ..,
      fun _ _ hk => ⟨recArg_commandBytes code b2 b3 h g more hign hk,
        recArgSigned_commandBytes code b2 b3 h g more hign hk⟩,
      fun _ hv => recCookie_commandBytes code b2 b3 h g more hign hv,
      recOpenArgs_commandBytes code b2 b3 h g more hign⟩

end Sys2Proof.Machine
end

section
/-! PROOFS. What leaves every Span Service Unit and every Dispatch Arbiter as it was: the operations of the Admission Unit,
the Frame Table, the Node Ports, the monitors and the Configuration Block. -/

namespace Sys2Proof.Machine

/-- From `s` to `t` every Span Service Unit and every Dispatch Arbiter stands. -/
structure State.SameService (s t : State) : Prop where
  service : ∀ j, (t.span j).service = (s.span j).service
  arbiter : ∀ j, (t.span j).arbiter = (s.span j).arbiter

section

variable {s t u : State}

theorem State.SameService.refl (s : State) : s.SameService s := ⟨fun _ => rfl, fun _ => rfl⟩

theorem State.SameService.trans (h : s.SameService t) (h' : t.SameService u) : s.SameService u :=
  ⟨fun j => (h'.service j).trans (h.service j), fun j => (h'.arbiter j).trans (h.arbiter j)⟩

theorem State.SameService.ite {c : Prop} [Decidable c] (ht : s.SameService t) (hu : s.SameService u) :
    s.SameService (if c then t else u) := by
  split <;> assumption

theorem State.SameService.foldl {α : Type} {f : State → α → State} (h : ∀ (s : State) (x : α), s.SameService (f s x))
    (l : List α) (s : State) : s.SameService (l.foldl f s) :=
  foldl_inv s.SameService f (fun _ x hu => hu.trans (h _ x)) l s (.refl s)

/-! ## The parts of the state -/

theorem State.SameService.of_spans (h : t.spans = s.spans) : s.SameService t := by
  constructor <;> simp [State.span, h]

theorem State.sameService_modNode (s : State) (n : NodeId) (f : Node → Node) : s.SameService (s.modNode n f) := .of_spans rfl

theorem State.sameService_modStream (s : State) (h : Handle) (f : Stream → Stream) : s.SameService (s.modStream h f) :=
  .of_spans rfl

theorem State.sameService_modConfig (s : State) (f : ConfigBlock → ConfigBlock) : s.SameService (s.modConfig f) :=
  .of_spans rfl

theorem State.sameService_postAll (s : State) (rs : List Report) : s.SameService (s.postAll rs) := .of_spans rfl

theorem State.sameService_post (s : State) (r : Report) : s.SameService (s.post r) := .of_spans rfl

theorem State.sameService_modQueue (s : State) (j : SpanId) (f : SpanQueue → SpanQueue) : s.SameService (s.modQueue j f) :=
  ⟨by simp, by simp⟩

theorem State.sameService_modMonitor (s : State) (j : SpanId) (f : Monitor → Monitor) : s.SameService (s.modMonitor j f) :=
  ⟨by simp, by simp⟩

theorem State.sameService_modBudget (s : State) (j : SpanId) (f : Budget → Budget) : s.SameService (s.modBudget j f) :=
  ⟨by simp, by simp⟩

/-! ## Records written -/

theorem State.sameService_result (s : State) (n : NodeId) (c : Nat) (st : ResultStatus) (body : List Field) :
    s.SameService (s.result n c st body) := .of_spans rfl

theorem State.sameService_frameDone (s : State) (n : NodeId) (st : FrameStatus) (body : List Field) :
    s.SameService (s.frameDone n st body) := .of_spans rfl

theorem State.sameService_notifyAll (s : State) (tag : EventTag) (body : List Field) :
    s.SameService (s.notifyAll tag body) :=
  .of_spans (by simp)

theorem State.sameService_notifyOthers (s : State) (but : NodeId) (tag : EventTag) (body : List Field) :
    s.SameService (s.notifyOthers but tag body) := .of_spans (by simp)

theorem State.sameService_spanNotice (s : State) (j : SpanId) (k : SpanNotice) (more : List Field) :
    s.SameService (s.spanNotice j k more) := s.sameService_notifyAll ..

theorem State.sameService_reportLink (s : State) (j : SpanId) : s.SameService (s.reportLink j) := s.sameService_post ..

/-! ## Queues and the Frame Table -/

theorem State.sameService_rearmDeadline (s : State) (j : SpanId) : s.SameService (s.rearmDeadline j) :=
  s.sameService_modQueue ..

theorem State.sameService_rearmWindow (s : State) (j : SpanId) : s.SameService (s.rearmWindow j) := s.sameService_modQueue ..

theorem State.sameService_takeOutcome (s : State) (p : Nat) (o : PieceOutcome) : s.SameService (s.takeOutcome p o) :=
  ⟨by simp, by simp⟩

theorem State.sameService_loseQueue (s : State) (j : SpanId) : s.SameService (s.loseQueue j) := ⟨by simp, by simp⟩

theorem State.sameService_withdrawFrame (r : CancelReason) (s : State) (i : Nat) :
    s.SameService (State.withdrawFrame r s i) :=
  ⟨by simp, by simp⟩

theorem State.sameService_cancelStream (s : State) (i : StreamId) : s.SameService (s.cancelStream i) := ⟨by simp, by simp⟩

theorem State.sameService_releaseFrame (s : State) (i : Nat) : s.SameService (s.releaseFrame i) := ⟨by simp, by simp⟩

theorem State.sameService_takeLate (s : State) (l : LateFrame) : s.SameService (s.takeLate l) := by
  unfold State.takeLate
  split
  · exact .refl s
  · refine .ite ?_ (.refl s)
    split
    · exact .refl s
    · exact .ite (s.sameService_withdrawFrame ..) (.refl s)

theorem State.sameService_acceptRead (s : State) (n : NodeId) (rec : List Byte) (st : Stream) (kind : FrameKind)
    (deadline : Option Time) : s.SameService (s.acceptRead n rec st kind deadline) := by
  obtain ⟨-, hspan⟩ := s.acceptRead_frame n rec st kind deadline
  exact ⟨fun j => (hspan j).2.1, fun j => (hspan j).1⟩

theorem State.sameService_readFrame (s : State) (n : NodeId) (rec : List Byte) : s.SameService (s.readFrame n rec) := by
  have counted (h : Handle) (f : Stream → Stream) (st : FrameStatus) (body : List Field) :
      s.SameService ((s.modStream h f).frameDone n st body) := .of_spans rfl
  unfold State.readFrame
  split
  · exact s.sameService_frameDone ..
  · dsimp only
    split
    · exact .ite (counted ..) (s.sameService_acceptRead ..)
    · split
      · exact s.sameService_acceptRead ..
      · exact .ite ((s.sameService_withdrawFrame ..).trans (State.sameService_acceptRead ..)) (counted ..)

/-! ## Streams -/

theorem State.sameService_recomputeOvercommit (s : State) (j : SpanId) : s.SameService (s.recomputeOvercommit j) :=
  ⟨by simp, by simp⟩

theorem State.sameService_updateDegraded (s : State) (j : SpanId) : s.SameService (s.updateDegraded j) := .of_spans rfl

theorem State.sameService_commit (s : State) (e : SpanEntry) : s.SameService (s.commit e) :=
  (s.sameService_modBudget ..).trans (State.sameService_recomputeOvercommit ..)

theorem State.sameService_uncommit (s : State) (e : SpanEntry) : s.SameService (s.uncommit e) :=
  .ite ((s.sameService_modBudget ..).trans (State.sameService_recomputeOvercommit ..)) (.refl s)

theorem State.sameService_freeStream (s : State) (h : Handle) : s.SameService (s.freeStream h) := by
  unfold State.freeStream
  split
  · exact .refl s
  · exact (State.SameService.foldl State.sameService_uncommit _ s).trans (.of_spans rfl)

theorem State.sameService_tryOpen (s : State) (n : NodeId) (a : OpenArgs) : s.SameService (s.tryOpen n a) := by
  unfold State.tryOpen
  split
  · exact s.sameService_result ..
  · dsimp only
    split
    · exact s.sameService_result ..
    · exact .ite ((State.SameService.foldl State.sameService_commit _ s).trans (.of_spans rfl)) (s.sameService_result ..)

theorem State.sameService_releaseAbsent (s : State) (j : SpanId) : s.SameService (s.releaseAbsent j) := by
  unfold State.releaseAbsent
  extract_lets freed given released
  have hgiven : s.SameService given := s.sameService_modBudget ..
  have hreleased : s.SameService released := hgiven.trans (.of_spans rfl)
  exact hreleased.trans ((State.sameService_updateDegraded ..).trans (State.sameService_recomputeOvercommit ..))

theorem State.sameService_stopStream (s : State) (n : NodeId) (code : Nat) (i : StreamId) (st : Stream) (z : Bool) :
    s.SameService (s.stopStream n code i st z) :=
  .ite (((s.sameService_modStream ..).trans (State.sameService_result ..)).trans (State.sameService_cancelStream ..))
    (s.sameService_result ..)

theorem State.sameService_noticeOrphaned (former : NodeId) (s : State) (h : Handle) :
    s.SameService (State.noticeOrphaned former s h) := by
  unfold State.noticeOrphaned
  split
  · exact .refl s
  · exact s.sameService_notifyAll ..

theorem State.sameService_orphanExpires (s : State) (h : Handle) : s.SameService (s.orphanExpires h) := by
  unfold State.orphanExpires
  split
  · exact .refl s
  · extract_lets closed told
    have htold : s.SameService told := (s.sameService_modStream ..).trans (State.sameService_notifyAll ..)
    exact .ite (htold.trans (State.sameService_freeStream ..)) htold

theorem State.sameService_zeroGrace (s : State) (hs : List Handle) : s.SameService (s.zeroGrace hs) :=
  .ite (.foldl State.sameService_orphanExpires hs s) (.refl s)

/-! ## Nodes that leave -/

theorem State.sameService_releaseClaim (s : State) (n : NodeId) : s.SameService (s.releaseClaim n) :=
  .ite (s.sameService_modConfig ..) (.refl s)

theorem State.sameService_noticeClaim (s : State) (n : NodeId) (released : Bool) :
    s.SameService (s.noticeClaim n released) :=
  .ite (s.sameService_notifyAll ..) (.refl s)

theorem State.sameService_loseNode (s : State) (n : NodeId) (cause : LossCause) : s.SameService (s.loseNode n cause) := by
  unfold State.loseNode
  extract_lets hs held lost released told noticed
  have hlost : s.SameService (lost.leaveStreams n fun st => st.orphan lost.time lost.orphanGrace) := .of_spans rfl
  have hreleased : s.SameService released := hlost.trans (State.sameService_releaseClaim ..)
  have hnoticed : s.SameService noticed := ((hreleased.trans (State.sameService_notifyAll ..)).trans
    (told.sameService_noticeClaim ..)).trans (.foldl (State.sameService_noticeOrphaned n) _ _)
  exact (hnoticed.trans (noticed.sameService_postAll _)).trans (State.sameService_zeroGrace ..)

theorem State.sameService_detach (s : State) (n : NodeId) (handover : Bool) : s.SameService (s.detach n handover) := by
  unfold State.detach
  extract_lets hs held reads orphaned closed gone left told claim noticed answered owed
  have hgone (f : Stream → Stream) : s.SameService (gone.leaveStreams n f) := .of_spans rfl
  have hleft : s.SameService left := (hgone _).trans (State.sameService_releaseClaim ..)
  have hclaim : s.SameService claim := (hleft.trans (State.sameService_notifyAll ..)).trans (told.sameService_noticeClaim ..)
  have hnoticed : s.SameService noticed := .ite (hclaim.trans (.foldl (State.sameService_noticeOrphaned n) _ _)) hclaim
  have howed : s.SameService owed := hnoticed.trans (.of_spans rfl)
  exact .ite (howed.trans (owed.sameService_zeroGrace hs)) howed

/-! ## Monitors and parameters -/

theorem State.sameService_handOn (s : State) (j : SpanId) (before : Monitor) : s.SameService (s.handOn j before) := by
  unfold State.handOn
  extract_lets m told
  have htold : s.SameService told := .ite (s.sameService_post _) (.refl s)
  exact .ite (htold.trans (told.sameService_post _)) htold

theorem State.sameService_healthNotice (s : State) (j : SpanId) (k : SpanNotice) (more : List Field) :
    s.SameService (s.healthNotice j k more) := s.sameService_notifyAll ..

theorem State.sameService_restored (s : State) (j : SpanId) : s.SameService (s.restored j) := s.sameService_healthNotice ..

theorem State.sameService_judgeWindow (s : State) (j : SpanId) : s.SameService (s.judgeWindow j) := by
  unfold State.judgeWindow
  extract_lets before judged turned handed derated restored
  have hhanded : s.SameService handed := (s.sameService_modMonitor ..).trans (State.sameService_handOn ..)
  have hderated : s.SameService derated := .ite (hhanded.trans (State.sameService_healthNotice ..)) hhanded
  have hrestored : s.SameService restored := .ite (hderated.trans (State.sameService_restored ..)) hderated
  exact .ite (hrestored.trans (State.sameService_healthNotice ..)) hrestored

theorem State.sameService_configureCeiling (s : State) (j : SpanId) (c f : Nat) :
    s.SameService (s.configureCeiling j c f) := by
  unfold State.configureCeiling
  extract_lets before configured handed
  have hhanded : s.SameService handed :=
    ((s.sameService_modMonitor ..).trans (configured.sameService_post _)).trans (State.sameService_handOn ..)
  exact .ite (hhanded.trans (State.sameService_restored ..)) hhanded

theorem State.sameService_configureFloor (s : State) (j : SpanId) (f : Nat) : s.SameService (s.configureFloor j f) := by
  unfold State.configureFloor
  extract_lets before handed
  have hhanded : s.SameService handed := (s.sameService_modMonitor ..).trans (State.sameService_handOn ..)
  exact .ite (hhanded.trans (State.sameService_restored ..)) hhanded

theorem State.sameService_monitorTakes (j : SpanId) (s : State) (x : Nat × Nat) : s.SameService (State.monitorTakes j s x) :=
  .ite (s.sameService_configureFloor ..) (s.sameService_modMonitor ..)

theorem State.sameService_admissionTakesPart (s : State) (x : Nat × Nat) : s.SameService (s.admissionTakesPart x) := by
  unfold State.admissionTakesPart
  split <;> exact .of_spans rfl

end

end Sys2Proof.Machine
end

section
/-! PROOFS. Links, slots and selections through the operations of the Span Service Unit and the Dispatch Arbiter (R89, R105,
R115 to R122). -/

namespace Sys2Proof.Machine

/-! ## A span whose link is in order -/

section

variable {a b : SpanState}

/-- A link that is not ABSENT has its presence line asserted (R120). -/
theorem SpanState.linkOk.present (h : a.linkOk) (hl : a.service.link ≠ .absent) : a.service.presence = true := by
  obtain ⟨habsent, -⟩ := h
  cases hp : a.service.presence with
  | true => rfl
  | false => exact absurd (habsent.2 hp) hl

/-- The same link, line, hold and selections, and no slot taken. -/
theorem SpanState.linkOk.of_slots (h : a.linkOk) (hp : b.service.presence = a.service.presence)
    (hl : b.service.link = a.service.link) (hr : b.service.relinkExpiry = a.service.relinkExpiry)
    (hs : b.arbiter.selections = a.arbiter.selections)
    (hfree : ∀ k : SlotId, a.service.slots[k].state = .free → b.service.slots[k].state = .free) : b.linkOk := by
  obtain ⟨habsent, hattempt, hoff, hhold⟩ := h
  rw [SpanState.linkOk, hp, hl, hr, hs]
  exact ⟨habsent, hattempt, fun hn => ⟨fun k => hfree k ((hoff hn).1 k), (hoff hn).2⟩, hhold⟩

/-- While the link stays UP, slots may be taken and selections begun. -/
theorem SpanState.linkOk.of_up (h : a.linkOk) (hup : a.service.link = .up) (hp : b.service.presence = a.service.presence)
    (hl : b.service.link = a.service.link) (hr : b.service.relinkExpiry = a.service.relinkExpiry) : b.linkOk := by
  obtain ⟨habsent, hattempt, -, hhold⟩ := h
  rw [SpanState.linkOk, hp, hl, hr]
  exact ⟨habsent, hattempt, fun hn => absurd hup hn, hhold⟩

/-- A present span in TRAINING at an attempt from 1 to 4, or FAILED, with nothing in service. -/
theorem SpanState.linkOk_of_idle (hp : a.service.presence = true)
    (hl : (∃ n x, a.service.link = .training n x ∧ 1 ≤ n ∧ n ≤ 4) ∨ a.service.link = .failed)
    (hfree : ∀ k : SlotId, a.service.slots[k].state = .free) (hs : a.arbiter.selections = 0) : a.linkOk := by
  rcases hl with ⟨n, x, hl, h1, h4⟩ | hl <;> rw [SpanState.linkOk, hl, hp]
  · exact ⟨by simp, by simp [Link.attemptOk, Config.attempts, h1, h4], fun _ => ⟨hfree, hs⟩, by simp⟩
  · exact ⟨by simp, rfl, fun _ => ⟨hfree, hs⟩, by simp⟩

end

theorem SpanService.loseSlots_free (v : SpanService) (k : SlotId) : v.loseSlots.slots[k].state = .free := by
  rw [SpanService.loseSlots, bank8_get, Slot.lose]
  split
  · rfl
  · rename_i h
    exact (Slot.occupied_eq_false_iff _).1 (Bool.eq_false_of_not_eq_true h)

theorem SpanState.linkOk_atReset (now : Time) (presence : Bool) {slots : Vector Slot 8} (sent : List SpanMessage)
    (p : PartParams) (q : SpanParams) (hfree : ∀ k : SlotId, slots[k].state = .free) :
    (SpanState.atReset now presence slots sent p q).linkOk := by
  cases presence with
  | true => exact SpanState.linkOk_of_idle rfl (.inl ⟨1, _, rfl, by decide, by decide⟩) hfree rfl
  | false => exact ⟨by simp [SpanState.atReset, SpanService.atReset, Link.atReset], rfl, fun _ => ⟨hfree, rfl⟩, fun _ => rfl⟩

/-! ## Changes that keep every link in order -/

/-- From `s` to `t` every span whose link was in order keeps it so. -/
structure State.LinksKept (s t : State) : Prop where
  linkOk : ∀ j, (s.span j).linkOk → (t.span j).linkOk

section

variable {s t u : State}

theorem State.LinksKept.refl (s : State) : s.LinksKept s := ⟨fun _ => id⟩

theorem State.LinksKept.trans (h : s.LinksKept t) (h' : t.LinksKept u) : s.LinksKept u :=
  ⟨fun j hj => h'.linkOk j (h.linkOk j hj)⟩

theorem State.LinksKept.ite {c : Prop} [Decidable c] (ht : s.LinksKept t) (hu : s.LinksKept u) :
    s.LinksKept (if c then t else u) := by
  split <;> assumption

theorem State.SameService.linksKept (h : s.SameService t) : s.LinksKept t where
  linkOk j hj := hj.of_slots (by rw [h.service]) (by rw [h.service]) (by rw [h.service]) (by rw [h.arbiter])
    fun k hk => by rw [h.service, hk]

theorem State.linksKept_modSpan (s : State) (j : SpanId) {f : SpanState → SpanState}
    (h : (s.span j).linkOk → (f (s.span j)).linkOk) : s.LinksKept (s.modSpan j f) where
  linkOk k hk := by
    rw [State.span_modSpan]
    split
    · rename_i e
      exact h (e ▸ hk)
    · exact hk

theorem State.linksKept_modService (s : State) (j : SpanId) {f : SpanService → SpanService}
    (h : (s.span j).linkOk → SpanState.linkOk { s.span j with service := f (s.span j).service }) :
    s.LinksKept (s.modService j f) := s.linksKept_modSpan j h

/-- A change of the arbiter that begins no selection. -/
theorem State.linksKept_modArbiter (s : State) (j : SpanId) {f : Arbiter → Arbiter}
    (h : (f (s.span j).arbiter).selections ≤ (s.span j).arbiter.selections) : s.LinksKept (s.modArbiter j f) :=
  s.linksKept_modSpan j fun ⟨habsent, hattempt, hoff, hhold⟩ =>
    ⟨habsent, hattempt, fun hn => ⟨(hoff hn).1, Nat.le_zero.1 ((hoff hn).2 ▸ h)⟩, hhold⟩

/-! ## Selections and dispatch -/

theorem State.linksKept_beginSelection (s : State) (j : SpanId) : s.LinksKept (s.beginSelection j) := by
  unfold State.beginSelection
  split
  · rename_i hup
    exact s.linksKept_modSpan j fun hok => hok.of_up ((s.linkUp_iff j).1 hup) rfl rfl rfl
  · exact .refl s

theorem State.linksKept_endSelection (s : State) (j : SpanId) : s.LinksKept (s.endSelection j) :=
  s.linksKept_modArbiter j (Nat.sub_le ..)

theorem State.sameService_unlist (s : State) (j : SpanId) (p : Nat) : s.SameService (s.unlist j p) := ⟨by simp, by simp⟩

theorem State.linksKept_putInService {j : SpanId} (hup : (s.span j).service.link = .up) (k : SlotId) (p : Nat) (pc : Piece) :
    s.LinksKept (s.putInService j k p pc) := by
  unfold State.putInService
  extract_lets serving taken
  have hserving : s.LinksKept serving := State.SameService.linksKept (.of_spans rfl)
  have htaken : s.LinksKept taken :=
    hserving.trans (serving.linksKept_modService j fun hok => hok.of_up hup rfl rfl rfl)
  split
  · exact htaken
  · exact htaken.trans (State.SameService.linksKept ⟨by simp, by simp⟩)

theorem State.linksKept_dispatchOne {j : SpanId} {c : Choice} (hup : (s.span j).service.link = .up)
    (ht : s.dispatchOne j c = some t) : s.LinksKept t := by
  unfold State.dispatchOne at ht
  split at ht
  · rename_i k pc _ _
    cases ht
    have moved : s.LinksKept ((s.unlist j c.piece).modArbiter j fun a => a.moved c) :=
      (s.sameService_unlist j c.piece).linksKept.trans (State.linksKept_modArbiter _ j (by cases c <;> exact Nat.le_refl _))
    exact moved.trans (State.linksKept_putInService (by simp [hup]) k c.piece pc)
  · cases ht

/-! ## Training, and the link's leaving UP -/

/-- An attempt from 1 to 4 begun at a link in TRAINING or FAILED (R116). -/
theorem State.linksKept_train (s : State) (j : SpanId) {n : Nat} (h1 : 1 ≤ n) (h4 : n ≤ 4)
    (hup : (s.span j).service.link ≠ .up) (habsent : (s.span j).service.link ≠ .absent) :
    s.LinksKept (s.modService j fun v => v.train s.time n) := s.linksKept_modService j fun hok => by
  have hp := hok.present habsent
  obtain ⟨-, -, hoff, -⟩ := hok
  exact SpanState.linkOk_of_idle hp (.inl ⟨n, _, rfl, h1, h4⟩) (hoff hup).1 (hoff hup).2

theorem State.linksKept_holdExpires (s : State) (j : SpanId) : s.LinksKept (s.holdExpires j) := by
  have stopped : s.LinksKept (s.modService j fun v => { v with relinkExpiry := none }) :=
    s.linksKept_modService j fun ⟨habsent, hattempt, hoff, _⟩ => ⟨habsent, hattempt, hoff, fun _ => rfl⟩
  exact stopped.trans ((State.sameService_loseQueue ..).trans (State.sameService_spanNotice ..)).linksKept

theorem State.linksKept_leaveUp {j : SpanId} (hup : (s.span j).service.link = .up) (cause : LinkDownCause) :
    s.LinksKept (s.leaveUp j cause) := by
  unfold State.leaveUp
  extract_lets v lost expiry posted served stopped told
  have hstopped : s.LinksKept stopped := by
    have hposted : s.LinksKept posted := (s.sameService_postAll _).linksKept
    refine hposted.trans ?_
    unfold stopped served State.modService State.modArbiter
    rw [State.modSpan_modSpan]
    refine posted.linksKept_modSpan j fun hok => ?_
    exact SpanState.linkOk_of_idle (hok.present fun h => by cases hup.symm.trans h)
      (.inl ⟨1, _, rfl, by decide, by decide⟩) (SpanService.loseSlots_free _) rfl
  have htold : s.LinksKept told :=
    hstopped.trans ((State.sameService_reportLink ..).trans (State.sameService_spanNotice ..)).linksKept
  exact .ite (htold.trans (told.linksKept_holdExpires j)) htold

theorem State.linksKept_resetLink (s : State) (j : SpanId) : s.LinksKept (s.resetLink j) := by
  have retrained (hup : (s.span j).service.link ≠ .up) (habsent : (s.span j).service.link ≠ .absent) :=
    s.linksKept_train j (n := 1) (by decide) (by decide) hup habsent
  unfold State.resetLink
  split
  · exact State.linksKept_leaveUp ‹_› _
  · rename_i hl
    exact retrained (by simp [hl]) (by simp [hl])
  · rename_i hl
    exact (retrained (by simp [hl]) (by simp [hl])).trans (State.sameService_reportLink ..).linksKept
  · exact .refl s

/-! ## Presence -/

theorem State.span_becomeAbsent (s : State) (j k : SpanId) : (s.becomeAbsent j).span k =
    if k = j then { s.span j with
      service := { (s.span j).service.loseSlots with link := .absent, relinkExpiry := none },
      arbiter := { (s.span j).arbiter with selections := 0 } }
    else s.span k := by
  by_cases h : k = j <;> simp [State.becomeAbsent, State.spanNotice, State.span_modArbiter, State.span_modService, h]

/-- A span whose line is deasserted becomes ABSENT, whatever its link showed before (R120). -/
theorem State.linksKept_absent (s : State) (j : SpanId) :
    s.LinksKept ((s.modService j fun v => { v with presence := false }).becomeAbsent j) where
  linkOk k hk := by
    rw [State.span_becomeAbsent]
    split
    · exact ⟨by simp [SpanService.loseSlots], rfl, fun _ => ⟨SpanService.loseSlots_free _, rfl⟩, fun _ => rfl⟩
    · rename_i h
      exact (State.span_modSpan_ne s h _).symm ▸ hk

/-- A span whose line is asserted begins its first attempt (R121). -/
theorem State.linksKept_present {j : SpanId} (hl : (s.span j).service.link = .absent) :
    s.LinksKept ((s.modService j fun v => { v with presence := true }).modService j fun v => v.train s.time 1) := by
  unfold State.modService
  rw [State.modSpan_modSpan]
  refine s.linksKept_modSpan j fun ⟨_, _, hoff, _⟩ => ?_
  obtain ⟨hfree, hnone⟩ := hoff (by simp [hl])
  exact SpanState.linkOk_of_idle rfl (.inl ⟨1, _, rfl, by decide, by decide⟩) hfree hnone

/-- Slots given up, with whatever is counted at it (R105). -/
theorem State.linksKept_setSlot {j : SpanId} (k : SlotId) {w : Slot} (hw : w.state = .free) {g : SpanService → SpanService}
    (hg : ∀ v : SpanService, (g v).presence = v.presence ∧ (g v).link = v.link ∧ (g v).relinkExpiry = v.relinkExpiry ∧
      (g v).slots = v.slots.set k w) : s.LinksKept (s.modService j g) := by
  obtain ⟨hp, hl, hr, hs⟩ := hg (s.span j).service
  refine s.linksKept_modService j fun hok => hok.of_slots hp hl hr rfl fun i hi => ?_
  change (g (s.span j).service).slots[i].state = .free
  rw [hs, Fin.getElem_fin, Vector.getElem_set]
  split
  · exact hw
  · exact hi

/-- A value taken by a Span Service Unit changes neither slots nor link (R187). -/
theorem SpanService.takes_link (v : SpanService) (x : Nat × Nat) : ((v.takes x).presence, (v.takes x).link,
    (v.takes x).relinkExpiry, (v.takes x).slots) = (v.presence, v.link, v.relinkExpiry, v.slots) := by
  unfold SpanService.takes
  split <;> rfl

theorem Arbiter.takesPart_selections (a : Arbiter) (x : Nat × Nat) : (a.takesPart x).selections = a.selections := by
  unfold Arbiter.takesPart
  split <;> rfl

theorem Arbiter.takesSpan_selections (a : Arbiter) (x : Nat × Nat) : (a.takesSpan x).selections = a.selections := by
  unfold Arbiter.takesSpan
  split <;> rfl

theorem State.linksKept_takeParams (s : State) (b : ParamBlock) (scope : Option SpanId) (vs : List (Nat × Nat)) :
    s.LinksKept (s.takeParams b scope vs) := by
  unfold State.takeParams
  split
  · exact (State.SameService.foldl State.sameService_admissionTakesPart vs s).linksKept
  · exact (s.sameService_modBudget ..).linksKept
  · exact State.SameService.linksKept (.of_spans rfl)
  · exact (s.sameService_modNode ..).linksKept
  · rename_i j
    have taken : s.LinksKept (s.modArbiter j fun a => vs.foldl Arbiter.takesPart a) :=
      s.linksKept_modArbiter j (foldl_keeps Arbiter.selections _ Arbiter.takesPart_selections vs _).le
    exact (taken.trans (State.sameService_rearmWindow ..).linksKept).trans (State.linksKept_beginSelection ..)
  · rename_i j _
    have taken : s.LinksKept (s.modArbiter j fun a => vs.foldl Arbiter.takesSpan a) :=
      s.linksKept_modArbiter j (foldl_keeps Arbiter.selections _ Arbiter.takesSpan_selections vs _).le
    exact taken.trans (State.linksKept_beginSelection ..)
  · exact (State.SameService.foldl (State.sameService_monitorTakes _) vs s).linksKept
  · rename_i j
    have hkept := foldl_keeps (fun v : SpanService => (v.presence, v.link, v.relinkExpiry, v.slots)) _
      SpanService.takes_link vs (s.span j).service
    simp only [Prod.mk.injEq] at hkept
    obtain ⟨hp, hl, hr, hs⟩ := hkept
    exact s.linksKept_modService j fun hok => hok.of_slots hp hl hr rfl fun k hk => by rw [hs, hk]

end

end Sys2Proof.Machine
end

section
/-! PROOFS. Every row, and so every step, keeps each link in order with its presence line, slots, selections and hold. -/

namespace Sys2Proof.Machine

open Host (Outcome)

/-- An event after which every link that was in order still is. -/
def KeepsLinks (s : State) (o : Outcome State Fault Refusal) : Prop := ∀ t, o = .next t → s.LinksKept t

section

variable {s t u : State} {n : NodeId} {code : Nat}

theorem KeepsLinks.next (h : s.LinksKept t) : KeepsLinks s (.next t) := fun _ e => by
  cases e
  exact h

theorem KeepsLinks.same (h : s.SameService t) : KeepsLinks s (.next t) := .next h.linksKept

theorem KeepsLinks.stay (s : State) : KeepsLinks s (.next s) := .next (.refl s)

theorem KeepsLinks.stay_or {c : Prop} [Decidable c] (h : c → s.LinksKept t) :
    KeepsLinks s (if c then .next t else .next s) := by
  split
  · exact .next (h ‹_›)
  · exact .stay s

theorem KeepsLinks.stay_or_same {c : Prop} [Decidable c] (h : s.SameService t) :
    KeepsLinks s (if c then .next t else .next s) := .stay_or fun _ => h.linksKept

/-! ## Reports and commands taken -/

theorem withReport_links {channel : Report → Bool} {act : Report → State → Option State}
    (h : ∀ r u t, act r u = some t → u.LinksKept t) : KeepsLinks s (withReport s channel act) := fun t ht => by
  rcases withReport_cases ht with rfl | ⟨r, before, after, -, ht⟩
  · exact .refl t
  · have taken : s.SameService { s with reports := before ++ after } := .of_spans rfl
    exact taken.linksKept.trans (h r _ t ht)

/-- The same for an event whose action always goes on. -/
theorem withReport_some_links {channel : Report → Bool} {f : Report → State → State}
    (h : ∀ r (u : State), u.LinksKept (f r u)) : KeepsLinks s (withReport s channel fun r u => some (f r u)) :=
  withReport_links fun r u t e => by
    cases e
    exact h r u

/-- An event that takes only reports of its own kind. -/
theorem links_of_match (h : s.LinksKept u) (e : some u = some t) : s.LinksKept t := by
  cases e
  exact h

theorem withCommand_links {act : List Byte → State → State} (h : ∀ rec (u : State), u.LinksKept (act rec u)) :
    KeepsLinks s (withCommand n code s act) := fun t ht => by
  rcases withCommand_cases ht with rfl | ⟨rec, rest, -, rfl⟩
  · exact .refl t
  · exact (s.sameService_modNode n _).linksKept.trans (h rec _)

theorem withAttached_links {act : List Byte → State → State} (h : ∀ rec (u : State), u.LinksKept (act rec u)) :
    KeepsLinks s (withAttached n code s act) :=
  withCommand_links fun rec u => .ite (h rec u) (u.sameService_result ..).linksKept

theorem withClaim_links {act : List Byte → State → State} (h : ∀ rec (u : State), u.LinksKept (act rec u)) :
    KeepsLinks s (withClaim n code s act) :=
  withAttached_links fun rec u => .ite (h rec u) (u.sameService_result ..).linksKept

theorem withAttached_same {act : List Byte → State → State} (h : ∀ rec (u : State), u.SameService (act rec u)) :
    KeepsLinks s (withAttached n code s act) := withAttached_links fun rec u => (h rec u).linksKept

theorem withClaim_same {act : List Byte → State → State} (h : ∀ rec (u : State), u.SameService (act rec u)) :
    KeepsLinks s (withClaim n code s act) := withClaim_links fun rec u => (h rec u).linksKept

theorem sameService_withOwned {i : StreamId} {act : Stream → State → State} (h : ∀ st, s.SameService (act st s)) :
    s.SameService (s.withOwned n code i act) := by
  unfold State.withOwned
  split
  · exact s.sameService_result ..
  · exact .ite (h _) (s.sameService_result ..)

theorem windowAccess_links {f : Node → Node} (s : State) :
    KeepsLinks s (if (s.node n).linkUp then .next (s.modNode n f) else .next s) := .stay_or_same (s.sameService_modNode ..)

/-! ## Resets -/

theorem powerOnReset_links (s : State) : KeepsLinks s (execPowerOnReset s) := .next ⟨fun j _ => by
  change ((State.cold (bank8 fun j => (s.span j).service.presence) (bank4 fun n => (s.node n).linkUp)).span j).linkOk
  rw [State.cold, State.span, bank8_get]
  exact SpanState.linkOk_atReset _ _ _ _ _ fun k => by rw [bank8_get]; rfl⟩

theorem linksKept_warmReset (s : State) (kind : ResetKind) : s.LinksKept (s.warmReset kind) := ⟨fun j _ => by
  rw [State.warmReset, State.span, bank8_get]
  exact SpanState.linkOk_atReset _ _ _ _ _ fun k => by rw [bank8_get]; rfl⟩

/-! ## The rows of the streams and the nodes -/

theorem unknownCommand_links (n : NodeId) (s : State) : KeepsLinks s (execUnknownCommand n s) := by
  unfold execUnknownCommand
  split
  · exact .stay s
  · exact .stay_or_same (.of_spans rfl)

theorem attach_links (n : NodeId) (s : State) : KeepsLinks s (execAttach n s) :=
  withCommand_links fun _ u => .ite (u.sameService_result ..).linksKept
    (((u.sameService_modNode ..).trans (State.sameService_notifyOthers ..)).trans (State.sameService_result ..)).linksKept

theorem clearNodeFlags_links (n : NodeId) (s : State) : KeepsLinks s (execClearNodeFlags n s) :=
  withAttached_same fun _ u => (u.sameService_modNode ..).trans (State.sameService_result ..)

theorem queryPart_links (n : NodeId) (s : State) : KeepsLinks s (execQueryPart n s) :=
  withCommand_links fun _ u => (u.sameService_result ..).linksKept

theorem configEnd_links (n : NodeId) (s : State) : KeepsLinks s (execConfigEnd n s) :=
  withClaim_same fun _ u => (u.sameService_modConfig ..).trans (State.sameService_result ..)

theorem heartbeat_links (n : NodeId) (s : State) : KeepsLinks s (execHeartbeat n s) := by
  refine withAttached_same fun _ u => ?_
  split
  · exact u.sameService_result ..
  · exact .ite (.of_spans rfl) (.of_spans rfl)

theorem closeStream_links (n : NodeId) (s : State) : KeepsLinks s (execCloseStream n s) :=
  withAttached_same fun _ u => sameService_withOwned fun _ => .ite (u.sameService_result ..)
    (((u.sameService_modStream ..).trans (State.sameService_result ..)).trans (State.sameService_cancelStream ..))

theorem adopt_links (n : NodeId) (s : State) : KeepsLinks s (execAdopt n s) := by
  refine withAttached_same fun rec u => ?_
  extract_lets i
  split
  · exact u.sameService_result ..
  · exact .ite (((u.sameService_modStream ..).trans (State.sameService_result ..)).trans (State.sameService_notifyAll ..))
      (u.sameService_result ..)

theorem queryStream_links (n : NodeId) (s : State) : KeepsLinks s (execQueryStream n s) := by
  refine withAttached_same fun rec u => ?_
  split <;> exact u.sameService_result ..

theorem play_links (n : NodeId) (s : State) : KeepsLinks s (execPlay n s) :=
  withAttached_same fun _ u => sameService_withOwned fun _ =>
    .ite (u.sameService_stopStream ..) (.ite (u.sameService_result ..) (.ite (u.sameService_result ..)
      (((u.sameService_modStream ..).trans (State.sameService_result ..)).trans (State.sameService_cancelStream ..))))

theorem scrub_links (n : NodeId) (s : State) : KeepsLinks s (execScrub n s) :=
  withAttached_same fun _ u => sameService_withOwned fun _ =>
    .ite (((u.sameService_modStream ..).trans (State.sameService_result ..)).trans (State.sameService_cancelStream ..))
      (u.sameService_result ..)

theorem querySpan_links (n : NodeId) (s : State) : KeepsLinks s (execQuerySpan n s) := by
  refine withAttached_same fun rec u => ?_
  split <;> exact u.sameService_result ..

theorem clearTrip_links (n : NodeId) (s : State) : KeepsLinks s (execClearTrip n s) := by
  refine withClaim_same fun rec u => ?_
  split
  · exact u.sameService_result ..
  · exact .ite (u.sameService_result ..) (.ite (u.sameService_result ..)
      ((((u.sameService_modMonitor ..).trans (State.sameService_handOn ..)).trans (State.sameService_result ..)).trans
        (State.sameService_healthNotice ..)))

theorem ackSpanStatus_links (n : NodeId) (s : State) : KeepsLinks s (execAckSpanStatus n s) := by
  refine withAttached_same fun rec u => ?_
  split
  · exact u.sameService_result ..
  · exact (u.sameService_modMonitor ..).trans (State.sameService_result ..)

theorem linkReset_links (n : NodeId) (s : State) : KeepsLinks s (execLinkReset n s) := by
  refine withClaim_links fun rec u => ?_
  split
  · exact (u.sameService_result ..).linksKept
  · exact .ite (u.sameService_result ..).linksKept ((u.sameService_result ..).linksKept.trans (State.linksKept_resetLink ..))

theorem configBegin_links (n : NodeId) (s : State) : KeepsLinks s (execConfigBegin n s) := by
  refine withAttached_same fun rec u => ?_
  split
  · exact .of_spans rfl
  · exact .ite (u.sameService_result ..) (u.sameService_result ..)

theorem configSet_links (n : NodeId) (s : State) : KeepsLinks s (execConfigSet n s) := by
  refine withClaim_same fun rec u => ?_
  split
  · exact u.sameService_result ..
  · exact .of_spans rfl
  · exact .of_spans rfl

theorem configGet_links (n : NodeId) (s : State) : KeepsLinks s (execConfigGet n s) := by
  refine withAttached_same fun rec u => ?_
  extract_lets named
  split <;> exact u.sameService_result ..

theorem heartbeatTimerExpiry_links (n : NodeId) (s : State) : KeepsLinks s (execHeartbeatTimerExpiry n s) := by
  unfold execHeartbeatTimerExpiry
  split
  · exact .stay s
  · exact .stay_or_same (s.sameService_loseNode ..)

theorem pcieLinkDown_links (n : NodeId) (s : State) : KeepsLinks s (execPcieLinkDown n s) := by
  unfold execPcieLinkDown
  extract_lets u
  have down : s.SameService u := s.sameService_modNode ..
  split
  · exact .same (down.trans (u.sameService_loseNode ..))
  · exact .same down

theorem pcieLinkUp_links (n : NodeId) (s : State) : KeepsLinks s (execPcieLinkUp n s) := by
  unfold execPcieLinkUp
  split
  · exact .stay s
  · exact .same (s.sameService_modNode ..)

theorem orphanTimerExpiry_links (h : Handle) (s : State) : KeepsLinks s (execOrphanTimerExpiry h s) := by
  unfold execOrphanTimerExpiry
  split
  · exact .stay s
  · split
    · exact .stay s
    · exact .stay_or_same (s.sameService_orphanExpires ..)

theorem drainEnd_links (h : Handle) (s : State) : KeepsLinks s (execDrainEnd h s) := by
  unfold execDrainEnd
  split
  · exact .stay s
  · exact .stay_or_same (s.sameService_freeStream ..)

/-! ## The rows of the queues and the arbiters -/

theorem deadlineExpiry_links (j : SpanId) (s : State) : KeepsLinks s (execDeadlineExpiry j s) := by
  unfold execDeadlineExpiry
  split
  · exact .stay s
  · exact .stay_or_same ((s.sameService_postAll _).trans (State.sameService_rearmDeadline ..))

theorem windowOpeningExpiry_links (j : SpanId) (s : State) : KeepsLinks s (execWindowOpeningExpiry j s) := by
  unfold execWindowOpeningExpiry
  split
  · exact .stay s
  · exact .stay_or_same ((s.sameService_modQueue ..).trans (State.sameService_post ..))

theorem settleTimerExpiry_links (h : Handle) (s : State) : KeepsLinks s (execSettleTimerExpiry h s) := by
  unfold execSettleTimerExpiry
  split
  · exact .stay s
  · split
    · exact .stay s
    · exact .stay_or_same ((s.sameService_modStream ..).trans (.foldl State.sameService_releaseFrame _ _))

theorem dispatch_links (j : SpanId) (s : State) : KeepsLinks s (execDispatch j s) := by
  have ended : KeepsLinks s (.next (s.endSelection j)) := .next (s.linksKept_endSelection j)
  unfold execDispatch
  split
  · exact .stay s
  · split
    · rename_i hup
      split
      · exact ended
      · split
        · exact ended
        · rename_i ht
          exact .next (State.linksKept_dispatchOne ((s.linkUp_iff j).1 hup) ht)
    · exact ended

theorem maskWrite_links (j : SpanId) (s : State) : KeepsLinks s (execMaskWrite j s) := by
  refine withReport_links fun r u t e => ?_
  split at e
  · refine links_of_match (.ite (.refl u) ?_) e
    exact (u.linksKept_modArbiter j (Nat.le_refl _)).trans (State.linksKept_beginSelection ..)
  · cases e

/-! ## The rows of the Span Service Unit -/

theorem linksKept_stale (s : State) (j : SpanId) : s.LinksKept (s.modService j SpanService.stale) :=
  s.linksKept_modService j fun hok => hok.of_slots rfl rfl rfl rfl fun _ => id

theorem extentDone_links (j : SpanId) (slot gen result : Byte) (s : State) :
    KeepsLinks s (execExtentDone j slot gen result s) := by
  have stale : KeepsLinks s (.next (s.modService j SpanService.stale)) := .next (linksKept_stale s j)
  unfold execExtentDone
  split
  · exact stale
  · rename_i k hk
    extract_lets w
    split
    · split
      · have vacated : s.LinksKept (s.modService j fun v => v.setSlot k w.release) :=
          State.linksKept_setSlot k (w := w.release) rfl fun _ => ⟨rfl, rfl, rfl, rfl⟩
        exact .next (vacated.trans (((State.sameService_post ..).trans (State.sameService_postAll ..)).linksKept))
      · have vacated : s.LinksKept (s.modService j fun v => (v.setSlot k w.release).stale) :=
          State.linksKept_setSlot k (w := w.release) rfl fun _ => ⟨rfl, rfl, rfl, rfl⟩
        exact .next (vacated.trans (State.sameService_post ..).linksKept)
      · exact stale
    · exact stale

theorem slotExpiry_links (j : SpanId) (k : SlotId) (s : State) : KeepsLinks s (execSlotExpiry j k s) := by
  unfold execSlotExpiry
  extract_lets w
  split
  · rename_i p d e hw
    refine .stay_or fun _ => (s.linksKept_modService j fun hok => ?_).trans (State.sameService_postAll ..).linksKept
    have hup : (s.span j).service.link = .up := by
      obtain ⟨-, -, hoff, -⟩ := hok
      by_contra hn
      exact SlotState.noConfusion (hw.symm.trans ((hoff hn).1 k))
    exact hok.of_up hup rfl rfl rfl
  · exact .stay s

/-- The present attempt answered: the hold stops and the link is UP (R116). -/
theorem linksKept_ready (s : State) (j : SpanId) (habsent : (s.span j).service.link ≠ .absent) :
    s.LinksKept (s.modService j fun v => { v with link := .up, relinkExpiry := none }) :=
  s.linksKept_modService j fun hok =>
    ⟨by simp [hok.present habsent], rfl, fun hn => absurd rfl hn, fun _ => rfl⟩

theorem ready_links (j : SpanId) (attempt : Byte) (s : State) : KeepsLinks s (execReady j attempt s) := by
  unfold execReady
  split
  · rename_i a x hl
    exact .stay_or fun _ => (linksKept_ready s j (by simp [hl])).trans
      (((State.sameService_reportLink ..).trans (State.sameService_post ..)).trans
        (State.sameService_spanNotice ..)).linksKept
  · exact .stay s

/-- The fourth attempt expired (R116). -/
theorem linksKept_failed (s : State) (j : SpanId) (hup : (s.span j).service.link ≠ .up)
    (habsent : (s.span j).service.link ≠ .absent) : s.LinksKept (s.modService j fun v => { v with link := .failed }) :=
  s.linksKept_modService j fun hok => by
    have hp := hok.present habsent
    obtain ⟨-, -, hoff, -⟩ := hok
    exact SpanState.linkOk_of_idle hp (.inr rfl) (hoff hup).1 (hoff hup).2

theorem trainingAttemptExpiry_links (j : SpanId) (s : State) : KeepsLinks s (execTrainingAttemptExpiry j s) := by
  unfold execTrainingAttemptExpiry
  split
  · rename_i a x hl
    have hup : (s.span j).service.link ≠ .up := by simp [hl]
    have habsent : (s.span j).service.link ≠ .absent := by simp [hl]
    split
    · split
      · rename_i ha
        exact .next (s.linksKept_train j (Nat.le_add_left ..) ha hup habsent)
      · exact .next ((linksKept_failed s j hup habsent).trans
          ((State.sameService_spanNotice ..).trans (State.sameService_reportLink ..)).linksKept)
    · exact .stay s
  · exact .stay s

theorem linkLossIndication_links (j : SpanId) (s : State) : KeepsLinks s (execLinkLossIndication j s) := by
  refine .stay_or fun hup => ?_
  have hup : (s.span j).service.link = .up := (s.linkUp_iff j).1 hup
  exact (s.linksKept_modService j fun hok => hok.of_up hup rfl rfl rfl).trans (State.linksKept_leaveUp (by simp [hup]) _)

theorem relinkHoldExpiry_links (j : SpanId) (s : State) : KeepsLinks s (execRelinkHoldExpiry j s) := by
  unfold execRelinkHoldExpiry
  split
  · exact .stay s
  · exact .stay_or fun _ => s.linksKept_holdExpires j

theorem presenceDeasserted_links (j : SpanId) (s : State) : KeepsLinks s (execPresenceDeasserted j s) := by
  unfold execPresenceDeasserted
  extract_lets u
  split
  · rename_i hl
    refine .next (s.linksKept_modService j fun ⟨habsent, hattempt, hoff, hhold⟩ => ⟨?_, hattempt, hoff, hhold⟩)
    simpa [u] using hl
  · exact .next (s.linksKept_absent j)

theorem presenceAsserted_links (j : SpanId) (s : State) : KeepsLinks s (execPresenceAsserted j s) := by
  unfold execPresenceAsserted
  extract_lets u
  split
  · rename_i hl
    exact .next ((State.linksKept_present (s := s) (by simpa [u] using hl)).trans
      ((State.sameService_spanNotice ..).trans (State.sameService_reportLink ..)).linksKept)
  · rename_i hl
    refine .next (s.linksKept_modService j fun hok => hok.of_slots ?_ rfl rfl rfl fun _ => id)
    exact (hok.present (by simpa [u] using hl)).symm

/-! ## The rows that take a report -/

theorem absentRelease_links (j : SpanId) (s : State) : KeepsLinks s (execAbsentRelease j s) := by
  refine withReport_links fun r u t e => ?_
  split at e
  · exact links_of_match (u.sameService_releaseAbsent ..).linksKept e
  · cases e

theorem linkStateReport_links (j : SpanId) (s : State) : KeepsLinks s (execLinkStateReport j s) := by
  refine withReport_links fun r u t e => ?_
  split at e
  · exact links_of_match ((u.sameService_modBudget ..).trans (State.sameService_updateDegraded ..)).linksKept e
  · cases e

theorem ceilingReport_links (j : SpanId) (s : State) : KeepsLinks s (execCeilingReport j s) := by
  refine withReport_links fun r u t e => ?_
  split at e
  · exact links_of_match ((u.sameService_modBudget ..).trans (State.sameService_recomputeOvercommit ..)).linksKept e
  · cases e

theorem cancelUndispatched_links (h : Handle) (s : State) : KeepsLinks s (execCancelUndispatched h s) := by
  refine withReport_links fun r u t e => ?_
  split at e
  · exact links_of_match (State.SameService.foldl (State.sameService_withdrawFrame .cancelled) _ u).linksKept e
  · cases e

theorem pieceOutcome_links (p : Nat) (s : State) : KeepsLinks s (execPieceOutcome p s) := by
  refine withReport_links fun r u t e => ?_
  split at e
  · exact links_of_match (u.sameService_takeOutcome ..).linksKept e
  · cases e

theorem lateReport_links (j : SpanId) (s : State) : KeepsLinks s (execLateReport j s) := by
  refine withReport_links fun r u t e => ?_
  split at e
  · exact links_of_match (u.sameService_takeLate _).linksKept e
  · cases e

theorem latencyReport_links (j : SpanId) (s : State) : KeepsLinks s (execLatencyReport j s) := by
  refine withReport_links fun r u t e => ?_
  split at e
  · exact links_of_match (u.sameService_modMonitor ..).linksKept e
  · cases e

theorem parameterReport_links (b : ParamBlock) (s : State) : KeepsLinks s (execParameterReport b s) := by
  refine withReport_links fun r u t e => ?_
  split at e
  · exact links_of_match (u.linksKept_takeParams ..) e
  · cases e

theorem configuredCeilingChange_links (j : SpanId) (s : State) : KeepsLinks s (execConfiguredCeilingChange j s) := by
  refine withReport_links fun r u t e => ?_
  split at e
  · exact links_of_match (u.sameService_configureCeiling ..).linksKept e
  · cases e

theorem monitorAbsent_links (j : SpanId) (s : State) : KeepsLinks s (execMonitorAbsent j s) :=
  withReport_some_links fun _ u =>
    have handed := (u.sameService_modMonitor j fun m => m.forget u.time).trans
      (State.sameService_handOn _ j (u.span j).monitor)
    .ite (handed.trans (State.sameService_restored ..)).linksKept handed.linksKept

/-! ## All rows, and the step -/

/-- Each row: the ones that leave Span Service Units and arbiters alone by that, the others by the link's states. -/
theorem exec_links (c : Instr) (s : State) : KeepsLinks s (exec c s) := by
  cases c with
  | powerOnReset => exact powerOnReset_links s
  | resetPin => exact .next (linksKept_warmReset ..)
  | commandWindowWrite n bytes => exact windowAccess_links s
  | eventWindowRead n len => exact windowAccess_links s
  | windowAccessIgnored n access => exact windowAccess_links s
  | unknownCommand n => exact unknownCommand_links n s
  | attach n => exact attach_links n s
  | detach n => exact withAttached_same fun _ u => u.sameService_detach ..
  | heartbeat n => exact heartbeat_links n s
  | clearNodeFlags n => exact clearNodeFlags_links n s
  | queryPart n => exact queryPart_links n s
  | openStream n => exact withAttached_same fun _ u => u.sameService_tryOpen ..
  | closeStream n => exact closeStream_links n s
  | adopt n => exact adopt_links n s
  | queryStream n => exact queryStream_links n s
  | play n => exact play_links n s
  | stop n => exact withAttached_same fun _ u => sameService_withOwned fun _ => u.sameService_stopStream ..
  | scrub n => exact scrub_links n s
  | frameRead n => exact withCommand_links fun _ u => (u.sameService_readFrame ..).linksKept
  | querySpan n => exact querySpan_links n s
  | clearTrip n => exact clearTrip_links n s
  | ackSpanStatus n => exact ackSpanStatus_links n s
  | linkReset n => exact linkReset_links n s
  | configBegin n => exact configBegin_links n s
  | configSet n => exact configSet_links n s
  | configGet n => exact configGet_links n s
  | configEnd n => exact configEnd_links n s
  | partReset n => exact withClaim_links fun _ _ => linksKept_warmReset ..
  | pcieLinkDown n => exact pcieLinkDown_links n s
  | pcieLinkUp n => exact pcieLinkUp_links n s
  | heartbeatTimerExpiry n => exact heartbeatTimerExpiry_links n s
  | orphanTimerExpiry h => exact orphanTimerExpiry_links h s
  | cancelUndispatched h => exact cancelUndispatched_links h s
  | drainEnd h => exact drainEnd_links h s
  | absentRelease j => exact absentRelease_links j s
  | linkStateReport j => exact linkStateReport_links j s
  | ceilingReport j => exact ceilingReport_links j s
  | pieceOutcome p => exact pieceOutcome_links p s
  | deadlineExpiry j => exact deadlineExpiry_links j s
  | lateReport j => exact lateReport_links j s
  | windowOpeningExpiry j => exact windowOpeningExpiry_links j s
  | selection j => exact withReport_some_links fun _ u => u.linksKept_beginSelection j
  | dispatch j => exact dispatch_links j s
  | maskWrite j => exact maskWrite_links j s
  | settleTimerExpiry h => exact settleTimerExpiry_links h s
  | extentDone j slot gen result => exact extentDone_links j slot gen result s
  | slotExpiry j k => exact slotExpiry_links j k s
  | ready j attempt => exact ready_links j attempt s
  | trainingAttemptExpiry j => exact trainingAttemptExpiry_links j s
  | linkLossIndication j => exact linkLossIndication_links j s
  | relinkHoldExpiry j => exact relinkHoldExpiry_links j s
  | queueSpanLoss j => exact withReport_some_links fun _ u => (u.sameService_loseQueue j).linksKept
  | presenceDeasserted j => exact presenceDeasserted_links j s
  | presenceAsserted j => exact presenceAsserted_links j s
  | spanMessageOther j bytes => exact .stay s
  | latencyReport j => exact latencyReport_links j s
  | tripClassEvent j => exact withReport_some_links fun _ u => (u.sameService_modMonitor ..).linksKept
  | monitorWindowExpiry j => exact .stay_or_same (s.sameService_judgeWindow j)
  | monitorAbsent j => exact monitorAbsent_links j s
  | parameterReport b => exact parameterReport_links b s
  | configuredCeilingChange j => exact configuredCeilingChange_links j s

end

/-- Settles O55: each row keeps every span's link in order, and a microsecond passing touches no span. -/
theorem stepKeepsSlotsFreeOffAnUpLink : Obligations.StepKeepsSlotsFreeOffAnUpLink := by
  intro s t hs ht j
  rcases step_cases ht with ⟨c, rest, ht⟩ | rfl
  · exact (exec_links c { s with pending := rest } t ht).linkOk j (hs j)
  · exact hs j

end Sys2Proof.Machine
end

section
/-! PROOFS. The choice of a dispatch: class gates, turns of the nodes among equal deadlines, and the round of the streams
(R91 to R94, R98). -/

namespace Sys2Proof.Machine

/-! ## The gates -/

/-- The gate of a deadline piece's class is open at an occupancy (R91). -/
def Arbiter.Opens (a : Arbiter) (occ : Nat) (k : Urgency) : Prop :=
  ((k = .late ∨ k = .urgent ∨ k = .due) ∧ occ < a.depth) ∨
  (k = .ahead ∧ (occ + 1 < a.depth ∨ (a.depth = 1 ∧ occ = 0)))

theorem Arbiter.opens_iff (a : Arbiter) (occ : Nat) (k : Urgency) :
    a.Opens occ k ↔ k ≠ .background ∧ a.gate occ k = true := by
  cases k <;> simp [Arbiter.Opens, Arbiter.gate]

theorem Arbiter.gate_background_iff (a : Arbiter) (occ : Nat) : a.gate occ .background = true ↔
    a.masked = false ∧ (occ < a.backgroundShare ∨ (a.backgroundShare = 0 ∧ occ = 0)) := by
  simp [Arbiter.gate]

theorem Arbiter.classOf_ne_background (a : Arbiter) (now d : Time) : a.classOf now d ≠ .background := by
  unfold Arbiter.classOf
  dsimp only
  split_ifs <;> nofun

/-! ## The turn of the nodes -/

theorem rotationFrom_complete : ∀ ptr n : NodeId, n ∈ rotationFrom ptr := by decide

theorem rotationFrom_ascends : ∀ ptr : NodeId,
    (rotationFrom ptr).Pairwise fun m n => (m - ptr - 1 : NodeId) < (n - ptr - 1 : NodeId) := by decide

/-- The first node of the rotation that passes a test is the one nearest after the pointer (R93). -/
theorem find?_rotationFrom {ptr n : NodeId} {test : NodeId → Bool} (h : (rotationFrom ptr).find? test = some n) :
    test n = true ∧ ∀ m, test m = true → (n - ptr - 1 : NodeId) ≤ (m - ptr - 1 : NodeId) := by
  obtain ⟨hn, front, back, hsplit, hfront⟩ := List.find?_eq_some_iff_append.1 h
  refine ⟨hn, fun m hm => ?_⟩
  have hascends := rotationFrom_ascends ptr
  have hmem := rotationFrom_complete ptr m
  rw [hsplit] at hascends hmem
  rcases List.mem_append.1 hmem with hin | hin
  · exact absurd hm (by simpa using hfront m hin)
  · rcases List.mem_cons.1 hin with rfl | hin
    · exact Nat.le_refl _
    · exact ((List.pairwise_cons.1 (List.pairwise_append.1 hascends).2.1).1 m hin).le

theorem chooseTied_of_two {ptr : NodeId} {ties : List Waiting} (h : 2 ≤ ties.length) : chooseTied ptr ties =
    match (rotationFrom ptr).find? fun n => ties.any fun w => decide (w.node = n) with
    | none => none
    | some n => (ties.find? fun w => decide (w.node = n)).map fun w => (w.piece, n) := by
  match ties, h with
  | _ :: _ :: _, _ => rfl

/-- The choice among tied pieces: one alone leaves the pointer; of several, the first piece of the first node after the
pointer that has one, and the pointer moves to that node (R93). -/
theorem chooseTied_spec {ptr r : NodeId} {ties : List Waiting} {p : Nat} (h : chooseTied ptr ties = some (p, r)) :
    ∃ w ∈ ties, w.piece = p ∧ (ties.length = 1 → r = ptr) ∧ (2 ≤ ties.length → r = w.node ∧
      (∀ x ∈ ties, ((w.node - ptr - 1 : NodeId) : Nat) ≤ ((x.node - ptr - 1 : NodeId) : Nat)) ∧
      (ties.filter fun x => decide (x.node = w.node)).head? = some w) := by
  rcases ties with _ | ⟨w, _ | ⟨y, rest⟩⟩
  · cases h
  · cases h
    exact ⟨w, List.mem_singleton.2 rfl, rfl, fun _ => rfl, fun htwo => absurd htwo (by simp)⟩
  · rw [chooseTied_of_two (by simp)] at h
    split at h
    · cases h
    · rename_i n hn
      obtain ⟨-, hnear⟩ := find?_rotationFrom hn
      obtain ⟨v, hv, heq⟩ := Option.map_eq_some_iff.1 h
      cases heq
      obtain rfl : v.node = r := by simpa using List.find?_some hv
      exact ⟨v, List.mem_of_find?_eq_some hv, rfl, fun hone => absurd hone (by simp), fun _ =>
        ⟨rfl, fun x hx => hnear x.node (List.any_eq_true.2 ⟨x, hx, by simp⟩), by rw [List.head?_filter, hv]⟩⟩

theorem exists_chooseTied (ptr : NodeId) {ties : List Waiting} (h : ties ≠ []) : ∃ x, chooseTied ptr ties = some x := by
  rcases ties with _ | ⟨w, _ | ⟨y, rest⟩⟩
  · exact absurd rfl h
  · exact ⟨_, rfl⟩
  · rw [chooseTied_of_two (by simp)]
    split
    · rename_i hnone
      exact absurd (List.find?_eq_none.1 hnone w.node (rotationFrom_complete ptr _)) (by simp)
    · rename_i n hn
      obtain ⟨hany, -⟩ := find?_rotationFrom hn
      obtain ⟨x, hx⟩ := Option.isSome_iff_exists.1 (List.find?_isSome.2 (List.any_eq_true.1 hany))
      exact ⟨_, by rw [hx]; rfl⟩

/-! ## The round of the streams -/

/-- Of the least elements of a list, `List.argmin` is the one that stands first. -/
theorem eq_of_mem_argmin {α : Type} [DecidableEq α] {f : α → Nat} {l front back : List α} {m q : α} (hm : m ∈ l.argmin f)
    (hl : l = front ++ q :: back) (hfront : m ∉ front) (hq : f q ≤ f m) : m = q := by
  subst hl
  obtain ⟨-, -, hfirst⟩ := List.mem_argmin_iff.1 hm
  have hidx := hfirst q (by simp) hq
  by_contra hne
  by_cases hqf : q ∈ front
  · have hlt := List.idxOf_lt_length_iff.2 hqf
    rw [List.idxOf_append_of_notMem hfront, List.idxOf_append_of_mem hqf] at hidx
    omega
  · rw [List.idxOf_append_of_notMem hfront, List.idxOf_append_of_notMem hqf, List.idxOf_cons_self,
      List.idxOf_cons_ne _ (Ne.symm hne)] at hidx
    omega

section

variable {s : State} {j : SpanId}

/-- The background pieces of frames, each with its stream's handle, in the order of the list. -/
def State.roundOf (s : State) (j : SpanId) : List (Nat × Handle) :=
  (s.span j).queue.background.filterMap fun p => (s.handleOf p).map fun h => (p, h)

theorem State.mem_roundOf {p : Nat} {h : Handle} :
    (p, h) ∈ s.roundOf j ↔ p ∈ (s.span j).queue.background ∧ s.handleOf p = some h := by
  unfold State.roundOf
  simp only [List.mem_filterMap, Option.map_eq_some_iff, Prod.mk.injEq]
  constructor
  · rintro ⟨q, hq, g, hg, rfl, rfl⟩
    exact ⟨hq, hg⟩
  · rintro ⟨hp, hh⟩
    exact ⟨p, hp, h, hh, rfl, rfl⟩

/-- The background choice is the first of the pieces that stand nearest in the round (R94). -/
theorem State.chooseBackground_eq (s : State) (j : SpanId) : s.chooseBackground j =
    (s.roundOf j).argmin fun x => roundDistance (s.span j).arbiter.backgroundPtr x.2 := by
  unfold State.chooseBackground List.argmin State.roundOf
  refine congrArg (fun f => List.foldl f none _) (funext fun best => funext fun x => ?_)
  cases best <;> rfl

theorem State.chooseBackground_spec {p : Nat} {h : Handle} (hc : s.chooseBackground j = some (p, h)) :
    p ∈ (s.span j).queue.background ∧ s.handleOf p = some h ∧
    (∀ q g, q ∈ (s.span j).queue.background → s.handleOf q = some g →
      (h - (s.span j).arbiter.backgroundPtr - 1).toNat ≤ (g - (s.span j).arbiter.backgroundPtr - 1).toNat) ∧
    ((s.span j).queue.background.filter fun q => decide (s.handleOf q = some h)).head? = some p := by
  rw [State.chooseBackground_eq, ← Option.mem_def] at hc
  obtain ⟨hp, hh⟩ := State.mem_roundOf.1 (List.argmin_mem hc)
  have hleast (q : Nat) (g : Handle) (hq : q ∈ (s.span j).queue.background) (hg : s.handleOf q = some g) :
      roundDistance (s.span j).arbiter.backgroundPtr h ≤ roundDistance (s.span j).arbiter.backgroundPtr g :=
    (List.mem_argmin_iff.1 hc).2.1 (q, g) (State.mem_roundOf.2 ⟨hq, hg⟩)
  refine ⟨hp, hh, hleast, ?_⟩
  have hsome : ((s.span j).queue.background.find? fun q => decide (s.handleOf q = some h)).isSome :=
    List.find?_isSome.2 ⟨p, hp, by simpa using hh⟩
  obtain ⟨q, hq⟩ := Option.isSome_iff_exists.1 hsome
  obtain ⟨hqh, front, back, hsplit, hfront⟩ := List.find?_eq_some_iff_append.1 hq
  have hqh : s.handleOf q = some h := by simpa using hqh
  have hround : s.roundOf j = front.filterMap (fun p => (s.handleOf p).map fun h => (p, h)) ++ (q, h) ::
      back.filterMap fun p => (s.handleOf p).map fun h => (p, h) := by
    simp [State.roundOf, hsplit, hqh]
  have hbefore : (p, h) ∉ front.filterMap fun p => (s.handleOf p).map fun h => (p, h) := by
    simp only [List.mem_filterMap, Option.map_eq_some_iff, Prod.mk.injEq]
    rintro ⟨y, hy, g, hg, -, rfl⟩
    simpa [hg] using hfront y hy
  obtain ⟨rfl, -⟩ := Prod.mk.inj (eq_of_mem_argmin hc hround hbefore (Nat.le_refl _))
  rw [List.head?_filter, hq]

theorem State.exists_chooseBackground (h : ∃ q ∈ (s.span j).queue.background, s.handleOf q ≠ none) :
    ∃ x, s.chooseBackground j = some x := by
  obtain ⟨q, hq, hne⟩ := h
  obtain ⟨g, hg⟩ := Option.ne_none_iff_exists'.1 hne
  rw [State.chooseBackground_eq, ← Option.ne_none_iff_exists', Ne, List.argmin_eq_none]
  exact List.ne_nil_of_mem (State.mem_roundOf.2 ⟨hq, hg⟩)

/-! ## The choice -/

/-- The background list has its turn: the mask is clear, its gate open, and no deadline piece is ahead of FUTURE (R91). -/
def State.BackgroundTurn (s : State) (j : SpanId) : Prop :=
  let a := (s.span j).arbiter
  let occ := (s.span j).service.occupancy
  a.masked = false ∧ (occ < a.backgroundShare ∨ (a.backgroundShare = 0 ∧ occ = 0)) ∧
    ∀ first rest, s.unmasked j = first :: rest → first.cls = .future

theorem State.mem_unmasked {w : Waiting} (h : w ∈ s.unmasked j) :
    w.cls = (s.span j).arbiter.classOf s.time w.deadline ∧ ¬ ((s.span j).arbiter.masked = true ∧ w.cls = .ahead) := by
  obtain ⟨hw, hmask⟩ := List.mem_filter.1 h
  obtain ⟨q, -, hw⟩ := List.mem_filterMap.1 hw
  refine ⟨?_, fun ⟨hm, hc⟩ => by simp [hm, hc] at hmask⟩
  unfold State.waiting at hw
  split at hw
  · cases hw
  · split at hw
    · cases hw
    · obtain ⟨d, -, rfl⟩ := Option.map_eq_some_iff.1 hw
      rfl

/-- The unmasked pieces that tie with the first (R92). -/
def State.ties (s : State) (j : SpanId) (first : Waiting) : List Waiting :=
  (s.unmasked j).filter fun x => decide (x.deadline = first.deadline)

/-- Where the first unmasked piece's gate is open, the choice is among the pieces that tie with it. -/
theorem State.choose_of_opens {first : Waiting} {rest : List Waiting} (hun : s.unmasked j = first :: rest)
    (ho : (s.span j).arbiter.Opens (s.span j).service.occupancy first.cls) : s.choose j =
      (chooseTied (s.span j).arbiter.rotation (s.ties j first)).map fun x => .deadline x.1 x.2 := by
  obtain ⟨-, hgate⟩ := (Arbiter.opens_iff ..).1 ho
  have hnear : first.cls ≠ .future := fun h => by simp [h, Arbiter.gate] at hgate
  rw [State.ties, State.choose]
  simp only [hun, hnear, hgate, if_true, if_false]

/-- In the background list's turn, the choice is its own. -/
theorem State.choose_of_turn (ht : s.BackgroundTurn j) :
    s.choose j = (s.chooseBackground j).map fun x => .background x.1 x.2 := by
  obtain ⟨hmask, hocc, hfirst⟩ := ht
  have hgate := ((s.span j).arbiter.gate_background_iff (s.span j).service.occupancy).2 ⟨hmask, hocc⟩
  unfold State.choose
  split
  · simp only [hgate, if_true]
  · simp only [hfirst _ _ ‹_›, hgate, if_true]

/-- What a dispatch can choose, and when (R91). -/
theorem State.choose_cases {c : Choice} (h : s.choose j = some c) :
    (∃ first rest x, s.unmasked j = first :: rest ∧
      (s.span j).arbiter.Opens (s.span j).service.occupancy first.cls ∧
      chooseTied (s.span j).arbiter.rotation (s.ties j first) = some x ∧ c = .deadline x.1 x.2) ∨
    s.BackgroundTurn j ∧ ∃ x, s.chooseBackground j = some x ∧ c = .background x.1 x.2 := by
  have hback (hfirst : ∀ first rest, s.unmasked j = first :: rest → first.cls = .future)
      (hc : (if (s.span j).arbiter.gate (s.span j).service.occupancy .background then
        (s.chooseBackground j).map fun x => Choice.background x.1 x.2 else none) = some c) :
      s.BackgroundTurn j ∧ ∃ x, s.chooseBackground j = some x ∧ c = .background x.1 x.2 := by
    split at hc
    · rename_i hgate
      obtain ⟨hmask, hocc⟩ := (Arbiter.gate_background_iff ..).1 hgate
      obtain ⟨x, hx, rfl⟩ := Option.map_eq_some_iff.1 hc
      exact ⟨⟨hmask, hocc, hfirst⟩, x, hx, rfl⟩
    · cases hc
  unfold State.choose at h
  extract_lets a occ background at h
  split at h
  · rename_i hun
    exact .inr (hback (fun _ _ e => by cases hun.symm.trans e) h)
  · rename_i w rest hun
    split at h
    · rename_i hfuture
      refine .inr (hback (fun first rest e => ?_) h)
      cases hun.symm.trans e
      exact hfuture
    · split at h
      · rename_i hgate
        obtain ⟨x, hx, rfl⟩ := Option.map_eq_some_iff.1 h
        obtain ⟨hcls, -⟩ := State.mem_unmasked (hun ▸ List.mem_cons_self : w ∈ s.unmasked j)
        have hkind : w.cls ≠ .background := hcls ▸ Arbiter.classOf_ne_background (s.span j).arbiter s.time w.deadline
        exact .inl ⟨w, rest, x, hun, (Arbiter.opens_iff ..).2 ⟨hkind, hgate⟩,
          by rw [State.ties, hun, hx], rfl⟩
      · cases h

end

/-- Settles O38: the two kinds of choice by `State.choose_cases`, their pieces by the turns of the nodes
and of the streams. -/
theorem dispatchChoiceFollowsGatesAndTurns : Obligations.DispatchChoiceFollowsGatesAndTurns := by
  intro s j
  refine ⟨fun p r h => ?_, fun first rest hun ho => ?_, fun p h hc => ?_, fun hturn hex => ?_⟩
  · rcases State.choose_cases h with ⟨first, rest, x, hun, ho, hx, he⟩ | ⟨-, x, -, he⟩
    · cases he
      obtain ⟨w, hw, hp, hties⟩ := chooseTied_spec hx
      obtain ⟨hmem, hd⟩ := List.mem_filter.1 hw
      have hd : w.deadline = first.deadline := of_decide_eq_true hd
      obtain ⟨hcls, hmask⟩ := State.mem_unmasked hmem
      obtain ⟨hcls', -⟩ := State.mem_unmasked (hun ▸ List.mem_cons_self : first ∈ s.unmasked j)
      have hlisted := State.mem_of_waiting hmem
      refine ⟨w, first, rest, hun, hmem, hp, hp ▸ hlisted, hd, hmask, ?_, hties⟩
      rw [hcls, hd, ← hcls']
      exact ho
    · cases he
  · have hun : s.unmasked j = first :: rest := hun
    have hne : s.ties j first ≠ [] :=
      List.ne_nil_of_mem (List.mem_filter.2 ⟨hun ▸ List.mem_cons_self, by simp⟩ : first ∈ s.ties j first)
    obtain ⟨x, hx⟩ := exists_chooseTied (s.span j).arbiter.rotation hne
    exact ⟨x.1, x.2, by rw [State.choose_of_opens hun ho, hx]; rfl⟩
  · rcases State.choose_cases hc with ⟨-, -, x, -, -, -, he⟩ | ⟨hturn, x, hx, he⟩
    · cases he
    · cases he
      obtain ⟨hp, hh, hround, hfirst⟩ := State.chooseBackground_spec hx
      exact ⟨hp, hh, hturn, hround, hfirst⟩
  · obtain ⟨x, hx⟩ := State.exists_chooseBackground hex
    exact ⟨x.1, x.2, by rw [State.choose_of_turn hturn, hx]; rfl⟩

end Sys2Proof.Machine
end

section
/-! PROOFS. QUERY_SPAN: one view of a span (R102, R124, R144, R189). -/

namespace Sys2Proof.Machine

/-! ## The span that an argument names -/

theorem spanOf_val (j : SpanId) : spanOf j.val = some j := dif_pos j.isLt

theorem spanOf_of_le {n : Nat} (h : 8 ≤ n) : spanOf n = none := dif_neg (Nat.not_lt.2 h)

/-! ## The slots counted by what they hold -/

/-- A slot holds a piece in service. -/
def SlotState.isBusy : SlotState → Bool
  | .busy _ _ _ => true
  | _ => false

/-- A slot holds a piece that timed out. -/
def SlotState.isZombie : SlotState → Bool
  | .zombie _ => true
  | _ => false

theorem Slot.piece_isSome (k : Slot) : k.piece.isSome = k.state.isBusy := by
  rcases k with ⟨gen, _ | _ | _⟩ <;> rfl

theorem SpanService.length_busyPieces (v : SpanService) :
    v.busyPieces.length = (allSpans.filter fun k => v.slots[k].state.isBusy).length := by
  rw [SpanService.busyPieces_eq, List.length_filterMap_eq_countP, List.countP_eq_length_filter]
  simp only [Slot.piece_isSome]

/-- An occupied slot is BUSY or a ZOMBIE (R105). -/
theorem length_filter_occupied (v : SpanService) (ks : List SlotId) : (ks.filter fun k => v.slots[k].occupied).length =
    (ks.filter fun k => v.slots[k].state.isBusy).length + (ks.filter fun k => v.slots[k].state.isZombie).length := by
  induction ks with
  | nil => rfl
  | cons k ks ih =>
    simp only [List.filter_cons]
    generalize v.slots[k] = w
    rcases w with ⟨gen, _ | _ | _⟩ <;> simp [Slot.occupied, SlotState.isBusy, SlotState.isZombie] at ih ⊢ <;> omega

theorem SpanService.occupancy_sub_busy (v : SpanService) : v.occupancy - v.busyPieces.length =
    (allSpans.filter fun k => v.slots[k].state.isZombie).length := by
  rw [v.length_busyPieces, SpanService.occupancy, length_filter_occupied, Nat.add_sub_cancel_left]

/-! ## The body's parts -/

theorem Monitor.health_code (m : Monitor) :
    m.health.code = if m.tripped then 2 else if m.effective < m.params.ceiling then 1 else 0 := by
  unfold Monitor.health
  split_ifs <;> rfl

section

variable {n : NodeId} {s : State} {rec : List Byte} {rest : List (List Byte)}

theorem exec_querySpan_none (h : s.issues n 12 rec rest) (hj : spanOf (recArg rec 0) = none) :
    exec (.querySpan n) s = .next ((s.taken n rest).result n 12 .badArgs []) := by
  change execQuerySpan n s = _
  rw [execQuerySpan, withAttached_of_issues h, hj]

theorem exec_querySpan_some (h : s.issues n 12 rec rest) {j : SpanId} (hj : spanOf (recArg rec 0) = some j) :
    exec (.querySpan n) s = .next ((s.taken n rest).result n 12 .ok
      (s.budgetBody j ++ (s.span j).service.body ++ s.queueBody j ++ (s.span j).monitor.body ++
        [fNat s.config.spans[j].overhead, fNat s.config.spans[j].transfer, fOpt fTime (s.span j).service.nextExpiry])) := by
  change execQuerySpan n s = _
  rw [execQuerySpan, withAttached_of_issues h, hj]
  rfl

end

/-- Settles O48: the command is taken and its answer, of the fields of each block in turn, is all that changes. -/
theorem querySpanReportsOneView : Obligations.QuerySpanReportsOneView := by
  intro n s rec rest h
  refine ⟨fun hbad => exec_querySpan_none h (spanOf_of_le hbad), fun j hj => ?_⟩
  rw [exec_querySpan_some h (hj ▸ spanOf_val j), SpanService.body, SpanService.occupancy_sub_busy,
    SpanService.length_busyPieces, Monitor.body, Monitor.health_code]
  rfl

end Sys2Proof.Machine
end

section
/-! PROOFS. The link's leaving UP, the relink hold's expiry, and LINK_RESET (R99, R117 to R119, R122). -/

namespace Sys2Proof.Machine

/-! ## The hold's expiry -/

/-- The reports of a queue's loss stand behind those in flight: a selection, where a piece was listed (R99). -/
theorem State.loseQueue_eq_reports (s : State) (j : SpanId) : s.loseQueue j =
    { (s.queued j).foldl (fun w p => w.takeOutcome p .spanLost) (s.emptied j) with
      reports := s.reports ++ (if s.queued j = [] then [] else [.select j]) } := by
  have hreports : ((s.queued j).foldl (fun w p => w.takeOutcome p .spanLost) (s.emptied j)).reports = s.reports :=
    foldl_keeps State.reports _ (fun _ _ => by simp) (s.queued j) _
  rw [State.loseQueue_eq]
  split
  · rw [List.append_nil, ← hreports]
  · rw [State.post, hreports]

theorem State.holdExpires_eq (u : State) (j : SpanId) : u.holdExpires j =
    let lost := (u.span j).queue.deadlines ++ (u.span j).queue.background
    let taken := lost.foldl (fun w p => w.takeOutcome p .spanLost)
      ((u.modService j fun v => { v with relinkExpiry := none }).modQueue j fun _ =>
        { deadlines := [], background := [], deadlineTimer := none, windowTimer := none })
    State.notifyAll { taken with reports := u.reports ++ (if lost = [] then [] else [.select j]) }
      (.spanNotice .holdExpired) [fNat j.val, fNat (u.span j).service.link.state.code, fNat lost.length] := by
  have hqueued : (u.modService j fun v => { v with relinkExpiry := none }).queued j = u.queued j := by
    simp [State.queued]
  rw [State.holdExpires, State.spanNotice, State.loseQueue_service, State.modService_service_self,
    State.loseQueue_eq_reports, hqueued, ← List.length_append]
  rfl

/-! ## The link's leaving UP -/

theorem Slot.lose_eq (k : Slot) : k.lose = if k.state = .free then k else { gen := k.gen + 1, state := .free } := by
  by_cases h : k.state = .free <;> simp [Slot.lose, Slot.occupied, Slot.release, h]

theorem SpanService.loseSlots_eq (v : SpanService) : v.loseSlots = { v with
    slots := bank8 fun k => if v.slots[k].state = .free then v.slots[k]
      else { gen := v.slots[k].gen + 1, state := .free } } := by
  simp only [SpanService.loseSlots, Slot.lose_eq]

/-- A Span Service Unit as its link leaves UP at `now`: slots lost, attempt 1 begun, the hold running to `expiry` (R118). -/
def SpanService.down (v : SpanService) (now expiry : Time) : SpanService :=
  { v with
    slots := bank8 fun k => if v.slots[k].state = .free then v.slots[k]
      else { gen := v.slots[k].gen + 1, state := .free },
    relinkExpiry := some expiry, link := .training 1 (now + 50000), sent := v.sent ++ [.train 1] }

theorem SpanService.down_eq (v : SpanService) (now expiry : Time) :
    { v.loseSlots.train now 1 with relinkExpiry := some expiry } = v.down now expiry := by
  rw [SpanService.loseSlots_eq]
  rfl

/-- The part after a link's leaving UP, before its notice (R114, R118). -/
def State.down (u : State) (j : SpanId) (expiry : Time) : State :=
  { (u.modService j fun v => v.down u.time expiry).modArbiter j fun a => { a with selections := 0 } with
    reports := u.reports ++ (u.span j).service.busyPieces.map (fun p => .outcome p .spanLost) ++
      [.linkState j .training] }

theorem State.down_link (u : State) (j : SpanId) (expiry : Time) :
    ((u.down j expiry).span j).service.link = .training 1 (u.time + 50000) := by
  change (((u.modService j fun v => v.down u.time expiry).modArbiter j
    fun a => { a with selections := 0 }).span j).service.link = _
  rw [State.modArbiter_service, State.modService_service_self]
  rfl

theorem State.leaveUp_eq (u : State) (j : SpanId) (cause : LinkDownCause) : u.leaveUp j cause =
    let v := (u.span j).service
    let expiry := u.time + BitVec.ofNat 48 (v.relinkHold * 1000)
    let left := (u.down j expiry).notifyAll (.spanNotice .linkDown)
      [fNat j.val, fNat 1, fNat cause.code, fNat v.busyPieces.length, fTime expiry]
    if v.relinkHold = 0 then left.holdExpires j else left := by
  unfold State.leaveUp
  extract_lets v lost expiry posted served stopped told expiry' left
  have hserved : served = posted.modService j fun v => v.down u.time expiry :=
    congrArg (posted.modService j) (funext fun v => v.down_eq u.time expiry)
  have hreported : stopped.reportLink j = u.down j expiry := by
    have hlink : (stopped.span j).service.link = .training 1 (u.time + 50000) := by
      rw [← u.down_link j expiry]
      unfold stopped
      rw [hserved]
      rfl
    rw [State.reportLink, hlink]
    unfold stopped
    rw [hserved]
    rfl
  have htold : told = left := by
    unfold told
    rw [hreported, State.spanNotice, State.down_link]
    rfl
  rw [htold]

/-! ## The rows -/

section

variable {s : State} {j : SpanId}

theorem exec_linkLossIndication_up (hup : (s.span j).service.link = .up) : exec (.linkLossIndication j) s =
    .next ((s.modService j fun v => { v with
      linkLossCount := if v.linkLossCount < 4294967295 then v.linkLossCount + 1 else v.linkLossCount }).leaveUp j .loss) :=
  if_pos ((s.linkUp_iff j).2 hup)

theorem exec_linkLossIndication_off (hup : (s.span j).service.link ≠ .up) : exec (.linkLossIndication j) s = .next s :=
  if_neg fun h => hup ((s.linkUp_iff j).1 h)

theorem exec_relinkHoldExpiry_reached {t : Time} (ht : (s.span j).service.relinkExpiry = some t)
    (hr : 0 ≤ timeDiff s.time t) : exec (.relinkHoldExpiry j) s = .next (s.holdExpires j) := by
  change execRelinkHoldExpiry j s = _
  simp only [execRelinkHoldExpiry, ht, reached, hr, decide_true, if_true]

variable {n : NodeId} {rec : List Byte} {rest : List (List Byte)}

theorem exec_linkReset_none (h : s.claims n 20 rec rest) (hj : spanOf (recArg rec 0) = none) :
    exec (.linkReset n) s = .next ((s.taken n rest).result n 20 .badArgs []) := by
  change execLinkReset n s = _
  rw [execLinkReset, withClaim_of_claims h, hj]

theorem exec_linkReset_absent (h : s.claims n 20 rec rest) (hj : spanOf (recArg rec 0) = some j)
    (hl : (s.span j).service.link = .absent) :
    exec (.linkReset n) s = .next ((s.taken n rest).result n 20 .wrongState []) := by
  change execLinkReset n s = _
  rw [execLinkReset, withClaim_of_claims h, hj]
  exact congrArg Host.Outcome.next (if_pos hl)

/-- The answer of a LINK_RESET carried out (R122). -/
def State.resetAnswered (s : State) (n : NodeId) (rest : List (List Byte)) (j : SpanId) : State :=
  (s.taken n rest).result n 20 .ok [fNat j.val, fNat (s.span j).service.link.state.code, fNat 1]

theorem exec_linkReset_fitted (h : s.claims n 20 rec rest) (hj : spanOf (recArg rec 0) = some j)
    (hl : (s.span j).service.link ≠ .absent) : exec (.linkReset n) s = .next ((s.resetAnswered n rest j).resetLink j) := by
  change execLinkReset n s = _
  rw [execLinkReset, withClaim_of_claims h, hj]
  exact congrArg Host.Outcome.next (if_neg hl)

theorem State.resetLink_up (h : (s.span j).service.link = .up) : s.resetLink j = s.leaveUp j .reset := by
  rw [State.resetLink, h]

theorem State.resetLink_training (h : (s.span j).service.link.state = .training) :
    s.resetLink j = s.modService j fun v => v.train s.time 1 := by
  unfold State.resetLink
  cases hl : (s.span j).service.link <;> simp_all [Link.state]

theorem State.resetLink_failed (h : (s.span j).service.link = .failed) : s.resetLink j =
    { s.modService j fun v => v.train s.time 1 with reports := s.reports ++ [.linkState j .training] } := by
  rw [State.resetLink, h]
  change State.reportLink _ j = _
  rw [State.reportLink, State.modService_service_self]
  rfl

end

/-- Settles O42: the rows are `State.leaveUp`, `State.holdExpires` and `State.resetLink`, whose equations the statement
spells out. -/
theorem linkLeavesUpAndItsHoldExpires : Obligations.LinkLeavesUpAndItsHoldExpires := by
  intro s j held down v
  have hheld (u : State) : held u = u.holdExpires j := (u.holdExpires_eq j).symm
  have hdown (u : State) (cause : LinkDownCause) (ht : u.time = s.time) : down u cause = u.leaveUp j cause := by
    rw [State.leaveUp_eq, ht]
    extract_lets w expiry left
    rw [← hheld]
    unfold left State.down SpanService.down
    rw [ht]
  refine ⟨fun hup => ?_, exec_linkLossIndication_off, fun t ht hr => ?_, fun n rec rest h => ⟨fun hbad => ?_, fun hj => ?_⟩⟩
  · exact (exec_linkLossIndication_up hup).trans (congrArg Host.Outcome.next (hdown (s.modService j _) .loss rfl).symm)
  · rw [exec_relinkHoldExpiry_reached ht hr, hheld]
  · exact exec_linkReset_none h (spanOf_of_le hbad)
  · have hspan : spanOf (recArg rec 0) = some j := hj ▸ spanOf_val j
    refine ⟨exec_linkReset_absent h hspan, fun hl => ?_, fun hl => ?_, fun hl => ?_⟩
    · have hl : (s.span j).service.link = .up := hl
      rw [exec_linkReset_fitted h hspan (by simp [hl]), State.resetLink_up (s := s.resetAnswered n rest j) hl]
      exact congrArg Host.Outcome.next (hdown (s.resetAnswered n rest j) .reset rfl).symm
    · have hl : (s.span j).service.link.state = .training := hl
      rw [exec_linkReset_fitted h hspan fun ha => by simp [ha, Link.state] at hl,
        State.resetLink_training (s := s.resetAnswered n rest j) hl]
      rfl
    · have hl : (s.span j).service.link = .failed := hl
      rw [exec_linkReset_fitted h hspan (by simp [hl]), State.resetLink_failed (s := s.resetAnswered n rest j) hl]
      rfl

end Sys2Proof.Machine
end

section
/-! PROOFS. Completions at a slot, and a slot's expiry (R105, R108 to R111). -/

namespace Sys2Proof.Machine

section

variable {s : State} {j : SpanId} {k : SlotId} {slot gen result : Byte}

theorem spanOf_of_eq {n : Nat} (h : n = j.val) : spanOf n = some j := h ▸ spanOf_val j

theorem eq_of_spanOf {n : Nat} (h : spanOf n = some j) : n = j.val := by
  unfold spanOf at h
  split at h
  · cases h; rfl
  · cases h

theorem exec_slotExpiry_busy {p : Nat} {d x : Time} (hw : (s.span j).service.slots[k].state = .busy p d x)
    (hr : 0 ≤ timeDiff s.time x) : exec (.slotExpiry j k) s =
      .next ((s.modService j fun v =>
          { v.setSlot k { gen := (s.span j).service.slots[k].gen, state := .zombie d } with
            timeoutCount := advance Config.counterTop v.timeoutCount }).postAll [.outcome p .timedOut, .tripClass j]) := by
  change execSlotExpiry j k s = _
  simp only [execSlotExpiry, hw, reached, hr, decide_true, if_true]

/-- A completion that matches no occupied slot is only counted stale: of a slot past 7, of another generation, or of a
FREE slot (R110). -/
theorem exec_extentDone_unmatched
    (h : ∀ k : SlotId, slot.toNat = k.val →
      (s.span j).service.slots[k].gen ≠ gen ∨ (s.span j).service.slots[k].state = .free) :
    exec (.extentDone j slot gen result) s = .next (s.modService j SpanService.stale) := by
  change execExtentDone j slot gen result s = _
  unfold execExtentDone
  split
  · rfl
  · rename_i k hk
    extract_lets w
    rcases h k (eq_of_spanOf hk) with hgen | hfree
    · exact if_neg hgen
    · have hfree : w.state = .free := hfree
      rw [hfree]
      exact ite_self _

variable (hk : slot.toNat = k.val) (hgen : (s.span j).service.slots[k].gen = gen)
include hk hgen

theorem exec_extentDone_busy {p : Nat} {d x : Time} (hw : (s.span j).service.slots[k].state = .busy p d x) :
    exec (.extentDone j slot gen result) s =
      .next ((s.modService j fun v => v.setSlot k { gen := gen + 1, state := .free }).postAll
        [.outcome p (resultOutcome result), .latency j (timeDiff s.time d), .select j]) := by
  change execExtentDone j slot gen result s = _
  simp only [execExtentDone, spanOf_of_eq hk, Slot.release, hgen, hw, if_true, State.post, State.postAll,
    List.append_assoc, List.cons_append, List.nil_append]

theorem exec_extentDone_zombie {d : Time} (hw : (s.span j).service.slots[k].state = .zombie d) :
    exec (.extentDone j slot gen result) s =
      .next ((s.modService j fun v => (v.setSlot k { gen := gen + 1, state := .free }).stale).post (.select j)) := by
  change execExtentDone j slot gen result s = _
  simp only [execExtentDone, spanOf_of_eq hk, Slot.release, hgen, hw, if_true]

end

/-- Settles O40: each clause is the equation of its row, with the unit's operations spelled out. -/
theorem completionsAndTimeoutsAtASlot : Obligations.CompletionsAndTimeoutsAtASlot := by
  intro s j v up
  exact ⟨fun _ _ _ _ _ _ _ hk hgen hw => exec_extentDone_busy hk hgen hw,
    fun _ _ _ _ _ hk hgen hw => exec_extentDone_zombie hk hgen hw,
    fun _ _ _ h => exec_extentDone_unmatched h,
    fun _ _ _ _ hw hr => exec_slotExpiry_busy hw hr⟩

end Sys2Proof.Machine
end

section
/-! PROOFS. Training attempts and the presence line (R116, R119 to R121). -/

namespace Sys2Proof.Machine

/-! ## Notices and units -/

theorem State.reportLink_eq {s : State} {j : SpanId} {k : Link} (h : (s.span j).service.link = k) :
    s.reportLink j = s.post (.linkState j k.state) := by rw [State.reportLink, h]

theorem State.spanNotice_eq {s : State} {j : SpanId} {k : Link} (h : (s.span j).service.link = k) (kind : SpanNotice)
    (more : List Field) : s.spanNotice j kind more =
      s.notifyAll (.spanNotice kind) ([fNat j.val, fNat k.state.code] ++ more) := by rw [State.spanNotice, h]

theorem State.modService_modService (s : State) (j : SpanId) (f g : SpanService → SpanService) :
    (s.modService j f).modService j g = s.modService j fun v => g (f v) := State.modSpan_modSpan ..

/-- A notice of the changed link and the change's report, which stands in flight whichever is put down first. -/
theorem State.spanNotice_reportLink {s : State} {j : SpanId} {k : Link} (h : (s.span j).service.link = k)
    (kind : SpanNotice) (more : List Field) : (s.spanNotice j kind more).reportLink j =
      (s.post (.linkState j k.state)).notifyAll (.spanNotice kind) ([fNat j.val, fNat k.state.code] ++ more) := by
  have hnoticed : ((s.spanNotice j kind more).span j).service.link = k := by rw [State.spanNotice, State.notifyAll_span, h]
  rw [State.reportLink_eq hnoticed, State.spanNotice_eq h]
  rfl

/-! ## Training -/

section

variable {s : State} {j : SpanId} {a : Nat} {x : Time} {b : Byte}

theorem exec_ready_dropped (h : ∀ a x, (s.span j).service.link = .training a x → b.toNat ≠ a) :
    exec (.ready j b) s = .next s := by
  change execReady j b s = _
  unfold execReady
  split
  · rename_i a x hl
    exact if_neg (h a x hl)
  · rfl

theorem exec_ready_present (hl : (s.span j).service.link = .training a x) (hb : b.toNat = a) :
    exec (.ready j b) s = .next (((s.modService j fun v => { v with link := .up, relinkExpiry := none }).postAll
        [.linkState j .up, .select j]).notifyAll (.spanNotice .linkUp)
      [fNat j.val, fNat LinkState.up.code, fBool (s.span j).service.relinkExpiry.isSome]) := by
  change execReady j b s = _
  simp only [execReady, hl, hb, if_true]
  rw [State.spanNotice_eq (k := .up) (by simp [State.reportLink]), State.reportLink_eq (k := .up) (by simp)]
  simp only [State.post, State.postAll, List.append_assoc, List.cons_append, List.nil_append, Link.state]

theorem exec_trainingAttemptExpiry_next (hl : (s.span j).service.link = .training a x) (hr : 0 ≤ timeDiff s.time x)
    (ha : a < 4) : exec (.trainingAttemptExpiry j) s = .next (s.modService j fun v => v.train s.time (a + 1)) := by
  change execTrainingAttemptExpiry j s = _
  simp only [execTrainingAttemptExpiry, hl, reached, hr, decide_true, if_true]
  exact if_pos ha

theorem exec_trainingAttemptExpiry_last (hl : (s.span j).service.link = .training a x) (hr : 0 ≤ timeDiff s.time x)
    (ha : 4 ≤ a) : exec (.trainingAttemptExpiry j) s =
      .next (((s.modService j fun v => { v with link := .failed }).post (.linkState j .failed)).notifyAll
        (.spanNotice .linkFailed) [fNat j.val, fNat LinkState.failed.code]) := by
  change execTrainingAttemptExpiry j s = _
  simp only [execTrainingAttemptExpiry, hl, reached, hr, decide_true, if_true]
  rw [if_neg (show ¬ a < Config.attempts from Nat.not_lt.2 ha), State.spanNotice_reportLink (k := .failed) (by simp)]
  rfl

end

/-! ## Presence -/

/-- A Span Service Unit as its span becomes ABSENT: the line low, slots lost, timers stopped (R120). -/
def SpanService.gone (v : SpanService) : SpanService :=
  { v with
    presence := false, link := .absent, relinkExpiry := none,
    slots := bank8 fun k => if v.slots[k].state = .free then v.slots[k] else { gen := v.slots[k].gen + 1, state := .free } }

theorem SpanService.gone_eq (v : SpanService) :
    { ({ v with presence := false } : SpanService).loseSlots with link := .absent, relinkExpiry := none } = v.gone := by
  rw [SpanService.loseSlots_eq]
  rfl

/-- The part after a span's becoming ABSENT, before its notice (R120). -/
def State.gone (s : State) (j : SpanId) : State :=
  { (s.modService j SpanService.gone).modArbiter j fun a => { a with selections := 0 } with
    reports := s.reports ++ (s.span j).service.busyPieces.map (fun p => .outcome p .spanLost) ++
      [.queueLoss j, .absent j, .monitorAbsent j] }

theorem State.gone_link (s : State) (j : SpanId) : ((s.gone j).span j).service.link = .absent := by
  change (((s.modService j SpanService.gone).modArbiter j fun a => { a with selections := 0 }).span j).service.link = _
  rw [State.modArbiter_service, State.modService_service_self]
  rfl

theorem State.becomeAbsent_eq (s : State) (j : SpanId) :
    (s.modService j fun v => { v with presence := false }).becomeAbsent j =
      (s.gone j).notifyAll (.spanNotice .spanAbsent) [fNat j.val, fNat LinkState.absent.code,
        fNat ((s.span j).service.busyPieces.length + (s.span j).queue.deadlines.length +
          (s.span j).queue.background.length)] := by
  unfold State.becomeAbsent
  extract_lets lost q posted served stopped told
  have hlost : lost = (s.span j).service.busyPieces := by
    unfold lost
    rw [State.modService_service_self]
    rfl
  have hq : q = (s.span j).queue := State.modService_queue ..
  have hserved : served = { s.modService j SpanService.gone with
      reports := s.reports ++ lost.map fun p => .outcome p .spanLost } := by
    have hunit := State.modService_modService s j (fun v => { v with presence := false })
      fun v => { v.loseSlots with link := .absent, relinkExpiry := none }
    simp only [SpanService.gone_eq] at hunit
    exact congrArg (State.postAll · (lost.map fun p => .outcome p .spanLost)) hunit
  have htold : told = s.gone j := by
    unfold told stopped
    rw [hserved, hlost]
    rfl
  rw [htold, State.spanNotice_eq (s.gone_link j), hlost, hq]
  rfl

section

variable {s : State} {j : SpanId}

theorem exec_presenceDeasserted_fitted (hl : (s.span j).service.link ≠ .absent) : exec (.presenceDeasserted j) s =
    .next ((s.modService j fun v => { v with presence := false }).becomeAbsent j) :=
  if_neg (by rw [State.modService_service_self]; exact hl)

theorem exec_presenceDeasserted_absent (hl : (s.span j).service.link = .absent) : exec (.presenceDeasserted j) s =
    .next (s.modService j fun v => { v with presence := false }) :=
  if_pos (by rw [State.modService_service_self]; exact hl)

theorem exec_presenceAsserted_absent (hl : (s.span j).service.link = .absent) : exec (.presenceAsserted j) s =
    .next (((s.modService j fun v => { v.train s.time 1 with presence := true }).post
      (.linkState j .training)).notifyAll (.spanNotice .spanPresent) [fNat j.val, fNat LinkState.training.code]) := by
  change execPresenceAsserted j s = _
  have hpresent : ((s.modService j fun v => { v with presence := true }).span j).service.link = .absent := by
    rw [State.modService_service_self]
    exact hl
  simp only [execPresenceAsserted, hpresent, if_true]
  rw [State.modService_modService,
    State.spanNotice_reportLink (k := .training 1 (plusMicros s.time Config.attemptTime))
      (by rw [State.modService_service_self]; rfl)]
  rfl

end

/-- Settles O41: each clause is the equation of its row, with the unit's operations spelled out. -/
theorem linkTrainsAndFollowsItsPresenceLine : Obligations.LinkTrainsAndFollowsItsPresenceLine := by
  intro s j v q note attempt
  refine ⟨fun a x b hl => ⟨exec_ready_present hl, fun hb => exec_ready_dropped fun a' x' hl' => ?_,
      fun hr => ⟨exec_trainingAttemptExpiry_next hl hr, exec_trainingAttemptExpiry_last hl hr⟩⟩,
    fun b hl => exec_ready_dropped fun a x hl' => absurd (congrArg Link.state hl') hl,
    fun hl => (exec_presenceDeasserted_fitted hl).trans (congrArg Host.Outcome.next (s.becomeAbsent_eq j)),
    exec_presenceDeasserted_absent, fun hl => ?_⟩
  · obtain ⟨rfl, -⟩ := Link.training.inj (hl'.symm.trans hl)
    exact hb
  · rw [exec_presenceAsserted_absent hl]
    unfold attempt
    rw [State.modService_modService]
    rfl

end Sys2Proof.Machine
end

section
/-! PROOFS. The operations of the Span Health Monitor, field by field: the judgement of a window, the configured ceiling and
the derate floor, and what the monitor hands on (R129, R133 to R138, R141 to R143). -/

namespace Sys2Proof.Machine

/-! ## The judgement of a window -/

section

variable (m : Monitor)

/-- The windows-since-change count as the window that expires counts into it (R133). -/
def Monitor.sinceNow : Nat := advance Config.sinceTop m.since

/-- The clean count as a window without breach counts into it (R135). -/
def Monitor.cleanNow : Nat := advance Config.cleanTop m.clean

/-- The window was a breach: its top count is above 0 (R134). -/
def Monitor.breached : Bool := decide (0 < m.counts.top)

/-- The judgement of the window lowers the ceiling (R134). -/
def Monitor.lowers : Bool :=
  m.breached && m.params.auto && decide (m.params.delay ≤ m.sinceNow) && decide (m.params.floor < m.effective)

/-- The judgement of the window raises the ceiling (R135). -/
def Monitor.raises : Bool :=
  !m.breached && decide (m.params.recover ≤ m.cleanNow) && decide (m.effective < m.params.ceiling)

/-- The effective ceiling after the judgement of the window (R134, R135). -/
def Monitor.judgedCeiling : Nat :=
  if m.lowers then max m.params.floor (m.effective - m.params.step)
  else if m.raises then min m.params.ceiling (m.effective + m.params.step) else m.effective

theorem Monitor.judge_eq : m.judge = { m with
    effective := m.judgedCeiling, tripped := m.tripped || m.trips,
    since := if m.lowers || m.raises then 0 else m.sinceNow,
    clean := if m.breached || m.raises then 0 else m.cleanNow,
    topSeen := m.topSeen || m.breached, tripSeen := m.tripSeen || decide (0 < m.counts.trip) } := by
  by_cases htop : 0 < m.counts.top
  · have hb : m.breached = true := decide_eq_true htop
    have hraises : m.raises = false := by simp [Monitor.raises, hb]
    have hderates : Monitor.derates { m with since := m.sinceNow, topSeen := true, clean := 0 } = m.lowers := by
      simp [Monitor.derates, Monitor.lowers, hb]
    have hjudge : m.judge = Monitor.tripTest (Monitor.breach { m with since := m.sinceNow }) :=
      congrArg Monitor.tripTest (if_pos htop)
    rw [hjudge, Monitor.breach, hderates, Monitor.judgedCeiling]
    cases m.lowers <;> simp [hraises, hb, Monitor.tripTest, Monitor.trips]
  · have hb : m.breached = false := decide_eq_false htop
    have hlowers : m.lowers = false := by simp [Monitor.lowers, hb]
    have hrecovers : m.params.recover ≤ m.cleanNow ∧ m.effective < m.params.ceiling ↔ m.raises = true := by
      simp [Monitor.raises, hb]
    have hjudge : m.judge = Monitor.tripTest (Monitor.cleanWindow { m with since := m.sinceNow }) :=
      congrArg Monitor.tripTest (if_neg htop)
    rw [hjudge, Monitor.cleanWindow, Monitor.judgedCeiling]
    change Monitor.tripTest (if m.params.recover ≤ m.cleanNow ∧ m.effective < m.params.ceiling then _ else _) = _
    simp only [hrecovers]
    cases m.raises <;> simp [hlowers, hb, Monitor.tripTest, Monitor.trips, Monitor.cleanNow]

end

/-! ## Ceilings and floors within their bounds -/

/-- Derate floor ≤ effective ceiling ≤ configured ceiling ≤ 950,000 ppm (R129, R186). -/
abbrev Monitor.InBounds (m : Monitor) : Prop :=
  m.params.floor ≤ m.effective ∧ m.effective ≤ m.params.ceiling ∧ m.params.ceiling ≤ 950000

section

variable {m : Monitor}

theorem Monitor.setCeiling_eq (m : Monitor) (c : Nat) :
    m.setCeiling c = { m with effective := c, since := if c = m.effective then m.since else 0 } := by
  unfold Monitor.setCeiling
  split
  · rename_i h
    rw [h]
  · rfl

/-- A span in NORMAL is neither tripped nor below its configured ceiling (R129). -/
theorem Monitor.health_eq_normal_iff (m : Monitor) :
    m.health = .normal ↔ m.tripped = false ∧ ¬ m.effective < m.params.ceiling := by
  unfold Monitor.health
  split_ifs <;> simp_all

/-- A step down stops at the floor and a step up at the configured ceiling (R134, R135). -/
theorem Monitor.InBounds.judge (h : m.InBounds) : m.judge.InBounds := by
  obtain ⟨hfloor, hceiling, htop⟩ := h
  rw [Monitor.judge_eq]
  refine ⟨?_, ?_, htop⟩ <;> simp only [Monitor.judgedCeiling] <;> split_ifs <;> omega

theorem Monitor.InBounds.configure {c f : Nat} (hf : f ≤ c) (hc : c ≤ 950000) : (m.configure c f).InBounds := by
  rw [Monitor.configure, Monitor.setCeiling_eq]
  refine ⟨le_max_right .., max_le ?_ hf, hc⟩
  split
  · exact le_rfl
  · exact min_le_right ..

theorem Monitor.InBounds.setFloor (h : m.InBounds) {f : Nat} (hf : f ≤ m.params.ceiling) : (m.setFloor f).InBounds := by
  obtain ⟨-, hceiling, htop⟩ := h
  rw [Monitor.setFloor, Monitor.setCeiling_eq]
  exact ⟨le_max_right .., max_le hceiling hf, htop⟩

theorem Monitor.InBounds.forget (h : m.InBounds) (now : Time) : (m.forget now).InBounds := by
  obtain ⟨hfloor, hceiling, htop⟩ := h
  exact ⟨hfloor.trans hceiling, le_rfl, htop⟩

end

/-! ## What the monitor hands on -/

theorem State.modMonitor_congr {s : State} {j : SpanId} {f g : Monitor → Monitor}
    (h : f (s.span j).monitor = g (s.span j).monitor) : s.modMonitor j f = s.modMonitor j g :=
  State.modSpan_congr (congrArg (fun m => { s.span j with monitor := m }) h)

theorem State.post_if {c : Prop} [Decidable c] (s : State) (r : Report) :
    (if c then s.post r else s) = s.postAll (if c then [r] else []) := by
  split
  · rfl
  · simp [State.postAll]

theorem State.postAll_postAll (s : State) (a b : List Report) : (s.postAll a).postAll b = s.postAll (a ++ b) := by
  simp [State.postAll]

/-- The reports that the monitor hands on where it stands at `m` after an event, and stood at `before` (R137). -/
def Monitor.handedOn (m : Monitor) (j : SpanId) (before : Monitor) : List Report :=
  (if m.effective ≠ before.effective ∨ m.tripped ≠ before.tripped then [.ceiling j m.effective m.tripped] else []) ++
    if m.tripped ≠ before.tripped then [.mask j m.tripped] else []

theorem State.handOn_eq (s : State) (j : SpanId) (before : Monitor) :
    s.handOn j before = s.postAll ((s.span j).monitor.handedOn j before) := by
  simp only [State.handOn, State.post_if, State.postAll_postAll]
  rfl

end Sys2Proof.Machine
end

section
/-! PROOFS. What leads the ceilings of a monitor: the reports on their way to it, and a part of the state that only its rows
change (R129, R141, R142, R187). -/

namespace Sys2Proof.Machine

/-! ## Reports on their way to a monitor -/

section

variable {j : SpanId}

theorem toMonitor_iff (r : Report) : toMonitor j r = true ↔
    (∃ c f, r = .configuredCeiling j c f) ∨ ∃ scope values, r = .param (.monitor j) scope values := by
  cases r with
  | configuredCeiling k c f => simp [toMonitor]
  | param b scope values => cases b <;> simp [toMonitor]
  | _ => simp [toMonitor]

theorem toMonitor_configuredCeiling_ne {k : SpanId} (h : k ≠ j) (c f : Nat) :
    toMonitor k (.configuredCeiling j c f) = false := decide_eq_false (Ne.symm h)

theorem toMonitor_param_ne {k : SpanId} (h : k ≠ j) (scope : Option SpanId) (values : List (Nat × Nat)) :
    toMonitor k (.param (.monitor j) scope values) = false := decide_eq_false (Ne.symm h)

/-- A report leads one monitor only. -/
theorem eq_of_toMonitor {k : SpanId} {r : Report} (hj : toMonitor j r = true) (hk : toMonitor k r = true) : k = j := by
  rcases (toMonitor_iff r).1 hj with ⟨c, f, rfl⟩ | ⟨scope, values, rfl⟩ <;> exact (of_decide_eq_true hk).symm

theorem boundsAfter_cons_of_aside {r : Report} (h : toMonitor j r = false) (rs : List Report) (c f : Nat) :
    boundsAfter j (r :: rs) c f = boundsAfter j rs c f := by
  cases r with
  | configuredCeiling k c' f' => exact if_neg (of_decide_eq_false h)
  | param b scope values =>
    cases b with
    | monitor k => exact if_neg (of_decide_eq_false h)
    | _ => rfl
  | _ => rfl

theorem boundsAfter_configuredCeiling (c' f' : Nat) (rs : List Report) (c f : Nat) :
    boundsAfter j (.configuredCeiling j c' f' :: rs) c f =
      if f' ≤ c' ∧ c' ≤ 950000 then boundsAfter j rs c' f' else none := if_pos rfl

theorem boundsAfter_param (scope : Option SpanId) (values : List (Nat × Nat)) (rs : List Report) (c f : Nat) :
    boundsAfter j (.param (.monitor j) scope values :: rs) c f =
      (floorAfter c values f).bind fun f' => boundsAfter j rs c f' := by
  simp only [boundsAfter, if_true]
  cases floorAfter c values f <;> rfl

/-- Reports are taken one after another: the bounds after the first ones are those before the last ones. -/
theorem boundsAfter_append (rs more : List Report) (c f : Nat) :
    boundsAfter j (rs ++ more) c f = (boundsAfter j rs c f).bind fun b => boundsAfter j more b.1 b.2 := by
  induction rs generalizing c f with
  | nil => rfl
  | cons r rs ih =>
    cases hr : toMonitor j r with
    | false => rw [List.cons_append, boundsAfter_cons_of_aside hr, boundsAfter_cons_of_aside hr, ih]
    | true =>
      rcases (toMonitor_iff r).1 hr with ⟨c', f', rfl⟩ | ⟨scope, values, rfl⟩
      · rw [List.cons_append, boundsAfter_configuredCeiling, boundsAfter_configuredCeiling]
        split
        · exact ih c' f'
        · rfl
      · rw [List.cons_append, boundsAfter_param, boundsAfter_param]
        cases floorAfter c values f with
        | none => rfl
        | some f' => exact ih c f'

theorem boundsAfter_of_aside {rs : List Report} (h : ∀ r ∈ rs, toMonitor j r = false) (c f : Nat) :
    boundsAfter j rs c f = some (c, f) := by
  induction rs with
  | nil => rfl
  | cons r rs ih =>
    rw [boundsAfter_cons_of_aside (h r (by simp)), ih fun q hq => h q (List.mem_cons_of_mem _ hq)]

theorem boundsAfter_filter (rs : List Report) (c f : Nat) :
    boundsAfter j (rs.filter (toMonitor j)) c f = boundsAfter j rs c f := by
  induction rs generalizing c f with
  | nil => rfl
  | cons r rs ih =>
    cases hr : toMonitor j r with
    | false => rw [List.filter_cons_of_neg (by simp [hr]), boundsAfter_cons_of_aside hr, ih]
    | true =>
      rw [List.filter_cons_of_pos hr, ← List.singleton_append (x := r) (l := rs), boundsAfter_append,
        ← List.singleton_append, boundsAfter_append]
      simp only [ih]

theorem floorAfter_of_no_floor {values : List (Nat × Nat)} (h : ∀ x ∈ values, x.1 ≠ 6) (c f : Nat) :
    floorAfter c values f = some f := by
  induction values with
  | nil => rfl
  | cons x r ih =>
    rw [floorAfter, if_neg (h x (by simp)), ih fun y hy => h y (List.mem_cons_of_mem _ hy)]

end

/-! ## The part of the state that ceilings rest on -/

/-- Configured ceiling, derate floor and effective ceiling of a monitor. -/
structure CeilingBounds where
  ceiling : Nat
  floor : Nat
  effective : Nat

def Monitor.bounds (m : Monitor) : CeilingBounds :=
  { ceiling := m.params.ceiling, floor := m.params.floor, effective := m.effective }

/-- What the bounds of parameters and ceilings rest on: the parameters, each monitor's bounds, and the reports on their way
to each monitor. -/
structure CeilingView where
  part : PartParams
  params : Vector SpanParams 8
  bounds : SpanId → CeilingBounds
  coming : SpanId → List Report

def State.ceilingView (s : State) : CeilingView :=
  { part := s.config.part, params := s.config.spans, bounds := fun j => (s.span j).monitor.bounds,
    coming := fun j => s.reports.filter (toMonitor j) }

/-- A state whose bounds are in order once the reports `owed`, taken and not yet acted upon, have been acted upon. -/
structure State.CeilingsOwed (s : State) (owed : List Report) : Prop where
  config : s.configOk
  monitor : ∀ j, (s.span j).monitor.InBounds
  led : ∀ j, boundsAfter j (owed ++ s.reports) (s.span j).monitor.params.ceiling (s.span j).monitor.params.floor =
    some (s.config.spans[j].ceiling, s.config.spans[j].floor)

theorem State.ceilingsOk_iff (s : State) : s.ceilingsOk ↔ s.CeilingsOwed [] := by
  constructor
  · rintro ⟨hconfig, hspan⟩
    refine ⟨hconfig, fun j => ?_, fun j => ?_⟩ <;> obtain ⟨hfloor, hceiling, htop, hled⟩ := hspan j
    · exact ⟨hfloor, hceiling, htop⟩
    · exact hled
  · rintro ⟨hconfig, hmonitor, hled⟩
    refine ⟨hconfig, fun j => ?_⟩
    obtain ⟨hfloor, hceiling, htop⟩ := hmonitor j
    exact ⟨hfloor, hceiling, htop, hled j⟩

section

variable {s t : State} {owed : List Report}

theorem State.CeilingsOwed.congr (h : s.CeilingsOwed owed) (hv : t.ceilingView = s.ceilingView) : t.CeilingsOwed owed := by
  simp only [State.ceilingView, CeilingView.mk.injEq] at hv
  obtain ⟨hpart, hparams, hbounds, hcoming⟩ := hv
  obtain ⟨⟨hpartOk, hspanOk⟩, hmonitor, hled⟩ := h
  have hsame (j : SpanId) := congrFun hbounds j
  simp only [Monitor.bounds, CeilingBounds.mk.injEq] at hsame
  refine ⟨⟨hpart ▸ hpartOk, hparams ▸ hspanOk⟩, fun j => ?_, fun j => ?_⟩ <;>
    obtain ⟨hceiling, hfloor, heffective⟩ := hsame j
  · rw [Monitor.InBounds, hceiling, hfloor, heffective]
    exact hmonitor j
  · rw [hceiling, hfloor, hparams, ← hled j, boundsAfter_append, boundsAfter_append]
    simp only [← boundsAfter_filter t.reports, ← boundsAfter_filter s.reports, congrFun hcoming j]

theorem State.ceilingsOk.congr (h : s.ceilingsOk) (hv : t.ceilingView = s.ceilingView) : t.ceilingsOk :=
  (State.ceilingsOk_iff t).2 (((State.ceilingsOk_iff s).1 h).congr hv)

end

/-! ## Changes elsewhere -/

section

variable (s : State)

theorem State.ceilingView_of_spared {s t : State} (hc : t.config = s.config)
    (hm : ∀ j, (t.span j).monitor = (s.span j).monitor) (hr : t.reports = s.reports) : t.ceilingView = s.ceilingView := by
  simp only [State.ceilingView, hc, hm, hr]

theorem State.ceilingView_ite {c : Prop} [Decidable c] {v : CeilingView} {t u : State} (ht : t.ceilingView = v)
    (hu : u.ceilingView = v) : (if c then t else u).ceilingView = v := by
  split <;> assumption

/-- Reports that lead no monitor may come. -/
theorem State.ceilingView_postAll {rs : List Report} (h : ∀ r ∈ rs, ∀ j, toMonitor j r = false) :
    (s.postAll rs).ceilingView = s.ceilingView := by
  have haside (j : SpanId) : rs.filter (toMonitor j) = [] := List.filter_eq_nil_iff.2 fun r hr => by simp [h r hr j]
  simp only [State.ceilingView, State.postAll, List.filter_append, haside, List.append_nil]
  rfl

theorem State.ceilingView_post {r : Report} (h : ∀ j, toMonitor j r = false) : (s.post r).ceilingView = s.ceilingView :=
  s.ceilingView_postAll (rs := [r]) (by simpa using h)

/-- And they may be taken. -/
theorem State.ceilingView_collect {s : State} {before after : List Report} {r : Report}
    (hr : s.reports = before ++ r :: after) (h : ∀ j, toMonitor j r = false) :
    ({ s with reports := before ++ after } : State).ceilingView = s.ceilingView := by
  simp only [State.ceilingView, hr, List.filter_append, List.filter_cons, h]
  rfl

@[simp] theorem State.ceilingView_modNode (n : NodeId) (f : Node → Node) :
    (s.modNode n f).ceilingView = s.ceilingView := rfl

@[simp] theorem State.ceilingView_modStream (h : Handle) (f : Stream → Stream) :
    (s.modStream h f).ceilingView = s.ceilingView := rfl

@[simp] theorem State.ceilingView_modPiece (p : Nat) (f : Piece → Piece) : (s.modPiece p f).ceilingView = s.ceilingView := rfl

@[simp] theorem State.ceilingView_modQueue (j : SpanId) (f : SpanQueue → SpanQueue) :
    (s.modQueue j f).ceilingView = s.ceilingView := State.ceilingView_of_spared rfl (by simp) rfl

@[simp] theorem State.ceilingView_modArbiter (j : SpanId) (f : Arbiter → Arbiter) :
    (s.modArbiter j f).ceilingView = s.ceilingView := State.ceilingView_of_spared rfl (by simp) rfl

@[simp] theorem State.ceilingView_modService (j : SpanId) (f : SpanService → SpanService) :
    (s.modService j f).ceilingView = s.ceilingView := State.ceilingView_of_spared rfl (by simp) rfl

@[simp] theorem State.ceilingView_modBudget (j : SpanId) (f : Budget → Budget) :
    (s.modBudget j f).ceilingView = s.ceilingView := State.ceilingView_of_spared rfl (by simp) rfl

theorem State.ceilingView_modMonitor (j : SpanId) {f : Monitor → Monitor} (h : ∀ m, (f m).bounds = m.bounds) :
    (s.modMonitor j f).ceilingView = s.ceilingView := by
  have hbounds (k : SpanId) : ((s.modMonitor j f).span k).monitor.bounds = (s.span k).monitor.bounds := by
    rw [State.span_modMonitor]
    split
    · rename_i e
      rw [e]
      exact h _
    · rfl
  simp only [State.ceilingView, hbounds]
  rfl

theorem State.ceilingView_modConfig {f : ConfigBlock → ConfigBlock} (hp : (f s.config).part = s.config.part)
    (hs : (f s.config).spans = s.config.spans) : (s.modConfig f).ceilingView = s.ceilingView := by
  simp only [State.ceilingView, State.modConfig, hp, hs]
  rfl

/-! ## Records written -/

@[simp] theorem State.ceilingView_result (n : NodeId) (c : Nat) (st : ResultStatus) (body : List Field) :
    (s.result n c st body).ceilingView = s.ceilingView := rfl

@[simp] theorem State.ceilingView_notifyAll (tag : EventTag) (body : List Field) :
    (s.notifyAll tag body).ceilingView = s.ceilingView := rfl

@[simp] theorem State.ceilingView_notifyOthers (but : NodeId) (tag : EventTag) (body : List Field) :
    (s.notifyOthers but tag body).ceilingView = s.ceilingView :=
  State.ceilingView_of_spared (by simp) (by simp) (by simp)

@[simp] theorem State.ceilingView_spanNotice (j : SpanId) (k : SpanNotice) (more : List Field) :
    (s.spanNotice j k more).ceilingView = s.ceilingView := rfl

@[simp] theorem State.ceilingView_healthNotice (j : SpanId) (k : SpanNotice) (more : List Field) :
    (s.healthNotice j k more).ceilingView = s.ceilingView := rfl

@[simp] theorem State.ceilingView_restored (j : SpanId) : (s.restored j).ceilingView = s.ceilingView := rfl

@[simp] theorem State.ceilingView_reportLink (j : SpanId) : (s.reportLink j).ceilingView = s.ceilingView :=
  s.ceilingView_post fun _ => rfl

@[simp] theorem State.ceilingView_handOn (j : SpanId) (before : Monitor) :
    (s.handOn j before).ceilingView = s.ceilingView := by
  rw [State.handOn_eq]
  refine s.ceilingView_postAll fun r hr k => ?_
  rcases List.mem_append.1 hr with hr | hr <;> split at hr <;> simp_all [toMonitor]

/-! ## Queues and the Frame Table -/

@[simp] theorem State.ceilingView_rearmDeadline (j : SpanId) : (s.rearmDeadline j).ceilingView = s.ceilingView :=
  s.ceilingView_modQueue ..

@[simp] theorem State.ceilingView_rearmWindow (j : SpanId) : (s.rearmWindow j).ceilingView = s.ceilingView :=
  s.ceilingView_modQueue ..

@[simp] theorem State.ceilingView_rearm (j : SpanId) : (s.rearm j).ceilingView = s.ceilingView :=
  (State.ceilingView_rearmWindow ..).trans (s.ceilingView_rearmDeadline j)

@[simp] theorem State.ceilingView_unlist (j : SpanId) (p : Nat) : (s.unlist j p).ceilingView = s.ceilingView :=
  State.ceilingView_of_spared (by simp) (by simp) (by simp)

@[simp] theorem State.ceilingView_beginSelection (j : SpanId) : (s.beginSelection j).ceilingView = s.ceilingView :=
  State.ceilingView_of_spared (by simp) (by simp) (by simp)

@[simp] theorem State.ceilingView_leaveScrubList (h : Handle) (i : Nat) :
    (s.leaveScrubList h i).ceilingView = s.ceilingView := rfl

@[simp] theorem State.ceilingView_recordOutcome (p : Nat) (o : PieceOutcome) :
    (s.recordOutcome p o).ceilingView = s.ceilingView := State.ceilingView_of_spared (by simp) (by simp) (by simp)

@[simp] theorem State.ceilingView_finishIfDone (i : Nat) : (s.finishIfDone i).ceilingView = s.ceilingView :=
  State.ceilingView_of_spared (by simp) (by simp) (by simp)

@[simp] theorem State.ceilingView_takeOutcome (p : Nat) (o : PieceOutcome) :
    (s.takeOutcome p o).ceilingView = s.ceilingView := State.ceilingView_of_spared (by simp) (by simp) (by simp)

@[simp] theorem State.ceilingView_loseQueue (j : SpanId) : (s.loseQueue j).ceilingView = s.ceilingView := by
  have hlost : ((s.queued j).foldl (fun s p => s.takeOutcome p .spanLost) (s.emptied j)).ceilingView = s.ceilingView :=
    (foldl_keeps State.ceilingView _ (by simp) _ _).trans (s.ceilingView_modQueue ..)
  rw [State.loseQueue_eq]
  exact State.ceilingView_ite hlost ((State.ceilingView_post _ fun _ => rfl).trans hlost)

@[simp] theorem State.ceilingView_withdrawPiece (o : PieceOutcome) (p : Nat) :
    (State.withdrawPiece o s p).ceilingView = s.ceilingView := by
  rcases s.withdrawPiece_cases o p with ⟨-, h⟩ | ⟨pc, -, -, h⟩
  · rw [h]
  · rw [h, State.ceilingView_recordOutcome]
    exact State.ceilingView_ite ((State.ceilingView_post _ fun _ => rfl).trans (s.ceilingView_unlist ..)) rfl

@[simp] theorem State.ceilingView_withdrawFrame (r : CancelReason) (i : Nat) :
    (State.withdrawFrame r s i).ceilingView = s.ceilingView := by
  rcases s.withdrawFrame_cases r i with h | ⟨f, -, -, h⟩
  · rw [h]
  · rw [h, State.ceilingView_finishIfDone]
    exact foldl_keeps State.ceilingView _ (by simp) f.pieceRefs (s.reasoned i f r)

@[simp] theorem State.ceilingView_cancelStream (i : StreamId) : (s.cancelStream i).ceilingView = s.ceilingView :=
  foldl_keeps State.ceilingView _ (by simp) _ s

@[simp] theorem State.ceilingView_enqueue (p : Nat) (pc : Piece) : (s.enqueue p pc).ceilingView = s.ceilingView := by
  unfold State.enqueue
  dsimp only
  split
  · rw [State.ceilingView_post _ fun _ => rfl, State.ceilingView_rearm, State.ceilingView_modQueue]
    rfl
  · rw [State.ceilingView_post _ fun _ => rfl, State.ceilingView_modQueue]
    rfl

@[simp] theorem State.ceilingView_placePiece (hold : Bool) (h : Handle) (p : Nat) :
    (State.placePiece hold h s p).ceilingView = s.ceilingView := by
  rcases s.placePiece_cases hold h p with ⟨e, -⟩ | ⟨pc, -, ⟨-, e⟩ | e⟩ <;> rw [e]
  · exact s.ceilingView_enqueue p pc
  · exact s.ceilingView_recordOutcome ..

@[simp] theorem State.ceilingView_releaseFrame (i : Nat) : (s.releaseFrame i).ceilingView = s.ceilingView := by
  rcases s.releaseFrame_cases i with h | ⟨f, -, -, h⟩
  · rw [h]
  · rw [h, State.ceilingView_finishIfDone]
    exact foldl_keeps State.ceilingView _ (by simp) (s.heldOf f) (s.dueFrame i)

@[simp] theorem State.ceilingView_takeLate (l : LateFrame) : (s.takeLate l).ceilingView = s.ceilingView := by
  unfold State.takeLate
  split
  · rfl
  · refine State.ceilingView_ite ?_ rfl
    split
    · rfl
    · exact State.ceilingView_ite (s.ceilingView_withdrawFrame ..) rfl

@[simp] theorem State.ceilingView_acceptRead (n : NodeId) (rec : List Byte) (st : Stream) (kind : FrameKind)
    (deadline : Option Time) : (s.acceptRead n rec st kind deadline).ceilingView = s.ceilingView :=
  State.acceptRead_keeps State.ceilingView (fun _ _ _ => rfl) (by simp) (by simp) (by simp) (by simp) (by simp) ..

@[simp] theorem State.ceilingView_readFrame (n : NodeId) (rec : List Byte) :
    (s.readFrame n rec).ceilingView = s.ceilingView := by
  unfold State.readFrame
  split
  · rfl
  · dsimp only
    split
    · exact State.ceilingView_ite rfl (s.ceilingView_acceptRead ..)
    · split
      · exact s.ceilingView_acceptRead ..
      · exact State.ceilingView_ite (by simp) rfl

/-! ## Streams -/

@[simp] theorem State.ceilingView_recomputeOvercommit (j : SpanId) :
    (s.recomputeOvercommit j).ceilingView = s.ceilingView := State.ceilingView_of_spared (by simp) (by simp) (by simp)

@[simp] theorem State.ceilingView_updateDegraded (j : SpanId) : (s.updateDegraded j).ceilingView = s.ceilingView := rfl

@[simp] theorem State.ceilingView_commit (e : SpanEntry) : (s.commit e).ceilingView = s.ceilingView := by
  simp [State.commit]

@[simp] theorem State.ceilingView_uncommit (e : SpanEntry) : (s.uncommit e).ceilingView = s.ceilingView :=
  State.ceilingView_ite (by simp) rfl

@[simp] theorem State.ceilingView_freeStream (h : Handle) : (s.freeStream h).ceilingView = s.ceilingView := by
  unfold State.freeStream
  split
  · rfl
  · exact foldl_keeps State.ceilingView _ (by simp) _ s

@[simp] theorem State.ceilingView_tryOpen (n : NodeId) (a : OpenArgs) : (s.tryOpen n a).ceilingView = s.ceilingView := by
  unfold State.tryOpen
  split
  · rfl
  · dsimp only
    split
    · rfl
    · exact State.ceilingView_ite (foldl_keeps State.ceilingView _ (by simp) _ s) rfl

@[simp] theorem State.ceilingView_releaseAbsent (j : SpanId) : (s.releaseAbsent j).ceilingView = s.ceilingView := by
  unfold State.releaseAbsent
  extract_lets freed given released
  have hreleased : released.ceilingView = given.ceilingView := rfl
  rw [State.ceilingView_recomputeOvercommit, State.ceilingView_updateDegraded, hreleased]
  exact s.ceilingView_modBudget ..

@[simp] theorem State.ceilingView_stopStream (n : NodeId) (code : Nat) (i : StreamId) (st : Stream) (z : Bool) :
    (s.stopStream n code i st z).ceilingView = s.ceilingView := State.ceilingView_ite (by simp) rfl

@[simp] theorem State.ceilingView_noticeOrphaned (former : NodeId) (h : Handle) :
    (State.noticeOrphaned former s h).ceilingView = s.ceilingView := by
  unfold State.noticeOrphaned
  split <;> rfl

@[simp] theorem State.ceilingView_orphanExpires (h : Handle) : (s.orphanExpires h).ceilingView = s.ceilingView := by
  unfold State.orphanExpires
  split
  · rfl
  · exact State.ceilingView_ite (by simp) rfl

@[simp] theorem State.ceilingView_zeroGrace (hs : List Handle) : (s.zeroGrace hs).ceilingView = s.ceilingView :=
  State.ceilingView_ite (foldl_keeps State.ceilingView _ (by simp) hs s) rfl

/-! ## Nodes that leave -/

@[simp] theorem State.ceilingView_leaveStreams (n : NodeId) (f : Stream → Stream) :
    (s.leaveStreams n f).ceilingView = s.ceilingView := rfl

@[simp] theorem State.ceilingView_oweCancels (n : NodeId) (hs : List Handle) :
    (s.oweCancels n hs).ceilingView = s.ceilingView := by
  refine s.ceilingView_postAll fun r hr j => ?_
  obtain ⟨h, -, rfl⟩ := List.mem_map.1 hr
  rfl

@[simp] theorem State.ceilingView_releaseClaim (n : NodeId) : (s.releaseClaim n).ceilingView = s.ceilingView :=
  State.ceilingView_ite (s.ceilingView_modConfig rfl rfl) rfl

@[simp] theorem State.ceilingView_noticeClaim (n : NodeId) (released : Bool) :
    (s.noticeClaim n released).ceilingView = s.ceilingView := State.ceilingView_ite rfl rfl

theorem State.ceilingView_noticesOrphaned (former : NodeId) (hs : List Handle) :
    (hs.foldl (State.noticeOrphaned former) s).ceilingView = s.ceilingView := foldl_keeps State.ceilingView _ (by simp) hs s

@[simp] theorem State.ceilingView_loseNode (n : NodeId) (cause : LossCause) :
    (s.loseNode n cause).ceilingView = s.ceilingView := by
  simp [State.loseNode, State.ceilingView_noticesOrphaned]

@[simp] theorem State.ceilingView_detach (n : NodeId) (handover : Bool) :
    (s.detach n handover).ceilingView = s.ceilingView := by
  cases handover <;> simp [State.detach, State.ceilingView_noticesOrphaned]

/-! ## Dispatch, links and presence -/

@[simp] theorem State.ceilingView_putInService (j : SpanId) (k : SlotId) (p : Nat) (pc : Piece) :
    (s.putInService j k p pc).ceilingView = s.ceilingView := by
  unfold State.putInService
  dsimp only
  split <;> simp

theorem State.ceilingView_dispatchOne {s t : State} {j : SpanId} {c : Choice} (h : s.dispatchOne j c = some t) :
    t.ceilingView = s.ceilingView := by
  unfold State.dispatchOne at h
  split at h
  · cases h
    simp
  · cases h

theorem State.ceilingView_postOutcomes (lost : List Nat) (o : PieceOutcome) :
    (s.postAll (lost.map fun p => .outcome p o)).ceilingView = s.ceilingView := by
  refine s.ceilingView_postAll fun r hr j => ?_
  obtain ⟨p, -, rfl⟩ := List.mem_map.1 hr
  rfl

@[simp] theorem State.ceilingView_holdExpires (j : SpanId) : (s.holdExpires j).ceilingView = s.ceilingView := by
  simp [State.holdExpires]

@[simp] theorem State.ceilingView_leaveUp (j : SpanId) (cause : LinkDownCause) :
    (s.leaveUp j cause).ceilingView = s.ceilingView := by
  unfold State.leaveUp
  exact State.ceilingView_ite (by simp [State.ceilingView_postOutcomes]) (by simp [State.ceilingView_postOutcomes])

@[simp] theorem State.ceilingView_becomeAbsent (j : SpanId) : (s.becomeAbsent j).ceilingView = s.ceilingView := by
  unfold State.becomeAbsent
  dsimp only
  rw [State.ceilingView_spanNotice, State.ceilingView_postAll]
  · simp [State.ceilingView_postOutcomes]
  · simp [toMonitor]

@[simp] theorem State.ceilingView_resetLink (j : SpanId) : (s.resetLink j).ceilingView = s.ceilingView := by
  unfold State.resetLink
  split <;> simp

/-! ## Parameters that no monitor takes -/

@[simp] theorem State.ceilingView_admissionTakesPart (x : Nat × Nat) :
    (s.admissionTakesPart x).ceilingView = s.ceilingView := by
  unfold State.admissionTakesPart
  split <;> rfl

theorem State.ceilingView_takeParams {b : ParamBlock} (hb : ∀ j, b ≠ .monitor j) (scope : Option SpanId)
    (values : List (Nat × Nat)) : (s.takeParams b scope values).ceilingView = s.ceilingView := by
  unfold State.takeParams
  split
  · exact foldl_keeps State.ceilingView _ (by simp) values s
  · simp
  · rfl
  · rfl
  · simp
  · simp
  · exact absurd rfl (hb _)
  · simp

end

end Sys2Proof.Machine
end

section
/-! PROOFS. Parameters within their ranges through a CONFIG_SET, with the reports that it puts in flight (R184 to R187). -/

namespace Sys2Proof.Machine

/-! ## Clamping -/

theorem clamp_mem {lo hi : Nat} (h : lo ≤ hi) (v : Nat) : lo ≤ clamp lo hi v ∧ clamp lo hi v ≤ hi := by
  unfold clamp
  split_ifs <;> omega

theorem PartParams.ok.range_le {p : PartParams} (h : p.ok) (number : Nat) : (p.range number).1 ≤ (p.range number).2 := by
  unfold PartParams.range
  split <;> dsimp only <;> omega

theorem SpanParams.ok.range_le {p : SpanParams} (h : p.ok) (number : Nat) : (p.range number).1 ≤ (p.range number).2 := by
  unfold SpanParams.range
  split <;> dsimp only <;> omega

theorem clampWindow_mem (v : Nat) :
    clampWindow v = 25 ∨ clampWindow v = 50 ∨ clampWindow v = 75 ∨ clampWindow v = 100 := by
  unfold clampWindow
  split_ifs <;> simp

theorem SpanParams.ok.ceilings {p : SpanParams} (h : p.ok) : p.floor ≤ p.ceiling ∧ p.ceiling ≤ 950000 := by omega

/-- A part-wide value taken within its range, with the bounds that move along, keeps every range (R185). -/
theorem PartParams.ok.set {p : PartParams} (h : p.ok) (number v : Nat) : (p.set number v).ok := by
  have hv := clamp_mem (h.range_le number) v
  have hw := clampWindow_mem (clamp (p.range number).1 (p.range number).2 v)
  unfold PartParams.set
  dsimp only
  split <;> simp only [PartParams.range, PartParams.ok] at h hv hw ⊢ <;> omega

/-- A span's value taken within its range, with the parameters that move along, keeps every range (R186). -/
theorem SpanParams.ok.set {p : SpanParams} (h : p.ok) (number v : Nat) : (p.set number v).ok := by
  have hv := clamp_mem (h.range_le number) v
  unfold SpanParams.set
  dsimp only
  split <;> simp only [SpanParams.range, SpanParams.ok] at h hv ⊢ <;> omega

/-- Only the sets of the configured ceiling and the derate floor move a ceiling or a floor (R186). -/
theorem SpanParams.set_bounds {p : SpanParams} {number : Nat} (h5 : number ≠ 5) (h6 : number ≠ 6) (v : Nat) :
    (p.set number v).ceiling = p.ceiling ∧ (p.set number v).floor = p.floor := by
  unfold SpanParams.set
  dsimp only
  split <;> simp at h5 h6 ⊢

end Sys2Proof.Machine
end

section
/-! PROOFS. Ceilings and floors through the rows that move them: the judgement of a window, CONFIG_SET, the reports that a
monitor takes, and the resets (R133 to R135, R141 to R143, R145, R146, R184). -/

namespace Sys2Proof.Machine

section

variable {s t : State} {j : SpanId}

/-! ## The reports of a CONFIG_SET -/

theorem partReports_aside (number : Nat) (values : List (Nat × Nat)) :
    ∀ r ∈ partReports number values, ∀ j, toMonitor j r = false := by
  unfold partReports
  split <;> simp [toMonitor]

theorem spanReports_aside {k : SpanId} (hk : k ≠ j) (p : SpanParams) (number : Nat) (values : List (Nat × Nat)) :
    ∀ r ∈ spanReports j p number values, toMonitor k r = false := by
  unfold spanReports
  split <;> simp [toMonitor, Ne.symm hk]

theorem fst_mem_of_mem_valuesOf {after : Nat → Option Nat} {numbers : List Nat} {x : Nat × Nat}
    (h : x ∈ valuesOf after numbers) : x.1 ∈ numbers := by
  obtain ⟨k, hk, hx⟩ := List.mem_filterMap.1 h
  obtain ⟨v, -, rfl⟩ := Option.map_eq_some_iff.1 hx
  exact hk

/-- The derate floor moves with its own set and with that of the configured ceiling only (R186). -/
theorem six_not_mem_spanRelated {number : Nat} (h5 : number ≠ 5) : 6 ∉ spanRelated number := by
  unfold spanRelated
  split <;> simp at h5 ⊢

theorem boundsAfter_spanReports_of_no_floor {number : Nat} (h5 : number ≠ 5) {values : List (Nat × Nat)}
    (h6 : ∀ x ∈ values, x.1 ≠ 6) (p : SpanParams) (c f : Nat) :
    boundsAfter j (spanReports j p number values) c f = some (c, f) := by
  unfold spanReports
  split <;> try rfl
  · exact absurd rfl h5
  · rw [boundsAfter_param, floorAfter_of_no_floor h6]
    rfl

/-- A set's reports lead the monitor from the bounds before the set to those after it (R141, R142, R187). -/
theorem boundsAfter_spanReports {p : SpanParams} (hp : p.ok) (j : SpanId) (number v : Nat) :
    boundsAfter j (spanReports j (p.set number v) number (valuesOf (p.set number v).value
        (number :: movedBy p.value (p.set number v).value (spanRelated number)))) p.ceiling p.floor =
      some ((p.set number v).ceiling, (p.set number v).floor) := by
  have hset := hp.set number v
  by_cases h5 : number = 5
  · subst h5
    exact (boundsAfter_configuredCeiling ..).trans (if_pos (by omega))
  by_cases h6 : number = 6
  · subst h6
    have hceiling : (p.set 6 v).ceiling = p.ceiling := rfl
    have hfloor : floorAfter p.ceiling [(6, (p.set 6 v).floor)] p.floor = some (p.set 6 v).floor := by
      rw [floorAfter, if_pos rfl, if_pos (by omega), floorAfter]
    exact (boundsAfter_param ..).trans (congrArg (Option.bind · _) hfloor)
  obtain ⟨hceiling, hfloor⟩ := SpanParams.set_bounds (p := p) h5 h6 v
  rw [hceiling, hfloor]
  refine boundsAfter_spanReports_of_no_floor h5 (fun x hx hsix => ?_) ..
  rcases List.mem_cons.1 (hsix ▸ fst_mem_of_mem_valuesOf hx) with e | hmoved
  · exact h6 e.symm
  · exact six_not_mem_spanRelated h5 (List.mem_of_mem_filter hmoved)

theorem set_get {α : Type} (v : Vector α 8) (j k : Fin 8) (a : α) : (v.set j a)[k] = if k = j then a else v[k] := by
  simp only [Fin.getElem_fin, Vector.getElem_set, Fin.val_inj, eq_comm]

theorem State.ceilingsOk.setPart (h : s.ceilingsOk) (n : NodeId) (span number v : Nat) :
    (s.setPart n span number v).ceilingsOk := by
  obtain ⟨⟨hpart, hspans⟩, hbounds⟩ := h
  have hset : (s.modConfig fun c => { c.countSet with part := s.config.part.set number v }).ceilingsOk :=
    ⟨⟨hpart.set number v, hspans⟩, hbounds⟩
  refine hset.congr ?_
  rw [State.setPart, State.ceilingView_postAll _ (partReports_aside _ _)]
  rfl

theorem State.ceilingsOk.setSpan (h : s.ceilingsOk) (n : NodeId) (j : SpanId) (number v : Nat) :
    (s.setSpan n j number v).ceilingsOk := by
  obtain ⟨⟨hpart, hspans⟩, hmonitor, hled⟩ := (State.ceilingsOk_iff s).1 h
  have hparams (k : SpanId) : (s.setSpan n j number v).config.spans[k] =
      if k = j then s.config.spans[j].set number v else s.config.spans[k] := set_get ..
  refine (State.ceilingsOk_iff _).2 ⟨⟨hpart, fun k => ?_⟩, hmonitor, fun k => ?_⟩
  · rw [hparams]
    split
    · exact (hspans j).set number v
    · exact hspans k
  · rw [hparams]
    have hbefore := hled k
    rw [List.nil_append] at hbefore
    refine (boundsAfter_append s.reports _ (s.span k).monitor.params.ceiling (s.span k).monitor.params.floor).trans ?_
    rw [hbefore]
    split
    · rename_i hk
      subst hk
      exact boundsAfter_spanReports (hspans k) k number v
    · rename_i hk
      exact boundsAfter_of_aside (spanReports_aside hk _ _ _) ..

/-! ## Monitors -/

/-- A monitor that moves its bounds as the report it has taken, or as no report, leads them. -/
theorem State.CeilingsOwed.modMonitor {owed left : List Report} (h : s.CeilingsOwed owed) {f : Monitor → Monitor}
    (hm : (f (s.span j).monitor).InBounds)
    (hled : boundsAfter j left (f (s.span j).monitor).params.ceiling (f (s.span j).monitor).params.floor =
      boundsAfter j owed (s.span j).monitor.params.ceiling (s.span j).monitor.params.floor)
    (hothers : ∀ k ≠ j, ∀ c f, boundsAfter k left c f = boundsAfter k owed c f) :
    (s.modMonitor j f).CeilingsOwed left := by
  refine ⟨h.config, fun k => ?_, fun k => ?_⟩ <;> rw [State.span_modMonitor]
  · split
    · exact hm
    · exact h.monitor k
  · have hk := h.led k
    rw [boundsAfter_append] at hk ⊢
    split
    · rename_i e
      subst e
      rw [hled]
      exact hk
    · rename_i e
      rw [hothers k e]
      exact hk

/-- A monitor that moves its effective ceiling within the bounds that stand. -/
theorem State.ceilingsOk.modMonitor (h : s.ceilingsOk) {f : Monitor → Monitor} (hm : (f (s.span j).monitor).InBounds)
    (hc : (f (s.span j).monitor).params.ceiling = (s.span j).monitor.params.ceiling)
    (hf : (f (s.span j).monitor).params.floor = (s.span j).monitor.params.floor) : (s.modMonitor j f).ceilingsOk :=
  (State.ceilingsOk_iff _).2 (((State.ceilingsOk_iff s).1 h).modMonitor hm (by rw [hc, hf]) fun _ _ _ _ => rfl)

theorem State.ceilingsOk.inBounds (h : s.ceilingsOk) (j : SpanId) : (s.span j).monitor.InBounds :=
  ((State.ceilingsOk_iff s).1 h).monitor j

theorem Monitor.judge_params (m : Monitor) : m.judge.params = m.params := by rw [Monitor.judge_eq]

theorem State.ceilingsOk.judgeWindow (h : s.ceilingsOk) (j : SpanId) : (s.judgeWindow j).ceilingsOk := by
  unfold State.judgeWindow
  extract_lets before judged turned handed derated restored
  have hparams : (judged.turn s.time).params = before.params := before.judge_params
  have hturned : turned.ceilingsOk := h.modMonitor (h.inBounds j).judge (by rw [hparams]) (by rw [hparams])
  have hhanded : handed.ceilingView = turned.ceilingView := turned.ceilingView_handOn ..
  have hderated : derated.ceilingView = turned.ceilingView :=
    State.ceilingView_ite ((handed.ceilingView_healthNotice ..).trans hhanded) hhanded
  have hrestored : restored.ceilingView = turned.ceilingView :=
    State.ceilingView_ite ((derated.ceilingView_restored j).trans hderated) hderated
  exact hturned.congr (State.ceilingView_ite ((restored.ceilingView_healthNotice ..).trans hrestored) hrestored)

theorem State.ceilingsOk.monitorAbsent (h : s.ceilingsOk) (j : SpanId) (before : Monitor) :
    ((s.modMonitor j fun m => m.forget s.time).handOn j before).ceilingsOk :=
  (h.modMonitor (j := j) (f := fun m => m.forget s.time) ((h.inBounds j).forget _) rfl rfl).congr
    (State.ceilingView_handOn ..)

/-! ## The reports that a monitor takes -/

/-- A report taken from its channel is owed until the monitor has acted upon it. -/
theorem State.ceilingsOk.taken (h : s.ceilingsOk) {r : Report} {before after : List Report}
    (ho : s.offers (toMonitor j) r before after) : ({ s with reports := before ++ after } : State).CeilingsOwed [r] := by
  obtain ⟨hreports, hr, hbefore⟩ := ho
  obtain ⟨hconfig, hmonitor, hled⟩ := (State.ceilingsOk_iff s).1 h
  refine ⟨hconfig, hmonitor, fun k => (hled k).symm.trans ?_ |>.symm⟩
  rw [hreports, List.nil_append, List.singleton_append]
  cases hk : toMonitor k r with
  | true =>
    obtain rfl := eq_of_toMonitor hr hk
    have hrest (c f : Nat) : boundsAfter k (before ++ after) c f = boundsAfter k after c f := by
      rw [boundsAfter_append, boundsAfter_of_aside hbefore]
      rfl
    rw [boundsAfter_append, boundsAfter_of_aside hbefore]
    change boundsAfter k ([r] ++ after) _ _ = boundsAfter k ([r] ++ (before ++ after)) _ _
    rw [boundsAfter_append, boundsAfter_append]
    simp only [hrest]
    rfl
  | false =>
    rw [boundsAfter_cons_of_aside hk, boundsAfter_append, boundsAfter_append]
    simp only [boundsAfter_cons_of_aside hk]
    rfl

theorem State.CeilingsOwed.configureCeiling {c f : Nat} (h : s.CeilingsOwed [.configuredCeiling j c f]) :
    (s.configureCeiling j c f).ceilingsOk := by
  have hled := h.led j
  rw [List.singleton_append, boundsAfter_configuredCeiling] at hled
  have hbounds : f ≤ c ∧ c ≤ 950000 := by
    by_contra hn
    rw [if_neg hn] at hled
    cases hled
  have hparams (m : Monitor) : (m.configure c f).params = { m.params with ceiling := c, floor := f } := by
    rw [Monitor.configure, Monitor.setCeiling_eq]
  have hconfigured : (s.modMonitor j fun m => m.configure c f).CeilingsOwed [] := by
    refine h.modMonitor (.configure hbounds.1 hbounds.2) ?_ fun k hk _ _ => ?_
    · rw [boundsAfter_configuredCeiling, if_pos hbounds, hparams]
    · exact (boundsAfter_cons_of_aside (toMonitor_configuredCeiling_ne hk c f) ..).symm
  refine (State.ceilingsOk_iff _).2 (hconfigured.congr ?_)
  unfold State.configureCeiling
  extract_lets before configured handed
  have hhanded : handed.ceilingView = configured.ceilingView :=
    (State.ceilingView_handOn ..).trans (configured.ceilingView_post fun _ => rfl)
  exact State.ceilingView_ite ((handed.ceilingView_restored j).trans hhanded) hhanded

theorem State.ceilingView_configureFloor (s : State) (j : SpanId) (f : Nat) :
    (s.configureFloor j f).ceilingView = (s.modMonitor j fun m => m.setFloor f).ceilingView := by
  unfold State.configureFloor
  extract_lets before handed
  have hhanded : handed.ceilingView = (s.modMonitor j fun m => m.setFloor f).ceilingView := State.ceilingView_handOn ..
  exact State.ceilingView_ite ((handed.ceilingView_restored j).trans hhanded) hhanded

theorem Monitor.setFloor_params (m : Monitor) (f : Nat) : (m.setFloor f).params = { m.params with floor := f } := by
  rw [Monitor.setFloor, Monitor.setCeiling_eq]

/-- A value but for the derate floor moves neither ceiling nor floor (R142). -/
theorem MonitorParams.takes_bounds (p : MonitorParams) (x : Nat × Nat) :
    (p.takes x).ceiling = p.ceiling ∧ (p.takes x).floor = p.floor := by
  unfold MonitorParams.takes
  split <;> exact ⟨rfl, rfl⟩

/-- One value of a report acted upon. -/
theorem State.CeilingsOwed.monitorTakes {scope : Option SpanId} {x : Nat × Nat} {values : List (Nat × Nat)}
    (h : s.CeilingsOwed [.param (.monitor j) scope (x :: values)]) :
    (State.monitorTakes j s x).CeilingsOwed [.param (.monitor j) scope values] := by
  have hothers (k : SpanId) (hk : k ≠ j) (c f : Nat) : boundsAfter k [.param (.monitor j) scope values] c f =
      boundsAfter k [.param (.monitor j) scope (x :: values)] c f := by
    rw [boundsAfter_cons_of_aside (toMonitor_param_ne hk ..), boundsAfter_cons_of_aside (toMonitor_param_ne hk ..)]
  have hled := h.led j
  rw [List.singleton_append, boundsAfter_param, floorAfter] at hled
  unfold State.monitorTakes
  split
  · rename_i hsix
    have hfloor : x.2 ≤ (s.span j).monitor.params.ceiling := by
      by_contra hn
      rw [if_pos hsix, if_neg hn] at hled
      cases hled
    refine State.CeilingsOwed.congr (h.modMonitor (f := fun m => m.setFloor x.2) ((h.monitor j).setFloor hfloor) ?_ hothers)
      (s.ceilingView_configureFloor j x.2)
    simp only [Monitor.setFloor_params, boundsAfter_param, floorAfter, if_pos hsix, if_pos hfloor]
  · rename_i hsix
    obtain ⟨hceiling, hfloor⟩ := (s.span j).monitor.params.takes_bounds x
    refine h.modMonitor ?_ ?_ hothers
    · rw [Monitor.InBounds, hceiling, hfloor]
      exact h.monitor j
    · simp only [hceiling, hfloor, boundsAfter_param, floorAfter, if_neg hsix]

/-- All values of a report acted upon, one after another. -/
theorem State.CeilingsOwed.foldl_monitorTakes {scope : Option SpanId} {values : List (Nat × Nat)}
    (h : s.CeilingsOwed [.param (.monitor j) scope values]) : (values.foldl (State.monitorTakes j) s).ceilingsOk := by
  induction values generalizing s with
  | nil =>
    refine (State.ceilingsOk_iff s).2 ⟨h.config, h.monitor, fun k => ?_⟩
    have hled := h.led k
    by_cases hk : k = j
    · subst hk
      rwa [List.singleton_append, boundsAfter_param] at hled
    · rwa [List.singleton_append, boundsAfter_cons_of_aside (toMonitor_param_ne hk ..)] at hled
  | cons x values ih => exact ih h.monitorTakes

/-! ## Resets -/

theorem State.ceilingsOk_atReset {now : Time} (hc : t.configOk)
    (hm : ∀ j, (t.span j).monitor = Monitor.atReset now t.config.spans[j])
    (hr : ∀ j, ∀ r ∈ t.reports, toMonitor j r = false) : t.ceilingsOk := by
  refine ⟨hc, fun j => ?_⟩
  obtain ⟨hfloor, htop⟩ := (hc.2 j).ceilings
  rw [hm, boundsAfter_of_aside (hr j)]
  exact ⟨hfloor, le_rfl, htop, rfl⟩

theorem State.ceilingsOk_powerOn (presence : Vector Bool 8) (linkUp : Vector Bool 4) (pending : List Instr) :
    ({ State.cold presence linkUp with pending := pending } : State).ceilingsOk := by
  have hparams (j : SpanId) : ConfigBlock.cold.spans[j] = SpanParams.default := bank8_get ..
  have hpart : PartParams.default.ok := by decide
  refine State.ceilingsOk_atReset (now := 0) ⟨hpart, fun j => ?_⟩ (fun j => ?_) fun j r hr => by cases hr
  · change ConfigBlock.cold.spans[j].ok
    rw [hparams]
    decide
  · change ((State.cold presence linkUp).span j).monitor = Monitor.atReset 0 ConfigBlock.cold.spans[j]
    rw [hparams, State.cold, State.span, bank8_get]
    rfl

theorem State.ceilingsOk.warmReset (h : s.ceilingsOk) (kind : ResetKind) : (s.warmReset kind).ceilingsOk := by
  refine State.ceilingsOk_atReset (now := s.time) h.1 (fun j => ?_) fun j r hr => ?_
  · rw [State.warmReset, State.span, bank8_get]
    rfl
  · have hsurvives := (List.mem_filter.1 hr).2
    cases r with
    | latency => rfl
    | tripClass => rfl
    | _ => cases hsurvives

end

end Sys2Proof.Machine
end

section
/-! PROOFS. Every row, and so every step, keeps parameters and ceilings within their bounds. -/

namespace Sys2Proof.Machine

open Host (Outcome)

/-- An event after which parameters and ceilings that were within their bounds still are. -/
def KeepsCeilings (s : State) (o : Outcome State Fault Refusal) : Prop :=
  ∀ t, o = .next t → s.ceilingsOk → t.ceilingsOk

section

variable {s t u : State} {n : NodeId} {code : Nat}

theorem KeepsCeilings.next (h : s.ceilingsOk → t.ceilingsOk) : KeepsCeilings s (.next t) := fun _ e => by
  cases e
  exact h

/-- An event that leaves everything as it was that ceilings rest on. -/
theorem KeepsCeilings.same (h : t.ceilingView = s.ceilingView) : KeepsCeilings s (.next t) := .next fun hs => hs.congr h

theorem KeepsCeilings.stay (s : State) : KeepsCeilings s (.next s) := .same rfl

theorem KeepsCeilings.stay_or {c : Prop} [Decidable c] (h : s.ceilingsOk → t.ceilingsOk) :
    KeepsCeilings s (if c then .next t else .next s) := by
  split
  · exact .next h
  · exact .stay s

theorem KeepsCeilings.stay_or_same {c : Prop} [Decidable c] (h : t.ceilingView = s.ceilingView) :
    KeepsCeilings s (if c then .next t else .next s) := .stay_or fun hs => hs.congr h

/-! ## Reports and commands taken -/

/-- A report that leads some monitor is a configured ceiling, or a parameter report to that monitor. -/
theorem aside_of_channel {channel : Report → Bool} (hc : ∀ j c f, channel (.configuredCeiling j c f) = false)
    (hp : ∀ j scope values, channel (.param (.monitor j) scope values) = false) {r : Report} (hr : channel r = true)
    (j : SpanId) : toMonitor j r = false := by
  by_contra hn
  rcases (toMonitor_iff r).1 (Bool.not_eq_false _ ▸ hn) with ⟨c, f, rfl⟩ | ⟨scope, values, rfl⟩
  · rw [hc] at hr
    cases hr
  · rw [hp] at hr
    cases hr

/-- An event that takes reports which lead no monitor. -/
theorem withReport_ceilings {channel : Report → Bool} {act : Report → State → Option State}
    (h : ∀ r u t, act r u = some t → u.ceilingsOk → t.ceilingsOk)
    (hc : ∀ j c f, channel (.configuredCeiling j c f) = false := by intros; rfl)
    (hp : ∀ j scope values, channel (.param (.monitor j) scope values) = false := by intros; rfl) :
    KeepsCeilings s (withReport s channel act) := fun t ht hs => by
  rcases withReport_cases ht with rfl | ⟨r, before, after, ⟨hr, hch, -⟩, ht⟩
  · exact hs
  · exact h r _ t ht (hs.congr (State.ceilingView_collect hr (aside_of_channel hc hp hch)))

/-- The same for an event whose action always goes on. -/
theorem withReport_some_ceilings {channel : Report → Bool} {f : Report → State → State}
    (h : ∀ r (u : State), (f r u).ceilingView = u.ceilingView)
    (hc : ∀ j c f, channel (.configuredCeiling j c f) = false := by intros; rfl)
    (hp : ∀ j scope values, channel (.param (.monitor j) scope values) = false := by intros; rfl) :
    KeepsCeilings s (withReport s channel fun r u => some (f r u)) :=
  withReport_ceilings (fun r u t e hu => by
    cases e
    exact hu.congr (h r u)) hc hp

/-- The same for an event that acts on one kind of report. -/
theorem withReport_same {channel : Report → Bool} {act : Report → State → Option State}
    (h : ∀ r u t, act r u = some t → t.ceilingView = u.ceilingView)
    (hc : ∀ j c f, channel (.configuredCeiling j c f) = false := by intros; rfl)
    (hp : ∀ j scope values, channel (.param (.monitor j) scope values) = false := by intros; rfl) :
    KeepsCeilings s (withReport s channel act) := withReport_ceilings (fun r u t e hu => hu.congr (h r u t e)) hc hp

/-- An event that takes only reports of its own kind. -/
theorem view_of_match (h : u.ceilingView = s.ceilingView) (e : some u = some t) : t.ceilingView = s.ceilingView := by
  cases e
  exact h

theorem withCommand_ceilings {act : List Byte → State → State}
    (h : ∀ rec (u : State), u.ceilingsOk → (act rec u).ceilingsOk) :
    KeepsCeilings s (withCommand n code s act) := fun t ht hs => by
  rcases withCommand_cases ht with rfl | ⟨rec, rest, -, rfl⟩
  · exact hs
  · exact h rec _ (hs.congr (s.ceilingView_modNode ..))

theorem withAttached_ceilings {act : List Byte → State → State}
    (h : ∀ rec (u : State), u.ceilingsOk → (act rec u).ceilingsOk) : KeepsCeilings s (withAttached n code s act) :=
  withCommand_ceilings fun rec u hu => by
    split
    · exact h rec u hu
    · exact hu.congr (u.ceilingView_result ..)

theorem withClaim_ceilings {act : List Byte → State → State}
    (h : ∀ rec (u : State), u.ceilingsOk → (act rec u).ceilingsOk) : KeepsCeilings s (withClaim n code s act) :=
  withAttached_ceilings fun rec u hu => by
    split
    · exact h rec u hu
    · exact hu.congr (u.ceilingView_result ..)

theorem withCommand_view {act : List Byte → State → State}
    (h : ∀ rec (u : State), (act rec u).ceilingView = u.ceilingView) :
    KeepsCeilings s (withCommand n code s act) := withCommand_ceilings fun rec u hu => hu.congr (h rec u)

theorem withAttached_view {act : List Byte → State → State}
    (h : ∀ rec (u : State), (act rec u).ceilingView = u.ceilingView) :
    KeepsCeilings s (withAttached n code s act) := withAttached_ceilings fun rec u hu => hu.congr (h rec u)

theorem withClaim_view {act : List Byte → State → State}
    (h : ∀ rec (u : State), (act rec u).ceilingView = u.ceilingView) :
    KeepsCeilings s (withClaim n code s act) := withClaim_ceilings fun rec u hu => hu.congr (h rec u)

theorem ceilingView_withOwned {i : StreamId} {act : Stream → State → State}
    (h : ∀ st, (act st s).ceilingView = s.ceilingView) : (s.withOwned n code i act).ceilingView = s.ceilingView := by
  unfold State.withOwned
  split
  · exact s.ceilingView_result ..
  · exact State.ceilingView_ite (h _) (s.ceilingView_result ..)

theorem windowAccess_ceilings {f : Node → Node} (s : State) :
    KeepsCeilings s (if (s.node n).linkUp then .next (s.modNode n f) else .next s) :=
  .stay_or_same (s.ceilingView_modNode ..)

/-! ## The rows of the streams and the nodes -/

theorem unknownCommand_ceilings (n : NodeId) (s : State) : KeepsCeilings s (execUnknownCommand n s) := by
  unfold execUnknownCommand
  split
  · exact .stay s
  · exact .stay_or_same (by simp)

theorem attach_ceilings (n : NodeId) (s : State) : KeepsCeilings s (execAttach n s) :=
  withCommand_view fun _ _ => State.ceilingView_ite (by simp) (by simp)

theorem heartbeat_ceilings (n : NodeId) (s : State) : KeepsCeilings s (execHeartbeat n s) := by
  refine withAttached_view fun rec u => ?_
  split
  · exact u.ceilingView_result ..
  · exact State.ceilingView_ite (by simp) (by simp)

theorem closeStream_ceilings (n : NodeId) (s : State) : KeepsCeilings s (execCloseStream n s) :=
  withAttached_view fun _ u => ceilingView_withOwned fun _ => State.ceilingView_ite (u.ceilingView_result ..) (by simp)

theorem adopt_ceilings (n : NodeId) (s : State) : KeepsCeilings s (execAdopt n s) := by
  refine withAttached_view fun rec u => ?_
  extract_lets i
  split
  · exact u.ceilingView_result ..
  · exact State.ceilingView_ite (by simp) (u.ceilingView_result ..)

theorem queryStream_ceilings (n : NodeId) (s : State) : KeepsCeilings s (execQueryStream n s) := by
  refine withAttached_view fun rec u => ?_
  split <;> exact u.ceilingView_result ..

theorem play_ceilings (n : NodeId) (s : State) : KeepsCeilings s (execPlay n s) :=
  withAttached_view fun _ u => ceilingView_withOwned fun _ => State.ceilingView_ite (u.ceilingView_stopStream ..)
    (State.ceilingView_ite (u.ceilingView_result ..) (State.ceilingView_ite (u.ceilingView_result ..) (by simp)))

theorem scrub_ceilings (n : NodeId) (s : State) : KeepsCeilings s (execScrub n s) :=
  withAttached_view fun _ u => ceilingView_withOwned fun _ => State.ceilingView_ite (by simp) (u.ceilingView_result ..)

theorem querySpan_ceilings (n : NodeId) (s : State) : KeepsCeilings s (execQuerySpan n s) := by
  refine withAttached_view fun rec u => ?_
  split <;> exact u.ceilingView_result ..

theorem linkReset_ceilings (n : NodeId) (s : State) : KeepsCeilings s (execLinkReset n s) := by
  refine withClaim_view fun rec u => ?_
  split
  · exact u.ceilingView_result ..
  · exact State.ceilingView_ite (u.ceilingView_result ..) (by simp)

theorem heartbeatTimerExpiry_ceilings (n : NodeId) (s : State) : KeepsCeilings s (execHeartbeatTimerExpiry n s) := by
  unfold execHeartbeatTimerExpiry
  split
  · exact .stay s
  · exact .stay_or_same (s.ceilingView_loseNode ..)

theorem pcieLinkDown_ceilings (n : NodeId) (s : State) : KeepsCeilings s (execPcieLinkDown n s) := by
  unfold execPcieLinkDown
  extract_lets u
  split
  · exact .same (u.ceilingView_loseNode ..)
  · exact .same (s.ceilingView_modNode ..)

theorem pcieLinkUp_ceilings (n : NodeId) (s : State) : KeepsCeilings s (execPcieLinkUp n s) := by
  unfold execPcieLinkUp
  split
  · exact .stay s
  · exact .same (s.ceilingView_modNode ..)

theorem orphanTimerExpiry_ceilings (h : Handle) (s : State) : KeepsCeilings s (execOrphanTimerExpiry h s) := by
  unfold execOrphanTimerExpiry
  split
  · exact .stay s
  · split
    · exact .stay s
    · exact .stay_or_same (s.ceilingView_orphanExpires ..)

theorem drainEnd_ceilings (h : Handle) (s : State) : KeepsCeilings s (execDrainEnd h s) := by
  unfold execDrainEnd
  split
  · exact .stay s
  · exact .stay_or_same (s.ceilingView_freeStream ..)

theorem clearNodeFlags_ceilings (n : NodeId) (s : State) : KeepsCeilings s (execClearNodeFlags n s) :=
  withAttached_view fun _ u => (State.ceilingView_result ..).trans (u.ceilingView_modNode ..)

theorem queryPart_ceilings (n : NodeId) (s : State) : KeepsCeilings s (execQueryPart n s) :=
  withCommand_view fun _ u => u.ceilingView_result ..

/-! ## The rows of the Configuration Block and the monitors -/

theorem configBegin_ceilings (n : NodeId) (s : State) : KeepsCeilings s (execConfigBegin n s) := by
  refine withAttached_view fun rec u => ?_
  split
  · rw [State.ceilingView_result]
    exact u.ceilingView_modConfig (f := fun c => { c with holder := some n, setsAccepted := 0 }) rfl rfl
  · exact State.ceilingView_ite (u.ceilingView_result ..) (u.ceilingView_result ..)

theorem configSet_ceilings (n : NodeId) (s : State) : KeepsCeilings s (execConfigSet n s) := by
  refine withClaim_ceilings fun rec u hu => ?_
  split
  · exact hu.congr (u.ceilingView_result ..)
  · exact hu.setPart ..
  · exact hu.setSpan ..

theorem configGet_ceilings (n : NodeId) (s : State) : KeepsCeilings s (execConfigGet n s) := by
  refine withAttached_view fun rec u => ?_
  extract_lets named
  split <;> exact u.ceilingView_result ..

theorem configEnd_ceilings (n : NodeId) (s : State) : KeepsCeilings s (execConfigEnd n s) := by
  refine withClaim_view fun _ u => ?_
  extract_lets sets before after
  rw [State.ceilingView_result]
  exact u.ceilingView_modConfig (f := fun c => { c with loaded := after, holder := none, setsAccepted := 0 }) rfl rfl

theorem clearTrip_ceilings (n : NodeId) (s : State) : KeepsCeilings s (execClearTrip n s) := by
  refine withClaim_view fun rec u => ?_
  split
  · exact u.ceilingView_result ..
  · refine State.ceilingView_ite (u.ceilingView_result ..) (State.ceilingView_ite (u.ceilingView_result ..) ?_)
    rw [State.ceilingView_healthNotice, State.ceilingView_result, State.ceilingView_handOn]
    exact u.ceilingView_modMonitor _ fun _ => rfl

theorem ackSpanStatus_ceilings (n : NodeId) (s : State) : KeepsCeilings s (execAckSpanStatus n s) := by
  refine withAttached_view fun rec u => ?_
  split
  · exact u.ceilingView_result ..
  · exact u.ceilingView_modMonitor _ fun _ => rfl

theorem latencyReport_ceilings (j : SpanId) (s : State) : KeepsCeilings s (execLatencyReport j s) := by
  refine withReport_same fun r u t e => ?_
  split at e
  · exact view_of_match (u.ceilingView_modMonitor (f := fun m => m.countLatency _) _ fun _ => rfl) e
  · cases e

theorem configuredCeilingChange_ceilings (j : SpanId) (s : State) : KeepsCeilings s (execConfiguredCeilingChange j s) :=
  fun t ht hs => by
    rcases withReport_cases ht with rfl | ⟨r, before, after, ho, ht⟩
    · exact hs
    · have howed := hs.taken ho
      rcases (toMonitor_iff r).1 ho.2.1 with ⟨c, f, rfl⟩ | ⟨scope, values, rfl⟩
      · cases ht
        exact howed.configureCeiling
      · cases ht

theorem monitorAbsent_ceilings (j : SpanId) (s : State) : KeepsCeilings s (execMonitorAbsent j s) :=
  withReport_ceilings fun r u t e hu => by
    have hforgotten := hu.monitorAbsent j (u.span j).monitor
    cases e
    exact hforgotten.congr (State.ceilingView_ite (State.ceilingView_restored ..) rfl)

theorem toBlock_eq {b : ParamBlock} (hb : ∀ j, b ≠ .monitor j) (r : Report) :
    toBlock b r = match r with
      | .param c _ _ => decide (c = b)
      | _ => false := by
  cases b with
  | monitor j => exact absurd rfl (hb j)
  | _ => rfl

/-- A report that a block other than a monitor takes is a parameter report to that block. -/
theorem param_of_toBlock {b : ParamBlock} (hb : ∀ j, b ≠ .monitor j) {r : Report} (hr : toBlock b r = true) :
    ∃ scope values, r = .param b scope values := by
  rw [toBlock_eq hb] at hr
  split at hr
  · obtain rfl := of_decide_eq_true hr
    exact ⟨_, _, rfl⟩
  · cases hr

theorem parameterReport_ceilings (b : ParamBlock) (s : State) : KeepsCeilings s (execParameterReport b s) := by
  intro t ht hs
  rcases withReport_cases ht with rfl | ⟨r, before, after, ho, ht⟩
  · exact hs
  by_cases hb : ∃ j, b = .monitor j
  · obtain ⟨j, rfl⟩ := hb
    rcases (toMonitor_iff r).1 ho.2.1 with ⟨c, f, rfl⟩ | ⟨scope, values, rfl⟩
    · cases ht
    · cases ht
      exact (hs.taken ho).foldl_monitorTakes
  · have hb : ∀ j, b ≠ .monitor j := fun j e => hb ⟨j, e⟩
    obtain ⟨hreports, hr, -⟩ := ho
    obtain ⟨scope, values, rfl⟩ := param_of_toBlock hb hr
    have haside (j : SpanId) : toMonitor j (.param b scope values) = false := by
      cases b with
      | monitor k => exact absurd rfl (hb k)
      | _ => rfl
    cases ht
    exact hs.congr ((State.ceilingView_takeParams _ hb scope values).trans (State.ceilingView_collect hreports haside))

end

end Sys2Proof.Machine
end

section
/-! PROOFS. The rows of the queues, the Span Service Units and the reports among blocks, and every step: parameters and
ceilings stay within their bounds (R129, R134, R135, R141 to R143, R185, R186). -/

namespace Sys2Proof.Machine

open Host (Outcome)

section

variable {s t u : State}

/-! ## The queues and the arbiters -/

theorem lateReportOf_aside {j : SpanId} (ps : List Nat) :
    ∀ r ∈ ps.filterMap (s.lateReportOf j), ∀ k, toMonitor k r = false := by
  intro r hr k
  obtain ⟨p, -, hp⟩ := List.mem_filterMap.1 hr
  unfold State.lateReportOf at hp
  split at hp
  · cases hp
  · obtain ⟨f, -, rfl⟩ := Option.map_eq_some_iff.1 hp
    rfl

theorem deadlineExpiry_ceilings (j : SpanId) (s : State) : KeepsCeilings s (execDeadlineExpiry j s) := by
  unfold execDeadlineExpiry
  split
  · exact .stay s
  · exact .stay_or_same ((State.ceilingView_rearmDeadline ..).trans (s.ceilingView_postAll (lateReportOf_aside _)))

theorem windowOpeningExpiry_ceilings (j : SpanId) (s : State) : KeepsCeilings s (execWindowOpeningExpiry j s) := by
  unfold execWindowOpeningExpiry
  split
  · exact .stay s
  · exact .stay_or_same ((State.ceilingView_post _ fun _ => rfl).trans (s.ceilingView_modQueue ..))

theorem settleTimerExpiry_ceilings (h : Handle) (s : State) : KeepsCeilings s (execSettleTimerExpiry h s) := by
  unfold execSettleTimerExpiry
  split
  · exact .stay s
  · split
    · exact .stay s
    · exact .stay_or_same ((foldl_keeps State.ceilingView _ (by simp) _ _).trans (s.ceilingView_modStream ..))

theorem dispatch_ceilings (j : SpanId) (s : State) : KeepsCeilings s (execDispatch j s) := by
  have ended : KeepsCeilings s (.next (s.endSelection j)) := .same (s.ceilingView_modArbiter ..)
  unfold execDispatch
  split
  · exact .stay s
  · split
    · split
      · exact ended
      · split
        · exact ended
        · rename_i ht
          exact .same (State.ceilingView_dispatchOne ht)
    · exact ended

/-! ## The Span Service Units -/

theorem extentDone_ceilings (j : SpanId) (slot gen result : Byte) (s : State) :
    KeepsCeilings s (execExtentDone j slot gen result s) := by
  have stale : KeepsCeilings s (.next (s.modService j SpanService.stale)) := .same (s.ceilingView_modService ..)
  unfold execExtentDone
  split
  · exact stale
  · extract_lets w
    split
    · split
      · exact .same ((State.ceilingView_postAll _ (by simp [toMonitor])).trans
          ((State.ceilingView_post _ fun _ => rfl).trans (s.ceilingView_modService ..)))
      · exact .same ((State.ceilingView_post _ fun _ => rfl).trans (s.ceilingView_modService ..))
      · exact stale
    · exact stale

theorem slotExpiry_ceilings (j : SpanId) (k : SlotId) (s : State) : KeepsCeilings s (execSlotExpiry j k s) := by
  unfold execSlotExpiry
  extract_lets w
  split
  · exact .stay_or_same ((State.ceilingView_postAll _ (by simp [toMonitor])).trans (s.ceilingView_modService ..))
  · exact .stay s

theorem ready_ceilings (j : SpanId) (attempt : Byte) (s : State) : KeepsCeilings s (execReady j attempt s) := by
  unfold execReady
  split
  · refine .stay_or_same ?_
    rw [State.ceilingView_spanNotice, State.ceilingView_post _ fun _ => rfl]
    simp
  · exact .stay s

theorem trainingAttemptExpiry_ceilings (j : SpanId) (s : State) : KeepsCeilings s (execTrainingAttemptExpiry j s) := by
  unfold execTrainingAttemptExpiry
  split
  · split
    · split
      · exact .same (s.ceilingView_modService ..)
      · exact .same (by simp)
    · exact .stay s
  · exact .stay s

theorem linkLossIndication_ceilings (j : SpanId) (s : State) : KeepsCeilings s (execLinkLossIndication j s) :=
  .stay_or_same ((State.ceilingView_leaveUp ..).trans (s.ceilingView_modService ..))

theorem relinkHoldExpiry_ceilings (j : SpanId) (s : State) : KeepsCeilings s (execRelinkHoldExpiry j s) := by
  unfold execRelinkHoldExpiry
  split
  · exact .stay s
  · exact .stay_or_same (s.ceilingView_holdExpires j)

theorem presenceDeasserted_ceilings (j : SpanId) (s : State) : KeepsCeilings s (execPresenceDeasserted j s) := by
  unfold execPresenceDeasserted
  extract_lets u
  have hu : u.ceilingView = s.ceilingView := s.ceilingView_modService ..
  split
  · exact .same hu
  · exact .same ((u.ceilingView_becomeAbsent j).trans hu)

theorem presenceAsserted_ceilings (j : SpanId) (s : State) : KeepsCeilings s (execPresenceAsserted j s) := by
  unfold execPresenceAsserted
  extract_lets u
  have hu : u.ceilingView = s.ceilingView := s.ceilingView_modService ..
  split
  · exact .same (by simpa using hu)
  · exact .same hu

/-! ## The reports among the blocks -/

theorem absentRelease_ceilings (j : SpanId) (s : State) : KeepsCeilings s (execAbsentRelease j s) := by
  refine withReport_same fun r u t e => ?_
  split at e
  · exact view_of_match (u.ceilingView_releaseAbsent ..) e
  · cases e

theorem linkStateReport_ceilings (j : SpanId) (s : State) : KeepsCeilings s (execLinkStateReport j s) := by
  refine withReport_same fun r u t e => ?_
  split at e
  · exact view_of_match ((State.ceilingView_updateDegraded ..).trans (u.ceilingView_modBudget ..)) e
  · cases e

theorem ceilingReport_ceilings (j : SpanId) (s : State) : KeepsCeilings s (execCeilingReport j s) := by
  refine withReport_same fun r u t e => ?_
  split at e
  · exact view_of_match ((State.ceilingView_recomputeOvercommit ..).trans (u.ceilingView_modBudget ..)) e
  · cases e

theorem cancelUndispatched_ceilings (h : Handle) (s : State) : KeepsCeilings s (execCancelUndispatched h s) := by
  refine withReport_same fun r u t e => ?_
  split at e
  · exact view_of_match (foldl_keeps State.ceilingView _ (by simp) _ u) e
  · cases e

theorem pieceOutcome_ceilings (p : Nat) (s : State) : KeepsCeilings s (execPieceOutcome p s) := by
  refine withReport_same fun r u t e => ?_
  split at e
  · exact view_of_match (u.ceilingView_takeOutcome ..) e
  · cases e

theorem lateReport_ceilings (j : SpanId) (s : State) : KeepsCeilings s (execLateReport j s) := by
  refine withReport_same fun r u t e => ?_
  split at e
  · exact view_of_match (u.ceilingView_takeLate _) e
  · cases e

theorem maskWrite_ceilings (j : SpanId) (s : State) : KeepsCeilings s (execMaskWrite j s) := by
  refine withReport_same fun r u t e => ?_
  split at e
  · exact view_of_match (State.ceilingView_ite rfl (by simp)) e
  · cases e

theorem selection_ceilings (j : SpanId) (s : State) : KeepsCeilings s (execSelection j s) :=
  withReport_some_ceilings fun _ u => u.ceilingView_beginSelection j

theorem queueSpanLoss_ceilings (j : SpanId) (s : State) : KeepsCeilings s (execQueueSpanLoss j s) :=
  withReport_some_ceilings fun _ u => u.ceilingView_loseQueue j

theorem tripClassEvent_ceilings (j : SpanId) (s : State) : KeepsCeilings s (execTripClassEvent j s) :=
  withReport_some_ceilings fun _ u =>
    u.ceilingView_modMonitor j fun _ => rfl

/-! ## All rows, and the step -/

/-- Each row: the ones that touch no parameter, no ceiling and no report to a monitor by that, the others by the bounds. -/
theorem exec_ceilings (c : Instr) (s : State) : KeepsCeilings s (exec c s) := by
  cases c with
  | powerOnReset => exact .next fun _ => State.ceilingsOk_powerOn ..
  | resetPin => exact .next fun hs => hs.warmReset _
  | commandWindowWrite n bytes => exact windowAccess_ceilings s
  | eventWindowRead n len => exact windowAccess_ceilings s
  | windowAccessIgnored n access => exact windowAccess_ceilings s
  | unknownCommand n => exact unknownCommand_ceilings n s
  | attach n => exact attach_ceilings n s
  | detach n => exact withAttached_view fun _ u => u.ceilingView_detach ..
  | heartbeat n => exact heartbeat_ceilings n s
  | clearNodeFlags n => exact clearNodeFlags_ceilings n s
  | queryPart n => exact queryPart_ceilings n s
  | openStream n => exact withAttached_view fun _ u => u.ceilingView_tryOpen ..
  | closeStream n => exact closeStream_ceilings n s
  | adopt n => exact adopt_ceilings n s
  | queryStream n => exact queryStream_ceilings n s
  | play n => exact play_ceilings n s
  | stop n => exact withAttached_view fun _ u => ceilingView_withOwned fun _ => u.ceilingView_stopStream ..
  | scrub n => exact scrub_ceilings n s
  | frameRead n => exact withCommand_view fun _ u => u.ceilingView_readFrame ..
  | querySpan n => exact querySpan_ceilings n s
  | clearTrip n => exact clearTrip_ceilings n s
  | ackSpanStatus n => exact ackSpanStatus_ceilings n s
  | linkReset n => exact linkReset_ceilings n s
  | configBegin n => exact configBegin_ceilings n s
  | configSet n => exact configSet_ceilings n s
  | configGet n => exact configGet_ceilings n s
  | configEnd n => exact configEnd_ceilings n s
  | partReset n => exact withClaim_ceilings fun _ _ hu => hu.warmReset _
  | pcieLinkDown n => exact pcieLinkDown_ceilings n s
  | pcieLinkUp n => exact pcieLinkUp_ceilings n s
  | heartbeatTimerExpiry n => exact heartbeatTimerExpiry_ceilings n s
  | orphanTimerExpiry h => exact orphanTimerExpiry_ceilings h s
  | cancelUndispatched h => exact cancelUndispatched_ceilings h s
  | drainEnd h => exact drainEnd_ceilings h s
  | absentRelease j => exact absentRelease_ceilings j s
  | linkStateReport j => exact linkStateReport_ceilings j s
  | ceilingReport j => exact ceilingReport_ceilings j s
  | pieceOutcome p => exact pieceOutcome_ceilings p s
  | deadlineExpiry j => exact deadlineExpiry_ceilings j s
  | lateReport j => exact lateReport_ceilings j s
  | windowOpeningExpiry j => exact windowOpeningExpiry_ceilings j s
  | selection j => exact selection_ceilings j s
  | dispatch j => exact dispatch_ceilings j s
  | maskWrite j => exact maskWrite_ceilings j s
  | settleTimerExpiry h => exact settleTimerExpiry_ceilings h s
  | extentDone j slot gen result => exact extentDone_ceilings j slot gen result s
  | slotExpiry j k => exact slotExpiry_ceilings j k s
  | ready j attempt => exact ready_ceilings j attempt s
  | trainingAttemptExpiry j => exact trainingAttemptExpiry_ceilings j s
  | linkLossIndication j => exact linkLossIndication_ceilings j s
  | relinkHoldExpiry j => exact relinkHoldExpiry_ceilings j s
  | queueSpanLoss j => exact queueSpanLoss_ceilings j s
  | presenceDeasserted j => exact presenceDeasserted_ceilings j s
  | presenceAsserted j => exact presenceAsserted_ceilings j s
  | spanMessageOther j bytes => exact .stay s
  | latencyReport j => exact latencyReport_ceilings j s
  | tripClassEvent j => exact tripClassEvent_ceilings j s
  | monitorWindowExpiry j => exact .stay_or fun hs => hs.judgeWindow j
  | monitorAbsent j => exact monitorAbsent_ceilings j s
  | parameterReport b => exact parameterReport_ceilings b s
  | configuredCeilingChange j => exact configuredCeilingChange_ceilings j s

end

/-- Settles O56: each row keeps parameters and ceilings within their bounds, and a microsecond passing touches neither. -/
theorem stepKeepsCeilingsAndParametersInBounds : Obligations.StepKeepsCeilingsAndParametersInBounds := by
  intro s t hs ht
  rcases step_cases ht with ⟨c, rest, ht⟩ | rfl
  · exact exec_ceilings c { s with pending := rest } t ht (hs.congr rfl)
  · exact hs.congr rfl

end Sys2Proof.Machine
end

section
/-! PROOFS. What a monitor counts in the present window (R131, R132). -/

namespace Sys2Proof.Machine

/-! ## Counting -/

/-- A count of a window, advanced where `c` holds; it holds at 65,535 (R131, R132). -/
def countedIf (c : Bool) (v : Nat) : Nat := if c = true ∧ v < 65535 then v + 1 else v

theorem advance_eq_countedIf (v : Nat) : advance Config.countTop v = countedIf true v :=
  if_congr (by simp [Config.countTop]) rfl rfl

theorem ite_advance_eq_countedIf (c : Prop) [Decidable c] (v : Nat) :
    (if c then advance Config.countTop v else v) = countedIf (decide c) v := by
  by_cases hc : c
  · simp only [hc, if_true, decide_true, advance_eq_countedIf]
  · simp [hc, countedIf]

/-- The peak latency of a window, raised where it is absent or smaller (R131). -/
def raisedPeak (l : Int) : Option Int → Int
  | none => l
  | some p => max p l

theorem peak_eq_raisedPeak (peak : Option Int) (l : Int) :
    (match peak with
      | none => some l
      | some p => some (if p < l then l else p)) = some (raisedPeak l peak) := by
  cases peak with
  | none => rfl
  | some p =>
    change some (if p < l then l else p) = some (max p l)
    split <;> congr 1 <;> omega

theorem Monitor.countLatency_eq (m : Monitor) (l : Int) : m.countLatency l = { m with
    counts := { completions := countedIf true m.counts.completions, peak := some (raisedPeak l m.counts.peak),
                top := countedIf (decide ((m.topLimit : Int) < l)) m.counts.top,
                trip := countedIf (decide ((m.tripLimit : Int) < l)) m.counts.trip } } := by
  refine congrArg (fun c => { m with counts := c }) ?_
  simp only [WindowRecord.mk.injEq]
  exact ⟨ite_advance_eq_countedIf .., ite_advance_eq_countedIf .., advance_eq_countedIf _, peak_eq_raisedPeak ..⟩

theorem Monitor.countTimeout_eq (m : Monitor) : m.countTimeout = { m with
    counts := { m.counts with top := countedIf true m.counts.top, trip := countedIf true m.counts.trip } } := by
  simp only [Monitor.countTimeout, advance_eq_countedIf]

/-- Settles O44: the report is the first on its channel, and each of its counts one `advance`. -/
theorem windowCountsLatenciesAndTimeouts : Obligations.WindowCountsLatenciesAndTimeouts := by
  intro s j before after u up
  refine ⟨fun l h => ?_, fun h => ?_⟩
  · change execLatencyReport j s = _
    refine withReport_next h (congrArg some (State.modMonitor_congr ?_))
    rw [Monitor.countLatency_eq, raisedPeak.eq_def]
    rfl
  · change execTripClassEvent j s = _
    exact withReport_next h (congrArg some (State.modMonitor_congr (Monitor.countTimeout_eq _)))

end Sys2Proof.Machine
end

section
/-! PROOFS. CLEAR_TRIP and ACK_SPAN_STATUS (R137 to R140). -/

namespace Sys2Proof.Machine

section

variable {n : NodeId} {s : State} {rec : List Byte} {rest : List (List Byte)} {j : SpanId}

/-! ## CLEAR_TRIP -/

theorem exec_clearTrip_none (h : s.claims n 18 rec rest) (hj : spanOf (recArg rec 0) = none) :
    exec (.clearTrip n) s = .next ((s.taken n rest).result n 18 .badArgs []) := by
  change execClearTrip n s = _
  rw [execClearTrip, withClaim_of_claims h, hj]

theorem exec_clearTrip_untripped (h : s.claims n 18 rec rest) (hj : spanOf (recArg rec 0) = some j)
    (ht : (s.span j).monitor.tripped = false) :
    exec (.clearTrip n) s = .next ((s.taken n rest).result n 18 .wrongState []) := by
  change execClearTrip n s = _
  rw [execClearTrip, withClaim_of_claims h, hj]
  exact congrArg Host.Outcome.next (if_pos ht)

theorem exec_clearTrip_active (h : s.claims n 18 rec rest) (hj : spanOf (recArg rec 0) = some j)
    (ht : (s.span j).monitor.tripped = true) (hp : 0 < (s.span j).monitor.previous.trip) :
    exec (.clearTrip n) s = .next ((s.taken n rest).result n 18 .active
      [fNat (s.span j).monitor.previous.trip, fTime (s.span j).monitor.expiry]) := by
  change execClearTrip n s = _
  rw [execClearTrip, withClaim_of_claims h, hj]
  exact congrArg Host.Outcome.next ((if_neg (ne_false_of_eq_true ht)).trans (if_pos hp))

/-- A monitor whose trip is cleared (R139). -/
def Monitor.untripped (m : Monitor) : Monitor := { m with tripped := false }

theorem Monitor.untripped_health_code (m : Monitor) :
    m.untripped.health.code = if m.effective < m.params.ceiling then 1 else 0 := Monitor.health_code _

/-- A cleared trip is reported to the Admission Unit and to the arbiter's mask (R137). -/
theorem State.handOn_untripped (ht : (s.span j).monitor.tripped = true) :
    (s.modMonitor j Monitor.untripped).handOn j (s.span j).monitor = (s.modMonitor j Monitor.untripped).postAll
      [.ceiling j (s.span j).monitor.effective false, .mask j false] := by
  rw [State.handOn_eq, State.modMonitor_monitor_self]
  simp [Monitor.handedOn, Monitor.untripped, ht]

theorem exec_clearTrip_cleared (h : s.claims n 18 rec rest) (hj : spanOf (recArg rec 0) = some j)
    (ht : (s.span j).monitor.tripped = true) (hp : (s.span j).monitor.previous.trip = 0) :
    let m := (s.span j).monitor
    let u := ((s.taken n rest).modMonitor j Monitor.untripped).postAll [.ceiling j m.effective false, .mask j false]
    exec (.clearTrip n) s = .next ((u.result n 18 .ok [fNat j.val, fNat m.untripped.health.code]).notifyAll
      (.spanNotice .tripCleared) [fNat j.val, fNat m.untripped.health.code, fNat n.val, fNat m.effective]) := by
  extract_lets m u
  have hu : ((s.taken n rest).modMonitor j Monitor.untripped).handOn j m = u :=
    State.handOn_untripped (s := s.taken n rest) ht
  have hm : (u.span j).monitor = m.untripped := State.modMonitor_monitor_self ..
  have hexec : exec (.clearTrip n) s = .next ((u.result n 18 .ok [fNat j.val, fNat (u.span j).monitor.health.code]).notifyAll
      (.spanNotice .tripCleared)
      [fNat j.val, fNat (u.span j).monitor.health.code, fNat n.val, fNat (u.span j).monitor.effective]) := by
    rw [← hu]
    change execClearTrip n s = _
    rw [execClearTrip, withClaim_of_claims h, hj]
    exact congrArg Host.Outcome.next ((if_neg (ne_false_of_eq_true ht)).trans (if_neg (hp ▸ Nat.lt_irrefl 0)))
  rw [hexec, hm]
  rfl

/-! ## ACK_SPAN_STATUS -/

theorem exec_ackSpanStatus_none (h : s.issues n 19 rec rest) (hj : spanOf (recArg rec 0) = none) :
    exec (.ackSpanStatus n) s = .next ((s.taken n rest).result n 19 .badArgs []) := by
  change execAckSpanStatus n s = _
  rw [execAckSpanStatus, withAttached_of_issues h, hj]

theorem exec_ackSpanStatus_some (h : s.issues n 19 rec rest) (hj : spanOf (recArg rec 0) = some j) :
    let m := (s.span j).monitor
    exec (.ackSpanStatus n) s = .next (((s.taken n rest).modMonitor j Monitor.ack).result n 19 .ok
      [fNat j.val, fBool m.topSeen, fBool m.tripSeen, fBool m.ack.topSeen, fBool m.ack.tripSeen,
       fNat m.counts.top, fNat m.counts.trip]) := by
  change execAckSpanStatus n s = _
  rw [execAckSpanStatus, withAttached_of_issues h, hj]
  rfl

/-- A sticky flag stays where its count of the present window is not 0 (R140). -/
theorem Monitor.ack_eq (m : Monitor) : m.ack = { m with
    topSeen := if m.counts.top = 0 then false else m.topSeen,
    tripSeen := if m.counts.trip = 0 then false else m.tripSeen } := by
  have hkept (flag : Bool) (count : Nat) : (flag && decide (count ≠ 0)) = if count = 0 then false else flag := by
    split <;> simp_all
  simp only [Monitor.ack, hkept]

end

/-- Settles O46: each command's checks in their order, and the monitor's change with its reports, answer and notice. -/
theorem tripClearedAndStatusAcknowledged : Obligations.TripClearedAndStatusAcknowledged := by
  intro n s rec rest t
  refine ⟨fun h => ⟨fun hbad => exec_clearTrip_none h (spanOf_of_le hbad), fun j hj => ?_⟩,
    fun h => ⟨fun hbad => exec_ackSpanStatus_none h (spanOf_of_le hbad), fun j hj => ?_⟩⟩
  · have hspan := spanOf_of_eq hj
    refine ⟨exec_clearTrip_untripped h hspan, exec_clearTrip_active h hspan, fun ht hp => ?_⟩
    rw [exec_clearTrip_cleared h hspan ht hp, Monitor.untripped_health_code]
    rfl
  · intro m top trip
    have hack : t.modMonitor j Monitor.ack = t.modMonitor j fun m => { m with topSeen := top, tripSeen := trip } :=
      State.modMonitor_congr (Monitor.ack_eq _)
    rw [exec_ackSpanStatus_some h (spanOf_of_eq hj), hack, Monitor.ack_eq]

end Sys2Proof.Machine
end

section
/-! PROOFS. A window's expiry: the judgement, its reports, and the notices it writes (R130, R133 to R138). -/

namespace Sys2Proof.Machine

section

variable (s : State) (j : SpanId)

/-! ## Notices of a monitor -/

/-- A monitor notice written where `c` holds, with the code of the health that it carries (R138). -/
def State.noteIf (c : Bool) (kind : SpanNotice) (health : Nat) (more : List Field) : State :=
  if c then s.notifyAll (.spanNotice kind) ([fNat j.val, fNat health] ++ more) else s

theorem State.noteIf_span (c : Bool) (kind : SpanNotice) (health : Nat) (more : List Field) (k : SpanId) :
    (s.noteIf j c kind health more).span k = s.span k := by
  unfold State.noteIf
  split <;> rfl

/-- The notice carries the health of the monitor as it then stands. -/
theorem State.healthNotice_eq_noteIf {s : State} {j : SpanId} {m : Monitor} (hm : (s.span j).monitor = m) {c : Prop}
    [Decidable c] {d : Bool} (hc : c ↔ d = true) (kind : SpanNotice) (more : List Field) :
    (if c then s.healthNotice j kind more else s) = s.noteIf j d kind m.health.code more := by
  subst hm
  exact if_congr hc rfl rfl

theorem State.restored_eq_noteIf {s : State} {j : SpanId} {m : Monitor} (hm : (s.span j).monitor = m) {c : Prop}
    [Decidable c] {d : Bool} (hc : c ↔ d = true) :
    (if c then s.restored j else s) = s.noteIf j d .restored m.health.code [fNat m.effective] := by
  subst hm
  exact if_congr hc rfl rfl

/-! ## The judgement -/

theorem Monitor.trips_iff (m : Monitor) : (m.judge.tripped ≠ m.tripped) ↔ m.trips = true := by
  rw [Monitor.judge_eq]
  cases h : m.tripped <;> simp [Monitor.trips, h]

/-- The monitor of a span whose window has been judged and the next one started (R133). -/
def Monitor.judgedAt (m : Monitor) (now : Time) : Monitor := m.judge.turn now

theorem Monitor.judgedAt_effective (m : Monitor) (now : Time) : (m.judgedAt now).effective = m.judgedCeiling :=
  congrArg Monitor.effective m.judge_eq

theorem Monitor.judgedAt_tripped (m : Monitor) (now : Time) : (m.judgedAt now).tripped = (m.tripped || m.trips) :=
  congrArg Monitor.tripped m.judge_eq

theorem Monitor.judgedAt_params (m : Monitor) (now : Time) : (m.judgedAt now).params = m.params := m.judge_params

theorem Monitor.judgedAt_health_code (m : Monitor) (now : Time) : (m.judgedAt now).health.code =
    if m.tripped || m.trips then 2 else if m.judgedCeiling < m.params.ceiling then 1 else 0 := by
  rw [Monitor.health_code, Monitor.judgedAt_tripped, Monitor.judgedAt_effective, Monitor.judgedAt_params]

/-- A changed ceiling or trip is reported to the Admission Unit, a trip to the arbiter's mask (R137). -/
theorem Monitor.judgedAt_handedOn (m : Monitor) (now : Time) : (m.judgedAt now).handedOn j m =
    (if m.judgedCeiling ≠ m.effective ∨ m.trips = true then [.ceiling j m.judgedCeiling (m.tripped || m.trips)] else []) ++
      (if m.trips then [.mask j true] else []) := by
  cases htrips : m.trips with
  | false => simp [Monitor.handedOn, Monitor.judgedAt_effective, Monitor.judgedAt_tripped, htrips]
  | true =>
    have hfresh : m.tripped = false := by simp_all [Monitor.trips]
    simp [Monitor.handedOn, Monitor.judgedAt_effective, Monitor.judgedAt_tripped, htrips, hfresh]

/-- The monitor judged and its window turned, with the reports of the change (R133, R137). -/
def State.windowJudged : State :=
  (s.modMonitor j fun m => m.judgedAt s.time).postAll (((s.span j).monitor.judgedAt s.time).handedOn j (s.span j).monitor)

theorem State.windowJudged_monitor : ((s.windowJudged j).span j).monitor = (s.span j).monitor.judgedAt s.time := by
  rw [State.windowJudged, State.span_postAll, State.modMonitor_monitor_self]

/-- The judgement of a window: the monitor, its reports, and then DERATED, RESTORED and TRIPPED (R133, R137, R138). -/
theorem State.judgeWindow_eq :
    let m := (s.span j).monitor
    let health := (m.judgedAt s.time).health.code
    s.judgeWindow j = State.noteIf
      (State.noteIf
        ((s.windowJudged j).noteIf j (decide (m.judgedCeiling < m.effective)) .derated health
          [fNat m.effective, fNat m.judgedCeiling, fNat m.params.floor, fNat m.counts.top, fNat m.counts.trip,
           fOpt fInt m.counts.peak, fBool (decide (m.judgedCeiling = m.params.floor))])
        j (decide (m.effective < m.judgedCeiling) && decide (m.judgedCeiling = m.params.ceiling)) .restored health
        [fNat m.judgedCeiling])
      j m.trips .tripped health [fNat m.counts.trip, fNat m.previous.trip, fNat m.judgedCeiling] := by
  intro m health
  unfold State.judgeWindow
  extract_lets judged turned handed derated restored
  have he : judged.effective = m.judgedCeiling := congrArg Monitor.effective m.judge_eq
  have hp : judged.params = m.params := m.judge_params
  have hhanded : handed = s.windowJudged j := by
    rw [State.windowJudged, ← State.modMonitor_monitor_self s j fun m => m.judgedAt s.time, ← State.handOn_eq]
    exact congrArg (State.handOn · j m) (State.modMonitor_congr rfl)
  have hm : (handed.span j).monitor = m.judgedAt s.time := hhanded ▸ s.windowJudged_monitor j
  have hderated : derated = handed.noteIf j (decide (m.judgedCeiling < m.effective)) .derated health _ :=
    State.healthNotice_eq_noteIf hm (by rw [he, decide_eq_true_iff]) ..
  have hm : (derated.span j).monitor = m.judgedAt s.time := by rw [hderated, State.noteIf_span, hm]
  have hrestored : restored = derated.noteIf j
      (decide (m.effective < m.judgedCeiling) && decide (m.judgedCeiling = m.params.ceiling)) .restored health
      [fNat m.judgedCeiling] := by
    have hc : m.effective < judged.effective ∧ judged.effective = judged.params.ceiling ↔
        (decide (m.effective < m.judgedCeiling) && decide (m.judgedCeiling = m.params.ceiling)) = true := by
      rw [he, hp, Bool.and_eq_true, decide_eq_true_iff, decide_eq_true_iff]
    exact (State.restored_eq_noteIf hm hc).trans (by rw [m.judgedAt_effective])
  have hm : (restored.span j).monitor = m.judgedAt s.time := by rw [hrestored, State.noteIf_span, hm]
  refine (State.healthNotice_eq_noteIf hm m.trips_iff ..).trans ?_
  rw [hrestored, hderated, hhanded, he, hp]

end

theorem exec_monitorWindowExpiry_reached {s : State} {j : SpanId} (h : 0 ≤ timeDiff s.time (s.span j).monitor.expiry) :
    exec (.monitorWindowExpiry j) s = .next (s.judgeWindow j) := by
  change execMonitorWindowExpiry j s = _
  exact if_pos (decide_eq_true h)

/-- Settles O45: the judgement's fields by `Monitor.judge_eq`, its reports by `State.windowJudged`, its notices in turn. -/
theorem windowExpiryJudgesDeratesRecoversAndTrips : Obligations.WindowExpiryJudgesDeratesRecoversAndTrips := by
  intro s j hexpired m p since clean breach derates raises e trips health note judged
  have hjudged : s.windowJudged j = judged := by
    rw [State.windowJudged, Monitor.judgedAt_handedOn]
    unfold judged
    rw [List.append_assoc]
    exact congrArg (State.postAll · _) (State.modMonitor_congr (congrArg (Monitor.turn · s.time) m.judge_eq))
  rw [exec_monitorWindowExpiry_reached hexpired, State.judgeWindow_eq, hjudged, Monitor.judgedAt_health_code]
  rfl

end Sys2Proof.Machine
end

section
/-! PROOFS. A configured ceiling, a derate floor and a span's absence at the monitor (R129, R137, R138, R141 to R143). -/

namespace Sys2Proof.Machine

/-! ## The monitor, field by field -/

section

variable (m : Monitor)

/-- The effective ceiling after a configured ceiling and the floor beside it (R141). -/
def Monitor.configuredTo (ceiling floor : Nat) : Nat :=
  max (if m.tripped = false ∧ ¬ m.effective < m.params.ceiling then ceiling else min m.effective ceiling) floor

theorem Monitor.configure_eq (c f : Nat) : m.configure c f = { m with
    params := { m.params with ceiling := c, floor := f }, effective := m.configuredTo c f,
    since := if m.configuredTo c f = m.effective then m.since else 0 } := by
  rw [Monitor.configure, Monitor.setCeiling_eq]
  simp only [Monitor.health_eq_normal_iff]
  rfl

theorem Monitor.setFloor_eq (f : Nat) : m.setFloor f = { m with
    params := { m.params with floor := f }, effective := max m.effective f,
    since := if max m.effective f = m.effective then m.since else 0 } := Monitor.setCeiling_eq ..

/-- An event that trips and clears nothing reports a changed ceiling only (R137). -/
theorem Monitor.handedOn_of_tripped_eq {m before : Monitor} (h : m.tripped = before.tripped) (j : SpanId) :
    m.handedOn j before = if m.effective = before.effective then [] else [.ceiling j m.effective before.tripped] := by
  simp [Monitor.handedOn, h]

theorem Monitor.forget_handedOn (now : Time) (j : SpanId) : (m.forget now).handedOn j m =
    (if m.effective = m.params.ceiling ∧ m.tripped = false then [] else [.ceiling j m.params.ceiling false]) ++
      (if m.tripped then [.mask j false] else []) := by
  cases ht : m.tripped <;> simp [Monitor.handedOn, Monitor.forget, Monitor.startWindow, ht, eq_comm]

end

/-! ## The state -/

section

variable (s : State) (j : SpanId)

/-- The monitor moved by `f`, the reports `rs` sent, and then those of the change (R137, R187). -/
def State.monitorMoved (f : Monitor → Monitor) (rs : List Report) : State :=
  (s.modMonitor j f).postAll (rs ++ (f (s.span j).monitor).handedOn j (s.span j).monitor)

theorem State.monitorMoved_monitor (f : Monitor → Monitor) (rs : List Report) :
    ((s.monitorMoved j f rs).span j).monitor = f (s.span j).monitor := by
  rw [State.monitorMoved, State.span_postAll, State.modMonitor_monitor_self]

theorem State.monitorMoved_eq_handOn (f : Monitor → Monitor) (rs : List Report) :
    ((s.modMonitor j f).postAll rs).handOn j (s.span j).monitor = s.monitorMoved j f rs := by
  rw [State.handOn_eq, State.postAll_postAll, State.span_postAll, State.modMonitor_monitor_self, State.monitorMoved]

theorem State.handOn_eq_monitorMoved (f : Monitor → Monitor) :
    (s.modMonitor j f).handOn j (s.span j).monitor = s.monitorMoved j f [] := by
  rw [State.handOn_eq, State.modMonitor_monitor_self, State.monitorMoved, List.nil_append]

/-- The monitor moved by `f`, and RESTORED where a ceiling that stood below the configured one now equals it (R138). -/
def State.monitorTaken (f : Monitor → Monitor) (rs : List Report) : State :=
  (s.monitorMoved j f rs).noteIf j ((s.span j).monitor.reaches (f (s.span j).monitor)) .restored
    (f (s.span j).monitor).health.code [fNat (f (s.span j).monitor).effective]

theorem State.restored_monitorMoved {f : Monitor → Monitor} {rs : List Report} {t : State}
    (ht : t = s.monitorMoved j f rs) :
    (if (s.span j).monitor.reaches (t.span j).monitor then t.restored j else t) = s.monitorTaken j f rs := by
  have hm : (t.span j).monitor = f (s.span j).monitor := ht ▸ s.monitorMoved_monitor j f rs
  rw [State.restored_eq_noteIf hm Iff.rfl, hm, ht, State.monitorTaken]

theorem State.configureCeiling_eq (c f : Nat) : s.configureCeiling j c f =
    s.monitorTaken j (fun m => m.configure c f) [.param .admission (some j) [(5, c)]] :=
  s.restored_monitorMoved j (s.monitorMoved_eq_handOn ..)

theorem State.configureFloor_eq (f : Nat) : s.configureFloor j f = s.monitorTaken j (fun m => m.setFloor f) [] :=
  s.restored_monitorMoved j (s.handOn_eq_monitorMoved ..)

variable {s j} in
/-- A change that trips and clears nothing: the monitor, its reports, and the notice, spelled out. -/
theorem State.monitorTaken_eq {f : Monitor → Monitor} {after : Monitor} (hf : f (s.span j).monitor = after)
    (ht : after.tripped = (s.span j).monitor.tripped) (rs : List Report) :
    let m := (s.span j).monitor
    s.monitorTaken j f rs = State.noteIf
      { s.modMonitor j (fun _ => after) with reports := s.reports ++ rs ++
          if after.effective = m.effective then [] else [.ceiling j after.effective m.tripped] }
      j (decide (m.effective < m.params.ceiling) && decide (after.effective = after.params.ceiling)) .restored
      (if m.tripped then 2 else if after.effective < after.params.ceiling then 1 else 0) [fNat after.effective] := by
  subst hf
  intro m
  rw [State.monitorTaken, State.monitorMoved, Monitor.handedOn_of_tripped_eq ht, Monitor.health_code, ht, List.append_assoc]
  rfl

end

/-! ## The rows -/

section

variable {s : State} {j : SpanId} {before after : List Report}

theorem exec_configuredCeilingChange {c f : Nat} (h : s.offers (toMonitor j) (.configuredCeiling j c f) before after) :
    exec (.configuredCeilingChange j) s =
      .next (({ s with reports := before ++ after } : State).configureCeiling j c f) := by
  change execConfiguredCeilingChange j s = _
  exact withReport_next h rfl

theorem exec_parameterReport_floor {f : Nat}
    (h : s.offers (toMonitor j) (.param (.monitor j) (some j) [(6, f)]) before after) :
    exec (.parameterReport (.monitor j)) s = .next (({ s with reports := before ++ after } : State).configureFloor j f) :=
  exec_parameterReport h

theorem exec_monitorAbsent
    (h : s.offers (fun | .monitorAbsent k => decide (k = j) | _ => false) (.monitorAbsent j) before after) :
    let m := (s.span j).monitor
    let u : State := { s with reports := before ++ after }
    exec (.monitorAbsent j) s = .next ((u.monitorMoved j (fun m => m.forget s.time) []).noteIf j
      (decide (m.effective < m.params.ceiling)) .restored (m.forget s.time).health.code [fNat m.params.ceiling]) := by
  intro m u
  have hm : ((u.monitorMoved j (fun m => m.forget s.time) []).span j).monitor = m.forget s.time :=
    u.monitorMoved_monitor ..
  refine Eq.trans ?_ (congrArg Host.Outcome.next (State.restored_eq_noteIf hm decide_eq_true_iff.symm))
  rw [← State.handOn_eq_monitorMoved]
  change execMonitorAbsent j s = _
  exact withReport_next h rfl

end

/-- Settles O47: ceiling and floor are `State.monitorTaken`, the absence `State.monitorMoved` with the reset values. -/
theorem monitorTakesCeilingFloorAndAbsence : Obligations.MonitorTakesCeilingFloorAndAbsence := by
  intro s j before after m note
  refine ⟨fun c f h => ?_, fun f h => ?_, fun h => ?_⟩
  · rw [exec_configuredCeilingChange h, State.configureCeiling_eq,
      State.monitorTaken_eq (s := { s with reports := before ++ after }) (f := (·.configure c f)) (m.configure_eq c f) rfl]
    rfl
  · rw [exec_parameterReport_floor h, State.configureFloor_eq,
      State.monitorTaken_eq (s := { s with reports := before ++ after }) (f := (·.setFloor f)) (m.setFloor_eq f) rfl,
      List.append_nil]
    rfl
  · rw [exec_monitorAbsent h, State.monitorMoved, Monitor.forget_handedOn, Monitor.health_code, List.nil_append,
      List.append_assoc (before ++ after)]
    rfl

end Sys2Proof.Machine
end

section
/-! PROOFS. The windows of a node port and the return of its PCIe link (R154, R165, R166, R175). -/

namespace Sys2Proof.Machine

section

variable {nd : Node} {s : State} {n : NodeId}

/-! ## The command window -/

theorem Node.entryRefused_iff (nd : Node) :
    nd.entryRefused = true ↔ 16 ≤ nd.commands.length ∨ 64 ≤ nd.events.length + nd.reserved := by
  rw [Node.entryRefused, Bool.or_eq_true, decide_eq_true_iff, decide_eq_true_iff]
  exact Iff.rfl

theorem Node.commandWrite_of_room {bytes : List Byte} (hb : bytes.length = 256) (hc : nd.commands.length < 16)
    (he : nd.events.length + nd.reserved < 64) :
    nd.commandWrite bytes = { nd with commands := nd.commands ++ [bytes], reserved := nd.reserved + 1 } := by
  refine if_neg fun h => ?_
  rcases h with h | h
  · exact h hb
  · rcases nd.entryRefused_iff.1 h with h | h <;> omega

theorem Node.commandWrite_of_refused {bytes : List Byte}
    (h : bytes.length ≠ 256 ∨ 16 ≤ nd.commands.length ∨ 64 ≤ nd.events.length + nd.reserved) :
    nd.commandWrite bytes = { nd with overrun := true } := if_pos (h.imp id nd.entryRefused_iff.2)

/-! ## The rows -/

theorem exec_commandWindowWrite_up (h : (s.node n).linkUp = true) (bytes : List Byte) :
    exec (.commandWindowWrite n bytes) s = .next (s.modNode n fun nd => nd.commandWrite bytes) := if_pos h

theorem exec_windowAccessIgnored_up (h : (s.node n).linkUp = true) (access : WindowAccess) :
    exec (.windowAccessIgnored n access) s =
      .next (s.modNode n fun nd => { nd with readData := accessBytes s.time access }) := if_pos h

end

/-- Settles O8: a write by whether it finds room, the other accesses by kind, and the link's return. -/
theorem writesOtherAccessesAndLinkUpAtAPort : Obligations.WritesOtherAccessesAndLinkUpAtAPort := by
  refine ⟨fun n bytes s => ⟨fun hup hb hc he => ?_, fun hup h => ?_, fun hdown => ?_⟩,
    fun n s len bytes => ⟨fun hup => ?_, fun hdown access => ?_⟩, fun n s => ⟨fun hup => if_pos hup, fun hdown => ?_⟩⟩
  · rw [exec_commandWindowWrite_up hup]
    exact congrArg _ (State.modNode_congr (Node.commandWrite_of_room hb hc he))
  · rw [exec_commandWindowWrite_up hup]
    exact congrArg _ (State.modNode_congr (Node.commandWrite_of_refused h))
  · exact if_neg (by simp [hdown])
  · simp only [exec_windowAccessIgnored_up hup]
    exact ⟨rfl, rfl, rfl, rfl⟩
  · exact if_neg (by simp [hdown])
  · exact if_neg (by simp [hdown])

end Sys2Proof.Machine
end

section
/-! PROOFS. Records written at a port, the vectors that they fire, and the vectors armed again (R162, R168, R170, R174,
R175). -/

namespace Sys2Proof.Machine

section

variable {nd : Node} {v : Nat} {w : VectorState}

/-! ## Vectors -/

theorem Node.fire_of_none (h : nd.vectors[v]? = none) : nd.fire v = nd := by
  simp only [Node.fire, h]

theorem Node.fire_of_fired (h : nd.vectors[v]? = some w) (hf : w.fired = true) : nd.fire v = nd := by
  simp only [Node.fire, h, hf, if_true]

theorem Node.fire_of_armed (h : nd.vectors[v]? = some w) (hf : w.fired = false) : nd.fire v =
    { nd with
      vectors := nd.vectors.set v { fired := true, held := !nd.linkUp },
      messages := nd.messages ++ (if nd.linkUp then [v] else []) } := by
  cases hl : nd.linkUp <;> simp [Node.fire, h, hf, hl]

/-- Firing a vector changes nothing of a port but its vectors and its messages (R174). -/
theorem Node.fire_frame (nd : Node) (v : Nat) :
    { nd.fire v with vectors := nd.vectors, messages := nd.messages } = nd := by
  cases h : nd.vectors[v]? with
  | none => rw [Node.fire_of_none h]
  | some w =>
    cases hf : w.fired with
    | true => rw [Node.fire_of_fired h hf]
    | false => rw [Node.fire_of_armed h hf]

theorem rearmVectors_getElem? {vs : List VectorState} (h : vs[v]? = some w) (events : List EventRec) :
    (rearmVectors vs events)[v]? = some (if ∃ e ∈ events, vectorFor vs.length e.tag = v then w
      else { fired := false, held := false }) := by
  simp [rearmVectors, List.getElem?_mapIdx, h]

/-! ## Records -/

/-- A record at the tail of a port's event FIFO, its vector not yet fired (R168, R170). -/
def Node.filed (nd : Node) (e : EventRec) : Node := { nd with events := nd.events ++ [e] }

theorem Node.write_eq (nd : Node) (now : Time) (tag : EventTag) (command : Nat) (body : List Field) :
    nd.write now tag command body =
      (nd.filed { tag := tag, command := command, epoch := nd.epoch, time := now, body := body }).fire
        (vectorFor nd.vectors.length tag) := rfl

theorem Node.notice_of_not_attached (h : nd.state ≠ .attached) (now : Time) (tag : EventTag) (body : List Field) :
    nd.notice now tag body = nd := if_neg h

theorem Node.notice_of_room (ha : nd.state = .attached) (h : nd.events.length + nd.reserved < 64) (now : Time)
    (tag : EventTag) (body : List Field) : nd.notice now tag body = nd.write now tag 0 body := by
  rw [Node.notice, if_pos ha]
  exact if_pos h

theorem Node.notice_of_full (ha : nd.state = .attached) (h : 64 ≤ nd.events.length + nd.reserved) (now : Time)
    (tag : EventTag) (body : List Field) : nd.notice now tag body =
      { nd with
        noticeLost := true, lossPending := some (nd.lossPending.getD now),
        lostCount := if nd.lostCount < 65535 then nd.lostCount + 1 else nd.lostCount } := by
  rw [Node.notice, if_pos ha]
  exact if_neg (Nat.not_lt.2 h)

end

/-! ## The state -/

/-- A walk that changes node ports changes nothing else. -/
theorem State.foldl_modNode_frame (g : State → Node → Node) (ns : List NodeId) (s : State) :
    { ns.foldl (fun u n => u.modNode n (g u)) s with nodes := s.nodes } = s :=
  foldl_inv (fun u : State => { u with nodes := s.nodes } = s) (fun u n => u.modNode n (g u)) (fun _ _ h => h) ns s rfl

/-- Settles O4: an answer and a notice by the places free, a record's vector by its state, the classes one by one, the
vectors armed again, and the ports that each notice and answer reaches. -/
theorem recordsAreWrittenFireVectorsAndReArm : Obligations.RecordsAreWrittenFireVectorsAndReArm := by
  refine ⟨fun nd now tag command body => ⟨rfl, fun h => ?_, fun ha h => ?_, fun ha h => ?_⟩,
    fun nd now tag command body => ?_, fun r f k p c => ?_, fun vs events v w h => rearmVectors_getElem? h events,
    fun s n m tag body code st fs => ⟨⟨?_, rfl⟩, ⟨?_, ?_⟩, ⟨?_, rfl⟩, ⟨?_, rfl⟩⟩⟩
  · exact Node.notice_of_not_attached h ..
  · exact Node.notice_of_room ha h ..
  · exact Node.notice_of_full ha h ..
  · extract_lets t v
    rw [show t = _ from nd.write_eq ..]
    refine ⟨Node.fire_frame .., fun w h => ⟨fun hf => ?_, fun hf => ?_⟩, fun h => ?_⟩
    · rw [Node.fire_of_fired (nd := nd.filed _) h hf]
      exact ⟨rfl, rfl⟩
    · rw [Node.fire_of_armed (nd := nd.filed _) h hf]
      exact ⟨rfl, rfl⟩
    · rw [Node.fire_of_none (nd := nd.filed _) h]
      exact ⟨rfl, rfl⟩
  · exact ⟨rfl, by cases c <;> rfl, by cases c <;> rfl, fun _ => rfl⟩
  · exact State.node_notifyAll ..
  · exact State.node_notifyOthers ..
  · exact State.foldl_modNode_frame ..
  · exact State.node_result ..
  · exact State.node_frameDone ..

end Sys2Proof.Machine
end

section
/-! PROOFS. ATTACH (R149, R150, R162). -/

namespace Sys2Proof.Machine

section

variable {n : NodeId} {s : State} {rec : List Byte} {rest : List (List Byte)}

theorem exec_attach_of_attached (h : s.heads n 1 rec rest) (ha : (s.node n).state = .attached) :
    exec (.attach n) s = .next ((s.taken n rest).result n 1 .wrongState []) := by
  change execAttach n s = _
  rw [execAttach, withCommand_of_heads h]
  simp [ha]

theorem exec_attach_of_not_attached (h : s.heads n 1 rec rest) (ha : (s.node n).state ≠ .attached) :
    exec (.attach n) s = .next (((s.modNode n fun nd =>
      { nd with commands := rest }.attached s.time (recArg rec 0)).notifyOthers n (.nodeNotice .peerAttached)
      [fNat n.val, fNat ((s.node n).epoch + 1).toNat]).result n 1 .ok
        ([fNat (s.node n).state.code] ++ (s.node n).flagFields ++
          [fNat ((s.node n).epoch + 1).toNat, fNat (vectorCount (recArg rec 0)), fNat (s.node n).heartbeatPeriod,
            fNat (s.node n).heartbeatWindow, fTime s.time])) := by
  change execAttach n s = _
  rw [execAttach, withCommand_of_heads h]
  simp [ha, State.taken, State.modNode_modNode, Node.attached, Node.clearFlags, Node.flagFields]

end

/-- Settles O12: the command is taken, and what it does turns on whether the node is ATTACHED. -/
theorem attachFromDetachedOrLost : Obligations.AttachFromDetachedOrLost := by
  intro n s rec rest h
  exact ⟨exec_attach_of_attached h, exec_attach_of_not_attached h⟩

end Sys2Proof.Machine
end

section
/-! PROOFS. A node's leaving ATTACHED: its streams, its claim, the notices and the cancellations owed (R155, R157, R158,
R162, R181). -/

namespace Sys2Proof.Machine

section

variable (s : State) (n : NodeId)

/-! ## The streams and the claim -/

theorem StreamState.served_iff (k : StreamState) : k.served = true ↔ k = .stopped ∨ k = .playing ∨ k = .scrubbing := by
  cases k <;> simp [StreamState.served]

theorem StreamState.served_eq (k : StreamState) :
    k.served = (decide (k = .stopped) || decide (k = .playing) || decide (k = .scrubbing)) := by
  cases k <;> rfl

theorem State.servedBy_eq : s.servedBy n = (s.streams.filter fun kv => decide (kv.2.owner = some n) &&
    (decide (kv.2.state = .stopped) || decide (kv.2.state = .playing) || decide (kv.2.state = .scrubbing))).map
      fun kv => BitVec.ofNat 8 kv.1 := by
  simp only [State.servedBy, Pool.numbersOf, List.map_map, StreamState.served_eq]
  rfl

theorem State.releaseClaim_eq : s.releaseClaim n = { s with
    config := if decide (s.config.holder = some n) = true then { s.config with holder := none, setsAccepted := 0 }
      else s.config } := by
  unfold State.releaseClaim
  by_cases h : s.config.holder = some n
  · simp only [h, decide_true, if_true]
    rfl
  · simp only [h, decide_false, if_false, Bool.false_eq_true]

/-- What a node's leaving does before anything is told: to its port, to its streams by whether it serves them, and to its
claim (R155, R157). -/
theorem State.left_eq (f : Node → Node) (g : Stream → Stream) :
    ((s.modNode n f).leaveStreams n g).releaseClaim n = { s with
      nodes := s.nodes.set n (f (s.node n)),
      streams := s.streams.map fun kv => (kv.1,
        if kv.2.owner = some n then
          if kv.2.state = .stopped ∨ kv.2.state = .playing ∨ kv.2.state = .scrubbing then g kv.2
          else { kv.2 with owner := none }
        else kv.2),
      config := if decide (s.config.holder = some n) = true then { s.config with holder := none, setsAccepted := 0 }
        else s.config } := by
  rw [State.releaseClaim_eq]
  simp only [State.leaveStreams, Pool.each, StreamState.served_iff]
  rfl

/-! ## What is owed -/

/-- What the cancellations owed at a node's leaving are made from, and the grace that may expire at once. -/
def State.debts : List Gen × List Report × Epoch × Nat := (s.gens, s.reports, (s.node n).epoch, s.orphanGrace)

theorem State.debts_left {f : Node → Node} (hf : (f (s.node n)).epoch = (s.node n).epoch) (g : Stream → Stream) :
    (((s.modNode n f).leaveStreams n g).releaseClaim n).debts n = s.debts n := by
  have hnode : (((s.modNode n f).leaveStreams n g).releaseClaim n).node n = f (s.node n) := by
    rw [State.left_eq]
    exact Vector.getElem_set_self _
  rw [State.debts, hnode, hf, State.left_eq]
  rfl

@[simp] theorem State.debts_notifyAll (tag : EventTag) (body : List Field) :
    (s.notifyAll tag body).debts n = s.debts n := by simp [State.debts]

@[simp] theorem State.debts_result (m : NodeId) (c : Nat) (st : ResultStatus) (body : List Field) :
    (s.result m c st body).debts n = s.debts n := by simp [State.debts]

@[simp] theorem State.debts_noticeClaim (m : NodeId) (released : Bool) :
    (s.noticeClaim m released).debts n = s.debts n := by
  cases released
  · rfl
  · exact s.debts_notifyAll ..

@[simp] theorem State.debts_noticeOrphaned (former : NodeId) (h : Handle) :
    (State.noticeOrphaned former s h).debts n = s.debts n := by
  unfold State.noticeOrphaned
  split
  · rfl
  · exact s.debts_notifyAll ..

@[simp] theorem State.debts_noticesOrphaned (former : NodeId) (hs : List Handle) :
    (hs.foldl (State.noticeOrphaned former) s).debts n = s.debts n :=
  foldl_keeps (fun u => u.debts n) _ (by simp) hs s

variable {s n}

theorem State.epoch_of_debts {u : State} (h : u.debts n = s.debts n) : (u.node n).epoch = (s.node n).epoch :=
  congrArg (fun d => d.2.2.1) h

theorem State.reports_of_debts {u : State} (h : u.debts n = s.debts n) : u.reports = s.reports :=
  congrArg (fun d => d.2.1) h

/-- The cancellations owed, by the state before the notices (R148, R158). -/
theorem State.oweCancels_eq {u : State} (h : u.debts n = s.debts n) (hs : List Handle) :
    u.oweCancels n hs = { u with
      reports := u.reports ++ hs.map fun h => .cancel { handle := h, gen := s.gen h } n (s.node n).epoch } := by
  have hgens : u.gens = s.gens := congrArg Prod.fst h
  simp only [State.oweCancels, State.postAll, State.idOf, State.gen, hgens, State.epoch_of_debts h]

theorem State.zeroGrace_oweCancels {u : State} (h : u.debts n = s.debts n) (hs : List Handle) :
    (u.oweCancels n hs).zeroGrace hs =
      if s.orphanGrace = 0 then hs.foldl State.orphanExpires (u.oweCancels n hs) else u.oweCancels n hs := by
  have hgrace : u.orphanGrace = s.orphanGrace := congrArg (fun d => d.2.2.2) h
  rw [← hgrace]
  rfl

end

/-! ## Loss -/

theorem exec_heartbeatTimerExpiry_reached {n : NodeId} {s : State} {hb : Heartbeat} (ha : (s.node n).state = .attached)
    (h : (s.node n).heartbeat = some hb) (hr : 0 ≤ timeDiff s.time hb.expiry) :
    exec (.heartbeatTimerExpiry n) s = .next (s.loseNode n .heartbeat) := by
  change execHeartbeatTimerExpiry n s = _
  simp only [execHeartbeatTimerExpiry, h]
  exact if_pos ⟨ha, decide_eq_true hr⟩

theorem exec_pcieLinkDown_attached {n : NodeId} {s : State} (ha : (s.node n).state = .attached) :
    exec (.pcieLinkDown n) s = .next ((s.modNode n fun nd => { nd with linkUp := false }).loseNode n .linkDown) :=
  if_pos (by simpa using ha)

theorem exec_pcieLinkDown_not_attached {n : NodeId} {s : State} (ha : (s.node n).state ≠ .attached) :
    exec (.pcieLinkDown n) s = .next (s.modNode n fun nd => { nd with linkUp := false }) :=
  if_neg (by simpa using ha)

/-- A node's loss: what it leaves, what is told, and what is owed (R155). -/
theorem State.loseNode_eq (s : State) (n : NodeId) (cause : LossCause) :
    let hs := s.servedBy n
    let left := ((s.modNode n Node.lose).leaveStreams n fun st => st.orphan s.time s.orphanGrace).releaseClaim n
    let told := hs.foldl (State.noticeOrphaned n) ((left.notifyAll (.nodeNotice .peerLost)
      [fNat n.val, fNat (s.node n).epoch.toNat, fNat cause.code, fNat hs.length]).noticeClaim n
        (decide (s.config.holder = some n)))
    let done : State := { told with
      reports := s.reports ++ hs.map fun h => .cancel { handle := h, gen := s.gen h } n (s.node n).epoch }
    s.loseNode n cause = if s.orphanGrace = 0 then hs.foldl State.orphanExpires done else done := by
  extract_lets hs left told done
  have hleft : left.debts n = s.debts n := s.debts_left n (f := Node.lose) rfl _
  have htold : told.debts n = s.debts n := by simpa [told] using hleft
  have hlose : s.loseNode n cause = (told.oweCancels n hs).zeroGrace hs := by
    unfold told
    rw [← State.epoch_of_debts hleft]
    rfl
  rw [hlose, State.zeroGrace_oweCancels htold, State.oweCancels_eq htold, State.reports_of_debts htold]

/-! ## DETACH -/

/-- A DETACH: what the node leaves, what is told and answered, and what is owed (R157). -/
theorem State.detach_eq (s : State) (n : NodeId) (handover : Bool) :
    let hs := s.servedBy n
    let held := decide (s.config.holder = some n)
    let orphaned := if handover then hs.length else 0
    let closed := if handover then 0 else hs.length
    let left := ((s.modNode n fun nd => nd.detached (s.unanswered n)).leaveStreams n fun st =>
      if handover then st.orphan s.time s.orphanGrace else { st.still .closing with owner := none }).releaseClaim n
    let told := (left.notifyAll (.nodeNotice .peerDetached)
      [fNat n.val, fBool handover, fNat orphaned, fNat closed]).noticeClaim n held
    let told := (if handover then hs.foldl (State.noticeOrphaned n) told else told).result n 2 .ok
      [fBool handover, fNat orphaned, fNat closed, fBool held]
    let done : State := { told with
      reports := told.reports ++ hs.map fun h => .cancel { handle := h, gen := s.gen h } n (s.node n).epoch }
    s.detach n handover = if handover = true ∧ s.orphanGrace = 0 then hs.foldl State.orphanExpires done else done := by
  extract_lets hs held orphaned closed left claimed told done
  have hleft : left.debts n = s.debts n := s.debts_left n (f := fun nd => nd.detached (s.unanswered n)) rfl _
  have htold : told.debts n = s.debts n := by
    cases handover <;> simpa [told, claimed] using hleft
  have hdetach : s.detach n handover =
      if handover then (told.oweCancels n hs).zeroGrace hs else told.oweCancels n hs := rfl
  rw [hdetach, State.zeroGrace_oweCancels htold, State.oweCancels_eq htold]
  cases handover
  · simp [done]
  · simp [done]

theorem exec_detach_of_issues {n : NodeId} {s : State} {rec : List Byte} {rest : List (List Byte)}
    (h : s.issues n 2 rec rest) : exec (.detach n) s = .next ((s.taken n rest).detach n (recHandover rec)) := by
  change execDetach n s = _
  rw [execDetach, withAttached_of_issues h]

/-- Settles O14: the equation of DETACH at the state without the command, its parts spelled out. -/
theorem detachHandsOverOrCloses : Obligations.DetachHandsOverOrCloses := by
  intro n s rec rest h hs handover held orphaned closed left told₁ told₂ told₃ told₄ done
  rw [exec_detach_of_issues h, State.detach_eq, State.left_eq, State.servedBy_eq]
  simp only [State.taken, State.unanswered, State.modNode, State.node, Vector.set_set, Fin.getElem_fin,
    Vector.getElem_set_self]
  rfl

/-- Settles O15: the equation of a loss, reached by the timer's expiry and by the link's fall, and the two plain rows. -/
theorem nodeLossOrphansItsStreams : Obligations.NodeLossOrphansItsStreams := by
  refine ⟨fun n s cause => ?_, fun n s ha => exec_pcieLinkDown_not_attached ha, fun n s h st hst => ?_⟩
  · extract_lets hs held left told₁ told₂ done lost
    refine fun ha => ⟨fun hc hb hhb hr => ?_, fun hc => ?_⟩
    · subst hc
      rw [exec_heartbeatTimerExpiry_reached ha hhb hr, State.loseNode_eq, State.left_eq, State.servedBy_eq]
      rfl
    · subst hc
      rw [exec_pcieLinkDown_attached ha, State.loseNode_eq, State.left_eq, State.servedBy_eq]
      simp only [State.modNode, State.node, Vector.set_set, Fin.getElem_fin, Vector.getElem_set_self]
      rfl
  · simp only [State.noticeOrphaned, hst]
    rfl

end Sys2Proof.Machine
end

section
/-! PROOFS. EARLY_BEAT through the operations of the blocks: no record written, and nothing that the blocks do among
themselves, touches it (R147, R151, R173). -/

namespace Sys2Proof.Machine

section

variable (s : State) (m : NodeId)

theorem State.earlyBeat_ite {c : Prop} [Decidable c] (t u : State) :
    ((if c then t else u).node m).earlyBeat = if c then (t.node m).earlyBeat else (u.node m).earlyBeat := by
  split <;> rfl

theorem State.earlyBeat_modNode {f : Node → Node} (n : NodeId) (h : ∀ nd, (f nd).earlyBeat = nd.earlyBeat) :
    ((s.modNode n f).node m).earlyBeat = (s.node m).earlyBeat := by
  rw [State.node_modNode]
  split
  · rename_i hm
    rw [h, hm]
  · rfl

/-! ## Records written -/

@[simp] theorem State.result_node_earlyBeat (n : NodeId) (c : Nat) (st : ResultStatus) (b : List Field) :
    ((s.result n c st b).node m).earlyBeat = (s.node m).earlyBeat := s.earlyBeat_modNode m n (by simp)

@[simp] theorem State.frameDone_node_earlyBeat (n : NodeId) (st : FrameStatus) (b : List Field) :
    ((s.frameDone n st b).node m).earlyBeat = (s.node m).earlyBeat := s.earlyBeat_modNode m n (by simp)

@[simp] theorem State.notifyAll_node_earlyBeat (tag : EventTag) (b : List Field) :
    ((s.notifyAll tag b).node m).earlyBeat = (s.node m).earlyBeat := by simp [State.node_notifyAll]

@[simp] theorem State.notifyOthers_node_earlyBeat (but : NodeId) (tag : EventTag) (b : List Field) :
    ((s.notifyOthers but tag b).node m).earlyBeat = (s.node m).earlyBeat := by
  rw [State.node_notifyOthers]
  split <;> simp

@[simp] theorem State.spanNotice_node_earlyBeat (j : SpanId) (k : SpanNotice) (more : List Field) :
    ((s.spanNotice j k more).node m).earlyBeat = (s.node m).earlyBeat := s.notifyAll_node_earlyBeat ..

@[simp] theorem State.healthNotice_node_earlyBeat (j : SpanId) (k : SpanNotice) (more : List Field) :
    ((s.healthNotice j k more).node m).earlyBeat = (s.node m).earlyBeat := s.notifyAll_node_earlyBeat ..

@[simp] theorem State.restored_node_earlyBeat (j : SpanId) :
    ((s.restored j).node m).earlyBeat = (s.node m).earlyBeat := s.healthNotice_node_earlyBeat ..

/-! ## The Frame Table and the Settle Hold -/

@[simp] theorem State.deliver_node_earlyBeat (f : Frame) (status : FrameStatus) (body : List Field) :
    ((s.deliver f status body).node m).earlyBeat = (s.node m).earlyBeat := by
  simp [State.deliver, State.earlyBeat_ite]

@[simp] theorem State.finishFrame_node_earlyBeat (i : Nat) (f : Frame) :
    ((s.finishFrame i f).node m).earlyBeat = (s.node m).earlyBeat := s.deliver_node_earlyBeat ..

@[simp] theorem State.finishIfDone_node_earlyBeat (i : Nat) :
    ((s.finishIfDone i).node m).earlyBeat = (s.node m).earlyBeat := by
  rcases s.finishIfDone_cases i with ⟨h, -⟩ | ⟨f, -, -, h⟩ <;> simp [h]

@[simp] theorem State.takeOutcome_node_earlyBeat (p : Nat) (o : PieceOutcome) :
    ((s.takeOutcome p o).node m).earlyBeat = (s.node m).earlyBeat := by
  rcases s.takeOutcome_cases p o with h | ⟨pc, -, h⟩ <;> simp [h]

@[simp] theorem State.loseQueue_node_earlyBeat (j : SpanId) :
    ((s.loseQueue j).node m).earlyBeat = (s.node m).earlyBeat := by
  have hlost : (((s.queued j).foldl (fun s p => s.takeOutcome p .spanLost) (s.emptied j)).node m).earlyBeat =
      (s.node m).earlyBeat := foldl_keeps (fun u : State => (u.node m).earlyBeat) _ (by simp) _ _
  rw [State.loseQueue_eq, State.earlyBeat_ite]
  simpa using hlost

@[simp] theorem State.withdrawFrame_node_earlyBeat (r : CancelReason) (i : Nat) :
    ((State.withdrawFrame r s i).node m).earlyBeat = (s.node m).earlyBeat := by
  rcases s.withdrawFrame_cases r i with h | ⟨f, -, -, h⟩
  · rw [h]
  · rw [h, State.finishIfDone_node_earlyBeat]
    exact foldl_keeps (fun u : State => (u.node m).earlyBeat) _ (by simp) f.pieceRefs (s.reasoned i f r)

@[simp] theorem State.cancelStream_node_earlyBeat (i : StreamId) :
    ((s.cancelStream i).node m).earlyBeat = (s.node m).earlyBeat :=
  foldl_keeps (fun u : State => (u.node m).earlyBeat) _ (by simp) _ s

@[simp] theorem State.cancelOwed_node_earlyBeat (i : StreamId) (n : NodeId) (e : Epoch) :
    ((s.cancelOwed i n e).node m).earlyBeat = (s.node m).earlyBeat :=
  foldl_keeps (fun u : State => (u.node m).earlyBeat) _ (by simp) _ s

@[simp] theorem State.releaseFrame_node_earlyBeat (i : Nat) :
    ((s.releaseFrame i).node m).earlyBeat = (s.node m).earlyBeat := by
  rcases s.releaseFrame_cases i with h | ⟨f, -, -, h⟩
  · rw [h]
  · rw [h, State.finishIfDone_node_earlyBeat]
    exact foldl_keeps (fun u : State => (u.node m).earlyBeat) _ (by simp) (s.heldOf f) (s.dueFrame i)

@[simp] theorem State.takeLate_node_earlyBeat (l : LateFrame) :
    ((s.takeLate l).node m).earlyBeat = (s.node m).earlyBeat := by
  unfold State.takeLate
  split
  · rfl
  · split
    · split <;> simp [State.earlyBeat_ite]
    · rfl

@[simp] theorem State.acceptRead_node_earlyBeat (n : NodeId) (rec : List Byte) (st : Stream) (kind : FrameKind)
    (deadline : Option Time) : ((s.acceptRead n rec st kind deadline).node m).earlyBeat = (s.node m).earlyBeat :=
  State.acceptRead_keeps (fun u => (u.node m).earlyBeat) (fun _ _ _ => rfl) (fun _ _ _ => rfl) (by simp) (by simp)
    (by simp) (by simp) ..

@[simp] theorem State.readFrame_node_earlyBeat (n : NodeId) (rec : List Byte) :
    ((s.readFrame n rec).node m).earlyBeat = (s.node m).earlyBeat := by
  unfold State.readFrame
  split
  · simp [State.refuseRead]
  · dsimp only
    split
    · simp [State.earlyBeat_ite, State.skipRead]
    · split <;> simp [State.earlyBeat_ite, State.failRead]

/-! ## Streams -/

@[simp] theorem State.recomputeOvercommit_node_earlyBeat (j : SpanId) :
    ((s.recomputeOvercommit j).node m).earlyBeat = (s.node m).earlyBeat := by
  simp [State.recomputeOvercommit, State.earlyBeat_ite]

@[simp] theorem State.commit_node_earlyBeat (e : SpanEntry) :
    ((s.commit e).node m).earlyBeat = (s.node m).earlyBeat := by simp [State.commit]

@[simp] theorem State.uncommit_node_earlyBeat (e : SpanEntry) :
    ((s.uncommit e).node m).earlyBeat = (s.node m).earlyBeat := by simp [State.uncommit, State.earlyBeat_ite]

@[simp] theorem State.freeStream_node_earlyBeat (h : Handle) :
    ((s.freeStream h).node m).earlyBeat = (s.node m).earlyBeat := by
  unfold State.freeStream
  split
  · rfl
  · exact foldl_keeps (fun u : State => (u.node m).earlyBeat) _ (by simp) _ s

@[simp] theorem State.tryOpen_node_earlyBeat (n : NodeId) (a : OpenArgs) :
    ((s.tryOpen n a).node m).earlyBeat = (s.node m).earlyBeat := by
  unfold State.tryOpen
  split
  · simp
  · dsimp only
    split
    · simp
    · split
      · rw [State.result_node_earlyBeat]
        exact foldl_keeps (fun u : State => (u.node m).earlyBeat) _ (by simp) _ s
      · simp

@[simp] theorem State.releaseAbsent_node_earlyBeat (j : SpanId) :
    ((s.releaseAbsent j).node m).earlyBeat = (s.node m).earlyBeat := by
  rw [State.releaseAbsent, State.recomputeOvercommit_node_earlyBeat, State.updateDegraded_node]
  rfl

@[simp] theorem State.stopStream_node_earlyBeat (n : NodeId) (code : Nat) (i : StreamId) (st : Stream) (z : Bool) :
    ((s.stopStream n code i st z).node m).earlyBeat = (s.node m).earlyBeat := by
  simp [State.stopStream, State.earlyBeat_ite]

@[simp] theorem State.noticeOrphaned_node_earlyBeat (former : NodeId) (h : Handle) :
    ((State.noticeOrphaned former s h).node m).earlyBeat = (s.node m).earlyBeat := by
  unfold State.noticeOrphaned
  split <;> simp

@[simp] theorem State.orphanExpires_node_earlyBeat (h : Handle) :
    ((s.orphanExpires h).node m).earlyBeat = (s.node m).earlyBeat := by
  unfold State.orphanExpires
  split
  · rfl
  · simp [State.earlyBeat_ite]

@[simp] theorem State.zeroGrace_node_earlyBeat (hs : List Handle) :
    ((s.zeroGrace hs).node m).earlyBeat = (s.node m).earlyBeat := by
  have hexpired : ((hs.foldl State.orphanExpires s).node m).earlyBeat = (s.node m).earlyBeat :=
    foldl_keeps (fun u : State => (u.node m).earlyBeat) _ (by simp) hs s
  simp [State.zeroGrace, State.earlyBeat_ite, hexpired]

/-! ## Nodes that leave -/

@[simp] theorem State.leaveStreams_node_earlyBeat (n : NodeId) (f : Stream → Stream) :
    ((s.leaveStreams n f).node m).earlyBeat = (s.node m).earlyBeat := rfl

@[simp] theorem State.oweCancels_node_earlyBeat (n : NodeId) (hs : List Handle) :
    ((s.oweCancels n hs).node m).earlyBeat = (s.node m).earlyBeat := rfl

@[simp] theorem State.releaseClaim_node_earlyBeat (n : NodeId) :
    ((s.releaseClaim n).node m).earlyBeat = (s.node m).earlyBeat := by
  simp [State.releaseClaim, State.earlyBeat_ite]

@[simp] theorem State.noticeClaim_node_earlyBeat (n : NodeId) (released : Bool) :
    ((s.noticeClaim n released).node m).earlyBeat = (s.node m).earlyBeat := by
  simp [State.noticeClaim, State.earlyBeat_ite]

theorem State.noticesOrphaned_node_earlyBeat (former : NodeId) (hs : List Handle) :
    ((hs.foldl (State.noticeOrphaned former) s).node m).earlyBeat = (s.node m).earlyBeat :=
  foldl_keeps (fun u : State => (u.node m).earlyBeat) _ (by simp) hs s

@[simp] theorem State.loseNode_node_earlyBeat (n : NodeId) (cause : LossCause) :
    ((s.loseNode n cause).node m).earlyBeat = (s.node m).earlyBeat := by
  simpa [State.loseNode, State.noticesOrphaned_node_earlyBeat] using s.earlyBeat_modNode m n (f := Node.lose) fun _ => rfl

@[simp] theorem State.detach_node_earlyBeat (n : NodeId) (handover : Bool) :
    ((s.detach n handover).node m).earlyBeat = (s.node m).earlyBeat := by
  have hport := s.earlyBeat_modNode m n (f := fun nd => nd.detached (s.unanswered n)) fun _ => rfl
  cases handover <;> simpa [State.detach, State.noticesOrphaned_node_earlyBeat] using hport

/-! ## Dispatch, links and presence -/

@[simp] theorem State.putInService_node_earlyBeat (j : SpanId) (k : SlotId) (p : Nat) (pc : Piece) :
    ((s.putInService j k p pc).node m).earlyBeat = (s.node m).earlyBeat := by
  unfold State.putInService
  dsimp only
  split <;> simp

theorem State.dispatchOne_node_earlyBeat {s t : State} {j : SpanId} {c : Choice} (h : s.dispatchOne j c = some t) :
    (t.node m).earlyBeat = (s.node m).earlyBeat := by
  unfold State.dispatchOne at h
  split at h
  · cases h
    simp
  · cases h

@[simp] theorem State.reportLink_node_earlyBeat (j : SpanId) :
    ((s.reportLink j).node m).earlyBeat = (s.node m).earlyBeat := rfl

@[simp] theorem State.holdExpires_node_earlyBeat (j : SpanId) :
    ((s.holdExpires j).node m).earlyBeat = (s.node m).earlyBeat := by simp [State.holdExpires]

@[simp] theorem State.leaveUp_node_earlyBeat (j : SpanId) (cause : LinkDownCause) :
    ((s.leaveUp j cause).node m).earlyBeat = (s.node m).earlyBeat := by
  simp [State.leaveUp, State.earlyBeat_ite]

@[simp] theorem State.becomeAbsent_node_earlyBeat (j : SpanId) :
    ((s.becomeAbsent j).node m).earlyBeat = (s.node m).earlyBeat := by simp [State.becomeAbsent]

@[simp] theorem State.resetLink_node_earlyBeat (j : SpanId) :
    ((s.resetLink j).node m).earlyBeat = (s.node m).earlyBeat := by
  unfold State.resetLink
  split <;> simp

/-! ## Monitors and parameters -/

@[simp] theorem State.handOn_node_earlyBeat (j : SpanId) (before : Monitor) :
    ((s.handOn j before).node m).earlyBeat = (s.node m).earlyBeat := by
  simp [State.handOn, State.earlyBeat_ite]

@[simp] theorem State.judgeWindow_node_earlyBeat (j : SpanId) :
    ((s.judgeWindow j).node m).earlyBeat = (s.node m).earlyBeat := by
  simp [State.judgeWindow, State.earlyBeat_ite]

@[simp] theorem State.configureCeiling_node_earlyBeat (j : SpanId) (c f : Nat) :
    ((s.configureCeiling j c f).node m).earlyBeat = (s.node m).earlyBeat := by
  simp [State.configureCeiling, State.earlyBeat_ite]

@[simp] theorem State.configureFloor_node_earlyBeat (j : SpanId) (f : Nat) :
    ((s.configureFloor j f).node m).earlyBeat = (s.node m).earlyBeat := by
  simp [State.configureFloor, State.earlyBeat_ite]

@[simp] theorem State.setPart_node_earlyBeat (n : NodeId) (span number v : Nat) :
    ((s.setPart n span number v).node m).earlyBeat = (s.node m).earlyBeat := by simp [State.setPart]

@[simp] theorem State.setSpan_node_earlyBeat (n : NodeId) (j : SpanId) (number v : Nat) :
    ((s.setSpan n j number v).node m).earlyBeat = (s.node m).earlyBeat := by simp [State.setSpan]

@[simp] theorem State.admissionTakesPart_node_earlyBeat (x : Nat × Nat) :
    ((s.admissionTakesPart x).node m).earlyBeat = (s.node m).earlyBeat := by
  unfold State.admissionTakesPart
  split <;> rfl

@[simp] theorem State.monitorTakes_node_earlyBeat (j : SpanId) (x : Nat × Nat) :
    ((State.monitorTakes j s x).node m).earlyBeat = (s.node m).earlyBeat := by
  simp [State.monitorTakes, State.earlyBeat_ite]

theorem Node.takes_earlyBeat (nd : Node) (x : Nat × Nat) : (nd.takes x).earlyBeat = nd.earlyBeat := by
  unfold Node.takes
  split <;> rfl

@[simp] theorem State.takeParams_node_earlyBeat (b : ParamBlock) (scope : Option SpanId) (values : List (Nat × Nat)) :
    ((s.takeParams b scope values).node m).earlyBeat = (s.node m).earlyBeat := by
  unfold State.takeParams
  split
  · exact foldl_keeps (fun u : State => (u.node m).earlyBeat) _ (by simp) values s
  · simp
  · rfl
  · exact s.earlyBeat_modNode m _ fun nd => foldl_keeps Node.earlyBeat _ Node.takes_earlyBeat values nd
  · simp
  · simp
  · exact foldl_keeps (fun u : State => (u.node m).earlyBeat) _ (by simp) values s
  · simp

end

end Sys2Proof.Machine
end

section
/-! PROOFS. EARLY_BEAT through every row: only the resets, and ATTACH and CLEAR_NODE_FLAGS of its own node, clear it (R150,
R152, R173, R177). -/

namespace Sys2Proof.Machine

open Host (Outcome)

/-! ## The rows that take reports and commands -/

/-- An event that leaves EARLY_BEAT of node `m` set where it was set. -/
def EarlyBeatStands (m : NodeId) (s : State) (o : Outcome State Fault Refusal) : Prop :=
  ∀ t, o = .next t → (s.node m).earlyBeat = true → (t.node m).earlyBeat = true

section

variable {s t : State} {m n : NodeId} {code : Nat}

theorem EarlyBeatStands.same (h : (t.node m).earlyBeat = (s.node m).earlyBeat) : EarlyBeatStands m s (.next t) :=
  fun _ e hs => by
    cases e
    exact h.trans hs

theorem EarlyBeatStands.stay : EarlyBeatStands m s (.next s) := .same rfl

theorem EarlyBeatStands.stay_or {c : Prop} [Decidable c] (h : (t.node m).earlyBeat = (s.node m).earlyBeat) :
    EarlyBeatStands m s (if c then .next t else .next s) := by
  split
  · exact .same h
  · exact .stay

theorem withReport_earlyBeat {channel : Report → Bool} {act : Report → State → Option State}
    (h : ∀ r (u t : State), act r u = some t → (t.node m).earlyBeat = (u.node m).earlyBeat) :
    EarlyBeatStands m s (withReport s channel act) := fun t ht hs => by
  rcases withReport_cases ht with rfl | ⟨r, before, after, -, ht⟩
  · exact hs
  · exact (h r _ t ht).trans hs

/-- The same for an event whose action always goes on. -/
theorem withReport_some_earlyBeat {channel : Report → Bool} {f : Report → State → State}
    (h : ∀ r (u : State), ((f r u).node m).earlyBeat = (u.node m).earlyBeat) :
    EarlyBeatStands m s (withReport s channel fun r u => some (f r u)) :=
  withReport_earlyBeat fun r u t e => by
    cases e
    exact h r u

theorem State.taken_node_earlyBeat (s : State) (m n : NodeId) (rest : List (List Byte)) :
    ((s.taken n rest).node m).earlyBeat = (s.node m).earlyBeat :=
  s.earlyBeat_modNode m n (f := fun nd => { nd with commands := rest }) fun _ => rfl

theorem withCommand_earlyBeat {act : List Byte → State → State}
    (h : ∀ rec (u : State), ((act rec u).node m).earlyBeat = (u.node m).earlyBeat) :
    EarlyBeatStands m s (withCommand n code s act) := fun t ht hs => by
  rcases withCommand_cases ht with rfl | ⟨rec, rest, -, rfl⟩
  · exact hs
  · exact (h rec _).trans ((s.taken_node_earlyBeat m n rest).trans hs)

theorem withAttached_earlyBeat {act : List Byte → State → State}
    (h : ∀ rec (u : State), ((act rec u).node m).earlyBeat = (u.node m).earlyBeat) :
    EarlyBeatStands m s (withAttached n code s act) :=
  withCommand_earlyBeat fun rec u => by simp [State.earlyBeat_ite, h]

theorem withClaim_earlyBeat {act : List Byte → State → State}
    (h : ∀ rec (u : State), ((act rec u).node m).earlyBeat = (u.node m).earlyBeat) :
    EarlyBeatStands m s (withClaim n code s act) :=
  withAttached_earlyBeat fun rec u => by simp [State.earlyBeat_ite, h]

theorem withOwned_earlyBeat {i : StreamId} {act : Stream → State → State}
    (h : ∀ st, ((act st s).node m).earlyBeat = (s.node m).earlyBeat) :
    ((s.withOwned n code i act).node m).earlyBeat = (s.node m).earlyBeat := by
  unfold State.withOwned
  split
  · simp
  · simp [State.earlyBeat_ite, h]

/-! ## The windows of a port -/

theorem windowAccess_earlyBeat {f : Node → Node} (h : ∀ nd, (f nd).earlyBeat = nd.earlyBeat) :
    EarlyBeatStands m s (if (s.node n).linkUp then .next (s.modNode n f) else .next s) :=
  .stay_or (s.earlyBeat_modNode m n h)

theorem Node.commandWrite_earlyBeat (nd : Node) (bytes : List Byte) : (nd.commandWrite bytes).earlyBeat = nd.earlyBeat := by
  unfold Node.commandWrite
  split <;> rfl

theorem Node.announce_earlyBeat (nd : Node) (now : Time) : (nd.announce now).earlyBeat = nd.earlyBeat := by
  unfold Node.announce
  split
  · rfl
  · split
    · simp
    · rfl

theorem Node.eventRead_earlyBeat (nd : Node) (now : Time) (len : Nat) :
    (nd.eventRead now len).earlyBeat = nd.earlyBeat := by
  unfold Node.eventRead
  split
  · rfl
  · exact Node.announce_earlyBeat ..

/-! ## The rows of the nodes -/

theorem unknownCommand_earlyBeat : EarlyBeatStands m s (execUnknownCommand n s) := by
  unfold execUnknownCommand
  split
  · exact .stay
  · refine .stay_or ?_
    rw [State.result_node_earlyBeat]
    exact s.earlyBeat_modNode m n fun _ => rfl

/-- ATTACH clears the flag of its own node alone. -/
theorem attach_earlyBeat (hm : m ≠ n) : EarlyBeatStands m s (execAttach n s) :=
  withCommand_earlyBeat fun rec u => by simp [State.earlyBeat_ite, State.node_modNode_ne _ hm]

/-- So does CLEAR_NODE_FLAGS. -/
theorem clearNodeFlags_earlyBeat (hm : m ≠ n) : EarlyBeatStands m s (execClearNodeFlags n s) :=
  withAttached_earlyBeat fun rec u => by simp [State.node_modNode_ne _ hm]

/-- A HEARTBEAT sets the flag or leaves it. -/
theorem heartbeat_earlyBeat : EarlyBeatStands m s (execHeartbeat n s) := fun t ht hs => by
  have htaken (rest : List (List Byte)) : ((s.taken n rest).node m).earlyBeat = true :=
    (s.taken_node_earlyBeat m n rest).trans hs
  rcases withAttached_cases ht with rfl | ⟨rec, rest, -, -, rfl⟩ | ⟨rec, rest, -, rfl⟩
  · exact hs
  · simpa using htaken rest
  · split
    · simpa using htaken rest
    · by_cases hm : m = n
      · subst hm
        simp [State.earlyBeat_ite, hs]
      · simpa [State.earlyBeat_ite, State.node_modNode_ne _ hm] using htaken rest

theorem heartbeatTimerExpiry_earlyBeat : EarlyBeatStands m s (execHeartbeatTimerExpiry n s) := by
  unfold execHeartbeatTimerExpiry
  split
  · exact .stay
  · exact .stay_or (by simp)

theorem pcieLinkDown_earlyBeat : EarlyBeatStands m s (execPcieLinkDown n s) := by
  have hdown := s.earlyBeat_modNode m n (f := fun nd => { nd with linkUp := false }) fun _ => rfl
  unfold execPcieLinkDown
  dsimp only
  split
  · exact .same ((State.loseNode_node_earlyBeat ..).trans hdown)
  · exact .same hdown

theorem pcieLinkUp_earlyBeat : EarlyBeatStands m s (execPcieLinkUp n s) := by
  unfold execPcieLinkUp
  split
  · exact .stay
  · exact .same (s.earlyBeat_modNode m n fun _ => rfl)

theorem queryPart_earlyBeat : EarlyBeatStands m s (execQueryPart n s) :=
  withCommand_earlyBeat fun _ _ => by simp

/-! ## The rows of the streams -/

theorem closeStream_earlyBeat : EarlyBeatStands m s (execCloseStream n s) :=
  withAttached_earlyBeat fun _ _ => withOwned_earlyBeat fun _ => by simp [State.earlyBeat_ite]

theorem adopt_earlyBeat : EarlyBeatStands m s (execAdopt n s) := by
  refine withAttached_earlyBeat fun rec u => ?_
  dsimp only
  split <;> simp [State.earlyBeat_ite]

theorem queryStream_earlyBeat : EarlyBeatStands m s (execQueryStream n s) := by
  refine withAttached_earlyBeat fun rec u => ?_
  split <;> simp

theorem play_earlyBeat : EarlyBeatStands m s (execPlay n s) :=
  withAttached_earlyBeat fun _ _ => withOwned_earlyBeat fun _ => by simp [State.earlyBeat_ite]

theorem scrub_earlyBeat : EarlyBeatStands m s (execScrub n s) :=
  withAttached_earlyBeat fun _ _ => withOwned_earlyBeat fun _ => by simp [State.earlyBeat_ite]

theorem orphanTimerExpiry_earlyBeat {h : Handle} : EarlyBeatStands m s (execOrphanTimerExpiry h s) := by
  unfold execOrphanTimerExpiry
  split
  · exact .stay
  · split
    · exact .stay
    · exact .stay_or (by simp)

theorem drainEnd_earlyBeat {h : Handle} : EarlyBeatStands m s (execDrainEnd h s) := by
  unfold execDrainEnd
  split
  · exact .stay
  · exact .stay_or (by simp)

theorem settleTimerExpiry_earlyBeat {h : Handle} : EarlyBeatStands m s (execSettleTimerExpiry h s) := by
  unfold execSettleTimerExpiry
  split
  · exact .stay
  · split
    · exact .stay
    · exact .stay_or (foldl_keeps (fun u : State => (u.node m).earlyBeat) _ (by simp) _ _)

/-! ## The rows of the Configuration Block and the monitors -/

theorem configBegin_earlyBeat : EarlyBeatStands m s (execConfigBegin n s) := by
  refine withAttached_earlyBeat fun rec u => ?_
  split <;> simp [State.earlyBeat_ite]

theorem configSet_earlyBeat : EarlyBeatStands m s (execConfigSet n s) := by
  refine withClaim_earlyBeat fun rec u => ?_
  split <;> simp

theorem configGet_earlyBeat : EarlyBeatStands m s (execConfigGet n s) := by
  refine withAttached_earlyBeat fun rec u => ?_
  dsimp only
  split <;> simp

theorem configEnd_earlyBeat : EarlyBeatStands m s (execConfigEnd n s) :=
  withClaim_earlyBeat fun _ _ => by simp

theorem querySpan_earlyBeat : EarlyBeatStands m s (execQuerySpan n s) := by
  refine withAttached_earlyBeat fun rec u => ?_
  split <;> simp

theorem clearTrip_earlyBeat : EarlyBeatStands m s (execClearTrip n s) := by
  refine withClaim_earlyBeat fun rec u => ?_
  split <;> simp [State.earlyBeat_ite]

theorem ackSpanStatus_earlyBeat : EarlyBeatStands m s (execAckSpanStatus n s) := by
  refine withAttached_earlyBeat fun rec u => ?_
  split <;> simp

theorem linkReset_earlyBeat : EarlyBeatStands m s (execLinkReset n s) := by
  refine withClaim_earlyBeat fun rec u => ?_
  split <;> simp [State.earlyBeat_ite]

/-! ## The rows of the queues and the Span Service Units -/

section

variable {j : SpanId}

theorem deadlineExpiry_earlyBeat : EarlyBeatStands m s (execDeadlineExpiry j s) := by
  unfold execDeadlineExpiry
  split
  · exact .stay
  · exact .stay_or (by simp)

theorem windowOpeningExpiry_earlyBeat : EarlyBeatStands m s (execWindowOpeningExpiry j s) := by
  unfold execWindowOpeningExpiry
  split
  · exact .stay
  · exact .stay_or (by simp)

theorem dispatch_earlyBeat : EarlyBeatStands m s (execDispatch j s) := by
  have ended : EarlyBeatStands m s (.next (s.endSelection j)) := .same (by simp [State.endSelection])
  unfold execDispatch
  split
  · exact .stay
  · split
    · split
      · exact ended
      · split
        · exact ended
        · rename_i ht
          exact .same (State.dispatchOne_node_earlyBeat m ht)
    · exact ended

theorem extentDone_earlyBeat {slot gen result : Byte} : EarlyBeatStands m s (execExtentDone j slot gen result s) := by
  have stale : EarlyBeatStands m s (.next (s.modService j SpanService.stale)) := .same (by simp)
  unfold execExtentDone
  split
  · exact stale
  · dsimp only
    split
    · split
      · exact .same rfl
      · exact .same rfl
      · exact stale
    · exact stale

theorem slotExpiry_earlyBeat {k : SlotId} : EarlyBeatStands m s (execSlotExpiry j k s) := by
  unfold execSlotExpiry
  dsimp only
  split
  · exact .stay_or rfl
  · exact .stay

theorem ready_earlyBeat {attempt : Byte} : EarlyBeatStands m s (execReady j attempt s) := by
  unfold execReady
  split
  · exact .stay_or (by simp)
  · exact .stay

theorem trainingAttemptExpiry_earlyBeat : EarlyBeatStands m s (execTrainingAttemptExpiry j s) := by
  unfold execTrainingAttemptExpiry
  split
  · split
    · split <;> exact .same (by simp)
    · exact .stay
  · exact .stay

theorem relinkHoldExpiry_earlyBeat : EarlyBeatStands m s (execRelinkHoldExpiry j s) := by
  unfold execRelinkHoldExpiry
  split
  · exact .stay
  · exact .stay_or (by simp)

theorem presenceDeasserted_earlyBeat : EarlyBeatStands m s (execPresenceDeasserted j s) := by
  unfold execPresenceDeasserted
  dsimp only
  split <;> exact .same (by simp)

theorem presenceAsserted_earlyBeat : EarlyBeatStands m s (execPresenceAsserted j s) := by
  unfold execPresenceAsserted
  dsimp only
  split <;> exact .same (by simp)

end

/-! ## The reports among the blocks -/

theorem cancelUndispatched_earlyBeat {h : Handle} : EarlyBeatStands m s (execCancelUndispatched h s) := by
  refine withReport_earlyBeat fun r u t e => ?_
  split at e <;> cases e
  simp

theorem absentRelease_earlyBeat {j : SpanId} : EarlyBeatStands m s (execAbsentRelease j s) := by
  refine withReport_earlyBeat fun r u t e => ?_
  split at e <;> cases e
  simp

theorem linkStateReport_earlyBeat {j : SpanId} : EarlyBeatStands m s (execLinkStateReport j s) := by
  refine withReport_earlyBeat fun r u t e => ?_
  split at e <;> cases e
  simp

theorem ceilingReport_earlyBeat {j : SpanId} : EarlyBeatStands m s (execCeilingReport j s) := by
  refine withReport_earlyBeat fun r u t e => ?_
  split at e <;> cases e
  simp

theorem pieceOutcome_earlyBeat {p : Nat} : EarlyBeatStands m s (execPieceOutcome p s) := by
  refine withReport_earlyBeat fun r u t e => ?_
  split at e <;> cases e
  simp

theorem lateReport_earlyBeat {j : SpanId} : EarlyBeatStands m s (execLateReport j s) := by
  refine withReport_earlyBeat fun r u t e => ?_
  split at e <;> cases e
  simp

theorem maskWrite_earlyBeat {j : SpanId} : EarlyBeatStands m s (execMaskWrite j s) := by
  refine withReport_earlyBeat fun r u t e => ?_
  split at e <;> cases e
  simp [State.earlyBeat_ite]

theorem latencyReport_earlyBeat {j : SpanId} : EarlyBeatStands m s (execLatencyReport j s) := by
  refine withReport_earlyBeat fun r u t e => ?_
  split at e <;> cases e
  simp

theorem parameterReport_earlyBeat {b : ParamBlock} : EarlyBeatStands m s (execParameterReport b s) := by
  refine withReport_earlyBeat fun r u t e => ?_
  split at e <;> cases e
  simp

theorem configuredCeilingChange_earlyBeat {j : SpanId} : EarlyBeatStands m s (execConfiguredCeilingChange j s) := by
  refine withReport_earlyBeat fun r u t e => ?_
  split at e <;> cases e
  simp

theorem selection_earlyBeat {j : SpanId} : EarlyBeatStands m s (execSelection j s) :=
  withReport_some_earlyBeat fun _ u => by simp

theorem queueSpanLoss_earlyBeat {j : SpanId} : EarlyBeatStands m s (execQueueSpanLoss j s) :=
  withReport_some_earlyBeat fun _ u => by simp

theorem tripClassEvent_earlyBeat {j : SpanId} : EarlyBeatStands m s (execTripClassEvent j s) :=
  withReport_some_earlyBeat fun _ u => by simp

theorem monitorAbsent_earlyBeat {j : SpanId} : EarlyBeatStands m s (execMonitorAbsent j s) :=
  withReport_some_earlyBeat fun _ u => by simp [State.earlyBeat_ite]

/-! ## All rows -/

/-- Every row but the resets, and ATTACH and CLEAR_NODE_FLAGS of the node itself. -/
theorem exec_earlyBeat (c : Instr) (hclear : c ≠ .clearNodeFlags m) (hattach : c ≠ .attach m)
    (hpower : c ≠ .powerOnReset) (hpin : c ≠ .resetPin) (hpart : ∀ n, c ≠ .partReset n) : EarlyBeatStands m s (exec c s) := by
  cases c with
  | powerOnReset => exact absurd rfl hpower
  | resetPin => exact absurd rfl hpin
  | partReset n => exact absurd rfl (hpart n)
  | attach n => exact attach_earlyBeat fun e => hattach (e ▸ rfl)
  | clearNodeFlags n => exact clearNodeFlags_earlyBeat fun e => hclear (e ▸ rfl)
  | heartbeat n => exact heartbeat_earlyBeat
  | commandWindowWrite n bytes => exact windowAccess_earlyBeat fun nd => nd.commandWrite_earlyBeat bytes
  | eventWindowRead n len => exact windowAccess_earlyBeat fun nd => nd.eventRead_earlyBeat s.time len
  | windowAccessIgnored n access => exact windowAccess_earlyBeat fun _ => rfl
  | unknownCommand n => exact unknownCommand_earlyBeat
  | detach n => exact withAttached_earlyBeat fun _ u => u.detach_node_earlyBeat ..
  | queryPart n => exact queryPart_earlyBeat
  | openStream n => exact withAttached_earlyBeat fun _ u => u.tryOpen_node_earlyBeat ..
  | closeStream n => exact closeStream_earlyBeat
  | adopt n => exact adopt_earlyBeat
  | queryStream n => exact queryStream_earlyBeat
  | play n => exact play_earlyBeat
  | stop n => exact withAttached_earlyBeat fun _ u => withOwned_earlyBeat fun _ => u.stopStream_node_earlyBeat ..
  | scrub n => exact scrub_earlyBeat
  | frameRead n => exact withCommand_earlyBeat fun _ u => u.readFrame_node_earlyBeat ..
  | querySpan n => exact querySpan_earlyBeat
  | clearTrip n => exact clearTrip_earlyBeat
  | ackSpanStatus n => exact ackSpanStatus_earlyBeat
  | linkReset n => exact linkReset_earlyBeat
  | configBegin n => exact configBegin_earlyBeat
  | configSet n => exact configSet_earlyBeat
  | configGet n => exact configGet_earlyBeat
  | configEnd n => exact configEnd_earlyBeat
  | pcieLinkDown n => exact pcieLinkDown_earlyBeat
  | pcieLinkUp n => exact pcieLinkUp_earlyBeat
  | heartbeatTimerExpiry n => exact heartbeatTimerExpiry_earlyBeat
  | orphanTimerExpiry h => exact orphanTimerExpiry_earlyBeat
  | cancelUndispatched h => exact cancelUndispatched_earlyBeat
  | drainEnd h => exact drainEnd_earlyBeat
  | absentRelease j => exact absentRelease_earlyBeat
  | linkStateReport j => exact linkStateReport_earlyBeat
  | ceilingReport j => exact ceilingReport_earlyBeat
  | pieceOutcome p => exact pieceOutcome_earlyBeat
  | deadlineExpiry j => exact deadlineExpiry_earlyBeat
  | lateReport j => exact lateReport_earlyBeat
  | windowOpeningExpiry j => exact windowOpeningExpiry_earlyBeat
  | selection j => exact selection_earlyBeat
  | dispatch j => exact dispatch_earlyBeat
  | maskWrite j => exact maskWrite_earlyBeat
  | settleTimerExpiry h => exact settleTimerExpiry_earlyBeat
  | extentDone j slot gen result => exact extentDone_earlyBeat
  | slotExpiry j k => exact slotExpiry_earlyBeat
  | ready j attempt => exact ready_earlyBeat
  | trainingAttemptExpiry j => exact trainingAttemptExpiry_earlyBeat
  | linkLossIndication j => exact .stay_or (State.leaveUp_node_earlyBeat ..)
  | relinkHoldExpiry j => exact relinkHoldExpiry_earlyBeat
  | queueSpanLoss j => exact queueSpanLoss_earlyBeat
  | presenceDeasserted j => exact presenceDeasserted_earlyBeat
  | presenceAsserted j => exact presenceAsserted_earlyBeat
  | spanMessageOther j bytes => exact .stay
  | latencyReport j => exact latencyReport_earlyBeat
  | tripClassEvent j => exact tripClassEvent_earlyBeat
  | monitorWindowExpiry j => exact .stay_or (s.judgeWindow_node_earlyBeat ..)
  | monitorAbsent j => exact monitorAbsent_earlyBeat
  | parameterReport b => exact parameterReport_earlyBeat
  | configuredCeilingChange j => exact configuredCeilingChange_earlyBeat

end

end Sys2Proof.Machine
end

section
/-! PROOFS. HEARTBEAT (R151, R152, R167, R189). -/

namespace Sys2Proof.Machine

section

variable {n : NodeId} {s : State} {rec : List Byte} {rest : List (List Byte)}

theorem withAttached_of_not_attached {code : Nat} (h : s.heads n code rec rest) (ha : (s.node n).state ≠ .attached)
    (act : List Byte → State → State) :
    withAttached n code s act = .next ((s.taken n rest).result n code .notAttached []) := by
  rw [withAttached, withCommand_of_heads h]
  simp [ha]

theorem exec_heartbeat_not_attached (h : s.heads n 3 rec rest) (ha : (s.node n).state ≠ .attached) :
    exec (.heartbeat n) s = .next ((s.taken n rest).result n 3 .notAttached []) := by
  change execHeartbeat n s = _
  rw [execHeartbeat, withAttached_of_not_attached h ha]

variable {hb : Heartbeat}

theorem exec_heartbeat_early (h : s.issues n 3 rec rest) (hbeat : (s.node n).heartbeat = some hb)
    (he : timeDiff s.time hb.last < hb.earlyBound) :
    exec (.heartbeat n) s = .next ((s.modNode n fun nd => { nd with commands := rest, earlyBeat := true }).result n 3
      .early ([fInt (timeDiff s.time hb.last), fTime (plusMicros hb.last hb.earlyBound)] ++ hb.held)) := by
  change execHeartbeat n s = _
  rw [execHeartbeat, withAttached_of_issues h]
  simp [hbeat, he, State.taken, State.modNode_modNode]

theorem exec_heartbeat_accepted (h : s.issues n 3 rec rest) (hbeat : (s.node n).heartbeat = some hb)
    (he : hb.earlyBound ≤ timeDiff s.time hb.last) :
    let new := (s.node n).freshHeartbeat s.time
    exec (.heartbeat n) s = .next ((s.modNode n fun nd => { nd with commands := rest, heartbeat := some new }).result n 3
      .ok ([fInt (timeDiff s.time hb.last), fTime new.expiry, fTime (plusMicros s.time new.earlyBound)] ++ new.held)) := by
  change execHeartbeat n s = _
  rw [execHeartbeat, withAttached_of_issues h]
  simp [hbeat, Int.not_lt.2 he, State.taken, State.modNode_modNode, Node.freshHeartbeat]

end

/-- Settles O13: HEARTBEAT by the node's state and the early bound, and EARLY_BEAT row by row. -/
theorem heartbeatIsEarlyOrRestartsTheTimer : Obligations.HeartbeatIsEarlyOrRestartsTheTimer := by
  refine ⟨fun n s rec rest h => ⟨exec_heartbeat_not_attached h, fun hb ha hbeat => ⟨fun he => ?_, fun he => ?_⟩⟩,
    fun c s t n ht hs => ?_⟩
  · exact exec_heartbeat_early ⟨h, ha⟩ hbeat he
  · exact exec_heartbeat_accepted ⟨h, ha⟩ hbeat he
  · by_contra hn
    simp only [not_or, not_exists] at hn
    obtain ⟨hlost, hclear, hattach, hpower, hpin, hpart⟩ := hn
    exact hlost (exec_earlyBeat c hclear hattach hpower hpin hpart t ht hs)

end Sys2Proof.Machine
end
